-- ==== Sys2Proof/Word.lean ====
section
/-! DEFINITION. The word types of the MX628: the bytes of its two links, the sample values, the tick count
and the hinge-unit angles. -/

namespace Sys2Proof

/-- One byte of a Host Link or Dock Link frame (chapter 11). -/
abbrev Byte := BitVec 8

/-- One sample value: a signed 16-bit number in two's complement (scope, Quantities). -/
abbrev Value := BitVec 16

/-- The tick count of the Timebase: 32 bits, wrapping (R1). -/
abbrev Tick := BitVec 32

/-- An angle in hinge units, 0..4095, 4096 to the turn (scope, Angles). -/
abbrev Angle := BitVec 12

end Sys2Proof
end

