-- ==== Sys2Proof/Config.lean ====
section
/-! DEFINITION. The free values: what the manual leaves open, as constants without a body. No proof can see
what they are, so whatever is proved holds for every choice of them. -/

namespace Sys2Proof

/-- Bit 1 of offset 10 of a STATE body shows the reason AXIS, clear for STALE. While the hinge is resolved there is
no reason (R49, R60), and the manual does not say what the bit shows then. FREE VALUE, notes/assumptions/32. -/
opaque Config.axisBitWhileResolved : Bool

/-- R178 reads a Posture Table row with a reserved posture, attitude or hall code as a disabled row and does not
say which code that field of the disabled row shows when the active copy is read back. FREE VALUE, a function of
the code written, notes/assumptions/3. -/
opaque Config.reservedRowCode : Byte → Byte

/-- R118 lists what a pen removal does without ordering the PEN event of the entry to ABSENT against the clearing of
the fault count c: whether that event carries 0 or the count before the removal is open. FREE VALUE, notes/assumptions/4. -/
opaque Config.removalClearsFirst : Bool

end Sys2Proof
end

