-- ==== Sys2Proof/Syntax.lean ====
section
/-! DEFINITION. The commands of the MX628: one constructor of `Instr` for each row of spec/opcode_table.json. A
command is what reaches the block from outside: a reset, a tick boundary with what the ports read there, the end of
a Sensor Bus poll, a step of the Route Engine, the expiry of a timer, a reply of the keyboard base, an edge of chip
select, or a command frame taken from the host. -/

namespace Sys2Proof

/-- The eleven sample sources, in source-number order (section 1.2). -/
inductive Source where
  | lida | lidg | basa | als | halc | half | coil | pcel | ctmp | penp | dsns
deriving DecidableEq, Repr

/-- The levels of the four digital lines as a tick boundary finds them; `true` is asserted (R3, R15). -/
structure LineLevels where
  halc : Bool
  half : Bool
  penp : Bool
  dsns : Bool
deriving DecidableEq, Repr

/-- What a read of each converter channel gives at a tick boundary, before the clamping of R3. -/
structure ConverterReadings where
  coil : Int
  pcel : Int
  ctmp : Int
deriving DecidableEq, Repr

/-- What the polled sensor returns: the three readings of LIDA or LIDG, or the lux reading of ALS. The master uses
the part that belongs to the sensor it polled (R3). -/
structure SensorReading where
  x   : Value
  y   : Value
  z   : Value
  lux : Int
deriving DecidableEq, Repr

/-- The seven tables, in table-id order (section 10.7). -/
inductive TableId where
  | route | poll | posture | orient | curve | policy | param
deriving DecidableEq, Repr

/-- The copy of a table that TABLE_READ names (section 11.1). -/
inductive Copy where
  | active | staging
deriving DecidableEq, Repr

/-- The argument of SET_PLATFORM_STATE (section 11.2). -/
inductive HostState where
  | sleeping | awake
deriving DecidableEq, Repr

/-- One command of the block, one constructor for each row of spec/opcode_table.json. -/
inductive Instr where
  /-- POWER_ON_RESET: the supply rises. -/
  | powerOnReset
  /-- RESET_PART: the soft reset command. -/
  | resetPart (tag : Byte)
  /-- TICK: one 1024 Hz boundary, with the line levels and converter readings found there and the order in which
  the samples of the tick arrive at Intake, the Sensor Bus and BASA among them (the ports' own timing decides it, R2). -/
  | tick (lines : LineLevels) (readings : ConverterReadings) (arrival : List Source)
  /-- BUS_POLL_START: the master starts the poll at the head of the wait list. -/
  | busPollStart
  /-- POLL_SUCCESS: the poll in progress completes with data. -/
  | pollSuccess (reading : SensorReading)
  /-- NO_ACKNOWLEDGE: the sensor does not acknowledge. -/
  | noAcknowledge
  /-- BUS_TIMEOUT: the master ends a poll at its fifth tick boundary. -/
  | busTimeout
  /-- TRAVERSAL_BEGIN: the idle Route Engine takes the head record of the Intake FIFO. -/
  | traversalBegin
  /-- ROUTE_VISIT: one visit of the traversal in flight. -/
  | routeVisit
  /-- VECTOR_AGE_DISCARD: stored vectors 65536 ticks old are discarded. -/
  | vectorAgeDiscard
  /-- POSTURE_DWELL_EXPIRY: the posture dwell timer expires. -/
  | postureDwellExpiry
  /-- ROTATION_DWELL_EXPIRY: the orientation dwell timer expires. -/
  | rotationDwellExpiry
  /-- DOCK_REPLY: a reply of the base, taken whole: its bytes in order. -/
  | dockReply (frame : List Byte)
  /-- REPLY_TIMEOUT: no reply begins within the Reply Timeout. -/
  | replyTimeout
  /-- BYTE_TIMEOUT: a begun reply is not finished. -/
  | byteTimeout
  /-- RESET_PULSE_END: the 12 ms reset pulse ends. -/
  | resetPulseEnd
  /-- IDENTIFY_TIMER_EXPIRY: the 100-tick identify timer expires. -/
  | identifyTimerExpiry
  /-- SETTLE_TIMER_EXPIRY: the settle timer expires. -/
  | settleTimerExpiry
  /-- PREPARATION_TIMER_EXPIRY: the 32-tick preparation of a release ends. -/
  | preparationTimerExpiry
  /-- RELEASE_WINDOW_EXPIRY: the release window expires. -/
  | releaseWindowExpiry
  /-- RETRY_WAIT_EXPIRY: the retry wait of a faulted pen expires. -/
  | retryWaitExpiry
  /-- REST_TIMER_EXPIRY: the rest of a topped pen ends. -/
  | restTimerExpiry
  /-- GOOD_RUN_TIMER_EXPIRY: 2048 ticks of one charging run have passed. -/
  | goodRunTimerExpiry
  /-- INACTIVITY_TIMER_EXPIRY: the inactivity timer expires. -/
  | inactivityTimerExpiry
  /-- ADVICE_TIMER_EXPIRY: the advice timer expires. -/
  | adviceTimerExpiry
  /-- ATTN_PULSE_END: the 20 microsecond attention pulse ends. -/
  | attnPulseEnd
  /-- CHIP_SELECT_FALL: a transaction begins and its upstream frame is selected. -/
  | chipSelectFall
  /-- CHIP_SELECT_RISE: the transaction ends; the whole bytes the host clocked in, in order. -/
  | chipSelectRise (clocked : List Byte)
  /-- NOP. -/
  | nop (tag : Byte)
  /-- TABLE_WRITE: the bytes of `count` entries for the staging copy, from index `first` onward. -/
  | tableWrite (tag : Byte) (table : TableId) (first count : Byte) (entries : List Byte)
  /-- TABLE_READ. -/
  | tableRead (tag : Byte) (table : TableId) (copy : Copy) (first count : Byte)
  /-- TABLE_COMMIT. -/
  | tableCommit (tag : Byte) (table : TableId)
  /-- READ_STATE. -/
  | readState (tag : Byte)
  /-- ROTATION_LOCK, on or off. -/
  | rotationLock (tag : Byte) (on : Bool)
  /-- CHARGE_INHIBIT, on or off. -/
  | chargeInhibit (tag : Byte) (on : Bool)
  /-- CLEAR_FAULT. -/
  | clearFault (tag : Byte)
  /-- DETACH. -/
  | detach (tag : Byte)
  /-- DETACH_CANCEL. -/
  | detachCancel (tag : Byte)
  /-- DOCK_OUTPUT: backlight level and indicator set for the base. -/
  | dockOutput (tag : Byte) (backlight indicators : Byte)
  /-- SET_PLATFORM_STATE, SLEEPING or AWAKE. -/
  | setPlatformState (tag : Byte) (dest : HostState)
deriving DecidableEq, Repr

/-- The thirteen commands that reach the block in a downstream frame of the Host Link (sections 10.6 and 11.2). Each
is also a row of the table and so a constructor of `Instr`; this type lets a decoded frame hold a host command and
nothing else. -/
inductive HostCommand where
  | nop (tag : Byte)
  | tableWrite (tag : Byte) (table : TableId) (first count : Byte) (entries : List Byte)
  | tableRead (tag : Byte) (table : TableId) (copy : Copy) (first count : Byte)
  | tableCommit (tag : Byte) (table : TableId)
  | readState (tag : Byte)
  | rotationLock (tag : Byte) (on : Bool)
  | chargeInhibit (tag : Byte) (on : Bool)
  | clearFault (tag : Byte)
  | detach (tag : Byte)
  | detachCancel (tag : Byte)
  | dockOutput (tag : Byte) (backlight indicators : Byte)
  | setPlatformState (tag : Byte) (dest : HostState)
  | resetPart (tag : Byte)
deriving DecidableEq, Repr

end Sys2Proof
end

