-- ==== Sys2Proof/WellFormed.lean ====
section
/-! DEFINITION. What a command must satisfy to be one the block's surroundings can give. `exec` answers a next state
for ill-formed commands too; the statements that need a check name it. -/

namespace Sys2Proof

/-- A command as the surroundings can give it:
* the arrival order of a TICK names no source twice (a sample arrives once, R17);
* an illuminance is not negative (section 1.2);
* a reply taken whole is at least a header and a CRC and at most the longest frame, nineteen bytes (section 6.1);
* a TABLE_WRITE fits one frame: tag, table id, first, count and entries are at most 256 bytes (R163, section 11.2). -/
def Instr.wellFormed : Instr → Bool
  | .tick _ _ arrival => decide arrival.Nodup
  | .pollSuccess r => decide (0 ≤ r.lux)
  | .dockReply frame => decide (2 ≤ frame.length ∧ frame.length ≤ 19)
  | .tableWrite _ _ _ _ entries => decide (4 + entries.length ≤ 256)
  | .powerOnReset | .resetPart _ | .busPollStart | .noAcknowledge | .busTimeout | .traversalBegin | .routeVisit
  | .vectorAgeDiscard | .postureDwellExpiry | .rotationDwellExpiry | .replyTimeout | .byteTimeout | .resetPulseEnd
  | .identifyTimerExpiry | .settleTimerExpiry | .preparationTimerExpiry | .releaseWindowExpiry | .retryWaitExpiry
  | .restTimerExpiry | .goodRunTimerExpiry | .inactivityTimerExpiry | .adviceTimerExpiry | .attnPulseEnd
  | .chipSelectFall | .chipSelectRise _ | .nop _ | .tableRead _ _ _ _ _ | .tableCommit _ _ | .readState _
  | .rotationLock _ _ | .chargeInhibit _ _ | .clearFault _ | .detach _ | .detachCancel _ | .dockOutput _ _ _
  | .setPlatformState _ _ => true

end Sys2Proof
end

