-- ==== Sys2Proof/Decode.lean ====
section
/-! DEFINITION. From bits to commands. The opcode table gives no row any bits, so `decodeTableWord` reads none. The
commands that do have an encoding are the thirteen downstream frames of the Host Link: `decodeFrame` makes the
checks 1 to 3 of R170 on a frame's kind and payload, `frameBytes` writes the frame of a command (section 11.2). -/

namespace Sys2Proof

/-- The command that a word spells by the table's bits. No row of spec/opcode_table.json gives bits: none. -/
def decodeTableWord (_nbits _w : Nat) : Option Instr := none

/-- Table ids 0..6 (section 10.7). -/
def TableId.ofCode (b : Byte) : Option TableId :=
  match b.toNat with
  | 0 => some .route | 1 => some .poll | 2 => some .posture | 3 => some .orient
  | 4 => some .curve | 5 => some .policy | 6 => some .param
  | _ => none

def TableId.code : TableId → Byte
  | .route => 0 | .poll => 1 | .posture => 2 | .orient => 3 | .curve => 4 | .policy => 5 | .param => 6

/-- Bytes of one entry of each table (section 11.4). -/
def TableId.entrySize : TableId → Nat
  | .route => 9 | .poll => 2 | .posture => 12 | .orient => 1 | .curve => 4 | .policy => 9 | .param => 2

/-- Entries of each table (section 10.7). -/
def TableId.capacity : TableId → Nat
  | .route => 48 | .poll => 7 | .posture => 12 | .orient => 8 | .curve => 8 | .policy => 8 | .param => 41

def Copy.ofCode (b : Byte) : Option Copy :=
  match b.toNat with
  | 0 => some .active | 1 => some .staging
  | _ => none

def Copy.code : Copy → Byte
  | .active => 0 | .staging => 1

def HostState.ofCode (b : Byte) : Option HostState :=
  match b.toNat with
  | 0 => some .sleeping | 1 => some .awake
  | _ => none

def HostState.code : HostState → Byte
  | .sleeping => 0 | .awake => 1

/-- The refusals of the frame checks of R170, in the order in which the checks are made. -/
inductive FrameError where
  | unknownKind | badIndex | badLength
deriving DecidableEq, Repr

/-- The arguments of TABLE_WRITE: the table id is a code, the rest is length (R170). -/
def decodeTableWrite (tag : Byte) : List Byte → Except FrameError HostCommand
  | [] => .error .badLength
  | t :: rest =>
    match TableId.ofCode t with
    | none => .error .badIndex
    | some table =>
      match rest with
      | first :: count :: entries =>
        if entries.length = count.toNat * table.entrySize
        then .ok (.tableWrite tag table first count entries) else .error .badLength
      | _ => .error .badLength

/-- The arguments of TABLE_READ: table id and copy are codes (R170). -/
def decodeTableRead (tag : Byte) : List Byte → Except FrameError HostCommand
  | [] => .error .badLength
  | t :: rest =>
    match TableId.ofCode t with
    | none => .error .badIndex
    | some table =>
      match rest with
      | [] => .error .badLength
      | c :: rest' =>
        match Copy.ofCode c with
        | none => .error .badIndex
        | some copy =>
          match rest' with
          | [first, count] => .ok (.tableRead tag table copy first count)
          | _ => .error .badLength

/-- The argument of TABLE_COMMIT. -/
def decodeTableCommit (tag : Byte) : List Byte → Except FrameError HostCommand
  | [] => .error .badLength
  | t :: rest =>
    match TableId.ofCode t with
    | none => .error .badIndex
    | some table => if rest = [] then .ok (.tableCommit tag table) else .error .badLength

/-- The argument of SET_PLATFORM_STATE. -/
def decodeSetPlatform (tag : Byte) : List Byte → Except FrameError HostCommand
  | [] => .error .badLength
  | p :: rest =>
    match HostState.ofCode p with
    | none => .error .badIndex
    | some dest => if rest = [] then .ok (.setPlatformState tag dest) else .error .badLength

/-- A command whose payload is its tag alone. -/
def decodePlain (c : HostCommand) (args : List Byte) : Except FrameError HostCommand :=
  if args = [] then .ok c else .error .badLength

/-- A command with one on/off argument: any non-zero value reads as on (R170). -/
def decodeSwitch (make : Bool → HostCommand) : List Byte → Except FrameError HostCommand
  | [v] => .ok (make (v != 0))
  | _ => .error .badLength

/-- Checks 1 to 3 of R170 on a downstream frame that is not IDLE: kind, codes, length. A code that the payload is too
short to hold is not checked; the length check then fails (notes/assumptions/6). -/
def decodeFrame (kind : Byte) (payload : List Byte) : Except FrameError HostCommand :=
  let tag := payload.getD 0 0
  let args := payload.drop 1
  match kind.toNat with
  | 1 => decodePlain (.nop tag) args
  | 2 => decodeTableWrite tag args
  | 3 => decodeTableRead tag args
  | 4 => decodeTableCommit tag args
  | 5 => decodePlain (.readState tag) args
  | 6 => decodeSwitch (.rotationLock tag) args
  | 7 => decodeSwitch (.chargeInhibit tag) args
  | 8 => decodePlain (.clearFault tag) args
  | 9 => decodePlain (.detach tag) args
  | 10 => decodePlain (.detachCancel tag) args
  | 11 =>
    match args with
    | [backlight, indicators] => .ok (.dockOutput tag backlight indicators)
    | _ => .error .badLength
  | 12 => decodeSetPlatform tag args
  | 13 => decodePlain (.resetPart tag) args
  | _ => .error .unknownKind

/-- The kind byte of a command frame (section 11.2). -/
def HostCommand.kind : HostCommand → Byte
  | .nop _ => 1 | .tableWrite .. => 2 | .tableRead .. => 3 | .tableCommit .. => 4 | .readState _ => 5
  | .rotationLock .. => 6 | .chargeInhibit .. => 7 | .clearFault _ => 8 | .detach _ => 9 | .detachCancel _ => 10
  | .dockOutput .. => 11 | .setPlatformState .. => 12 | .resetPart _ => 13

/-- The tag that begins the payload of every command frame (R164). -/
def HostCommand.tag : HostCommand → Byte
  | .nop t | .tableWrite t _ _ _ _ | .tableRead t _ _ _ _ | .tableCommit t _ | .readState t | .rotationLock t _
  | .chargeInhibit t _ | .clearFault t | .detach t | .detachCancel t | .dockOutput t _ _ | .setPlatformState t _
  | .resetPart t => t

/-- The payload bytes after the tag (section 11.2). -/
def HostCommand.arguments : HostCommand → List Byte
  | .tableWrite _ table first count entries => table.code :: first :: count :: entries
  | .tableRead _ table copy first count => [table.code, copy.code, first, count]
  | .tableCommit _ table => [table.code]
  | .rotationLock _ on | .chargeInhibit _ on => [if on then 1 else 0]
  | .dockOutput _ backlight indicators => [backlight, indicators]
  | .setPlatformState _ dest => [dest.code]
  | .nop _ | .readState _ | .clearFault _ | .detach _ | .detachCancel _ | .resetPart _ => []

def HostCommand.payload (c : HostCommand) : List Byte := c.tag :: c.arguments

/-- The downstream frame of a command: kind, length (0 standing for 256), flags, payload (section 11.2). -/
def HostCommand.frameBytes (c : HostCommand) : List Byte :=
  c.kind :: BitVec.ofNat 8 c.payload.length :: 0 :: c.payload

/-- A host command that one frame can carry: a TABLE_WRITE brings the bytes its count needs, and they fit. -/
def HostCommand.wellFormed : HostCommand → Bool
  | .tableWrite _ table _ count entries =>
    decide (entries.length = count.toNat * table.entrySize) && decide (4 + entries.length ≤ 256)
  | _ => true

/-- The row of the opcode table that a host command is. -/
def HostCommand.toInstr : HostCommand → Instr
  | .nop t => .nop t
  | .tableWrite t table first count entries => .tableWrite t table first count entries
  | .tableRead t table copy first count => .tableRead t table copy first count
  | .tableCommit t table => .tableCommit t table
  | .readState t => .readState t
  | .rotationLock t on => .rotationLock t on
  | .chargeInhibit t on => .chargeInhibit t on
  | .clearFault t => .clearFault t
  | .detach t => .detach t
  | .detachCancel t => .detachCancel t
  | .dockOutput t b i => .dockOutput t b i
  | .setPlatformState t dest => .setPlatformState t dest
  | .resetPart t => .resetPart t

end Sys2Proof
end

