-- ==== Sys2Proof/Machine/Types.lean ====
section
/-! DEFINITION. The types State is made of: the named values of the manual, records, events, frames, and one
structure of plain data for each block of the block overview. -/

namespace Sys2Proof.Machine

/-! ## Named values -/

/-- The seven polled sources in Poll Table order (section 1.3). -/
inductive Polled where
  | lida | lidg | als | coil | pcel | ctmp | basa
deriving DecidableEq, Repr

/-- The three sources of the Sensor Bus (section 1.4). -/
inductive Bus where
  | lida | lidg | als
deriving DecidableEq, Repr

/-- The four digital lines (section 1.6). -/
inductive Line where
  | halc | half | penp | dsns
deriving DecidableEq, Repr

/-- The four Dock Link channels (section 6.2). -/
inductive Channel where
  | control | keys | motion | output
deriving DecidableEq, Repr

inductive Posture where
  | unknown | closed | laptop | flat | stand | tent | tablet | slate
deriving DecidableEq, Repr

inductive Orientation where
  | rot0 | rot90 | rot180 | rot270
deriving DecidableEq, Repr

/-- Base attitude (R51); NONE when no base vector has been judged. -/
inductive Attitude where
  | none | faceUp | faceDown | edge
deriving DecidableEq, Repr

inductive PenState where
  | absent | paused | charging | topped | retryWait | latched
deriving DecidableEq, Repr

/-- The three fault kinds of R126. -/
inductive PenFault where
  | overcurrent | overtemp | coupling
deriving DecidableEq, Repr

/-- The four gates of R120, in leading order. -/
inductive Gate where
  | inhibit | budget | sleep | monitor
deriving DecidableEq, Repr

/-- The reasons of a PEN event (R116, section 11.1). -/
inductive PenReason where
  | removed | inserted | resumed | retried | rested | cleared
  | gate (g : Gate)
  | fault (f : PenFault)
  | full
deriving DecidableEq, Repr

inductive DockState where
  | detached | resetting | identifying | settling | attached | dockFault
deriving DecidableEq, Repr

inductive DockReason where
  | none | sense | noIdent | stall | silence | release
deriving DecidableEq, Repr

inductive LatchState where
  | locked | preparing | opened
deriving DecidableEq, Repr

inductive LatchOutcome where
  | released | timedOut | cancelled
deriving DecidableEq, Repr

inductive Platform where
  | awake | advised | asleep | waking
deriving DecidableEq, Repr

inductive Power where
  | run | doze
deriving DecidableEq, Repr

inductive BankRole where
  | free | fill | ready | drain
deriving DecidableEq, Repr

inductive BankId where
  | a | b
deriving DecidableEq, Repr

inductive AdviceWord where
  | advise | withdrawn | timedOut
deriving DecidableEq, Repr

inductive OrientReason where
  | rotated | forced
deriving DecidableEq, Repr

inductive WakeCause where
  | keys | motion | posture | penIn | penOut | dock | button | batchFull
deriving DecidableEq, Repr

inductive TestState where
  | unknown | inside | outside
deriving DecidableEq, Repr

inductive Health where
  | ok | failed
deriving DecidableEq, Repr

inductive StartReason where
  | powerOn | soft
deriving DecidableEq, Repr

inductive BatchWord where
  | ready | overflow
deriving DecidableEq, Repr

/-- Why the hinge angle is unresolved (R49). -/
inductive Unresolved where
  | stale | axis
deriving DecidableEq, Repr

/-- The refusal codes of a response (section 11.1) that carry no body. -/
inductive RefusalCode where
  | unknownKind | badLength | badIndex | busy | badState | noBudget
deriving DecidableEq, Repr

inductive BadTableReason where
  | badNext | badBounds | badFit | noRow | notAscending
deriving DecidableEq, Repr

/-- The 41 parameters in index order (section 10.8). -/
inductive Param where
  | tiltFloor | flatFloor | faceFloor | filterShift | staleLimit | rotationMargin | rotationDwell
  | hallHold | presenceHold | dockSenseHold | lidMount | baseMount
  | gainShift | stepLimit | dutyMax | rampUp | rampDownHalf | ocLimit | otLimit
  | couplingDuty | couplingFloor | couplingTime | retryWait | firstSetRetries | laterSetRetries
  | longMultiplier | retryLimitMode | fullVoltage | taperCurrent | fullDwell | restTime | chargeInSleep
  | budgetTotal | sleepBudget | latchDraw | attachSettle | silenceLimit | releaseWindow
  | sleepAnswerTime | attentionMode | batchOverflow
deriving DecidableEq, Repr

/-! ## One value for each name -/

/-- One value for each source. -/
structure PerSource (α : Type) where
  lida : α
  lidg : α
  basa : α
  als : α
  halc : α
  half : α
  coil : α
  pcel : α
  ctmp : α
  penp : α
  dsns : α
deriving DecidableEq, Repr

/-- One value for each polled source. -/
structure PerPolled (α : Type) where
  lida : α
  lidg : α
  als : α
  coil : α
  pcel : α
  ctmp : α
  basa : α
deriving DecidableEq, Repr

/-- One value for each Sensor Bus source. -/
structure PerBus (α : Type) where
  lida : α
  lidg : α
  als : α
deriving DecidableEq, Repr

/-- One value for each digital line. -/
structure PerLine (α : Type) where
  halc : α
  half : α
  penp : α
  dsns : α
deriving DecidableEq, Repr

/-- One value for each Dock Link channel. -/
structure PerChannel (α : Type) where
  control : α
  keys : α
  motion : α
  output : α
deriving DecidableEq, Repr

/-- One value for each posture, in the index order of section 5.3. -/
structure PerPosture (α : Type) where
  unknown : α
  closed : α
  laptop : α
  flat : α
  stand : α
  tent : α
  tablet : α
  slate : α
deriving DecidableEq, Repr

/-- One value for each table. -/
structure PerTable (α : Type) where
  route : α
  poll : α
  posture : α
  orient : α
  curve : α
  policy : α
  param : α
deriving DecidableEq, Repr

/-! ## Timers and samples -/

/-- A running timer: the tick at which it was started and its duration. Its expiry tick is their sum (R1). -/
structure Timer where
  start    : Tick
  duration : Nat
deriving DecidableEq, Repr

/-- The values of a sample: one or three signed 16-bit numbers (section 1.2). -/
inductive Values where
  | one (v : Value)
  | three (x y z : Value)
deriving DecidableEq, Repr

/-- A sample record of the Intake FIFO (R17). -/
structure Sample where
  source    : Source
  timestamp : Tick
  unsettled : Bool
  values    : Values
deriving DecidableEq, Repr

/-- A copy made by FORWARD, in the Sample Queue or a batch bank (section 2.5, R169). -/
structure Forwarded where
  source    : Source
  entry     : Nat
  gap       : Bool
  unsettled : Bool
  timestamp : Tick
  values    : Values
deriving DecidableEq, Repr

/-- A value with the timestamp of the record it came from. -/
structure Stamped where
  value     : Value
  timestamp : Tick
deriving DecidableEq, Repr

/-- A stored vector of the Angle Engine with its timestamp (section 3.1). -/
structure Vector3 where
  x : Value
  y : Value
  z : Value
  timestamp : Tick
deriving DecidableEq, Repr

/-! ## Table entries as the owners use them -/

/-- The engine inputs a FEED can name (section 2.3), in FEED code order 1..10. -/
inductive Target where
  | angleBase | angleLid | hallClosed | hallFolded | penPresence | dockSense
  | chargeCurrent | chargeCell | chargeTemp | activity
deriving DecidableEq, Repr

/-- Which value a TEST compares (R31). -/
inductive TestSelect where
  | value0 | value1 | value2 | mag
deriving DecidableEq, Repr

/-- A Route Table entry of the active copy (section 2.1). -/
structure RouteEntry where
  enabled      : Bool
  decimation   : Nat
  forward      : Bool
  feed         : Option Target
  test         : Bool
  wake         : Bool
  batchAllowed : Bool
  select       : TestSelect
  low          : Value
  high         : Value
  next         : Option Nat
deriving DecidableEq, Repr

/-- The runtime state of a route entry: its decimation counter and test state (section 2.1). -/
structure RouteRuntime where
  counter : Nat
  test    : TestState
deriving DecidableEq, Repr

/-- A Poll Table entry: run and doze cadence codes (section 1.3). -/
structure Cadence where
  run  : Nat
  doze : Nat
deriving DecidableEq, Repr

/-- The posture a row proposes; a reserved code keeps the byte written and stands in a disabled row (R75, R178). -/
inductive RowPosture where
  | named (p : Posture)
  | reserved (code : Byte)
deriving DecidableEq, Repr

/-- The attitude condition of a row (R68). -/
inductive RowAttitude where
  | any | faceUp | faceDown | edge
  | reserved (code : Byte)
deriving DecidableEq, Repr

/-- The hall condition of a row (R68). -/
inductive RowHall where
  | any | closed | folded | opened
  | reserved (code : Byte)
deriving DecidableEq, Repr

/-- A Posture Table row of the active copy (section 4.4). -/
structure PostureRow where
  enabled    : Bool
  posture    : RowPosture
  low        : Nat
  high       : Nat
  attitude   : RowAttitude
  hall       : RowHall
  dwell      : Nat
  hysteresis : Nat
deriving DecidableEq, Repr

/-- An allowed set of the Orientation Table: bit n stands for orientation code n (section 11.1). -/
abbrev AllowedSet := BitVec 4

/-- A Charge Curve breakpoint in mV and mA (R122). -/
structure Breakpoint where
  voltage : Nat
  current : Nat
deriving DecidableEq, Repr

inductive DockCondition where
  | any | attached | detached
deriving DecidableEq, Repr

inductive PenCondition where
  | any | present | absent
deriving DecidableEq, Repr

/-- A Sleep Policy Table row of the active copy (section 9.3). Sets are bytes whose bit n stands for code n. -/
structure PolicyRow where
  enabled    : Bool
  wakes      : Bool
  postures   : Byte
  dock       : DockCondition
  pen        : PenCondition
  inactivity : Nat
  causes     : Byte
deriving DecidableEq, Repr

/-! ## The keyboard dock -/

/-- The identity of a base, from its IDENT (R90). -/
structure Identity where
  model         : Byte
  layout        : Byte
  accelerometer : Bool
  backlight     : Bool
  detachButton  : Bool
  baseline      : Nat
  extraLimit    : Nat
deriving DecidableEq, Repr

/-- A key report of the Key Queue (R107). -/
structure KeyReport where
  pressed   : List Byte
  fn        : Bool
  synthetic : Bool
  queued    : Tick
deriving DecidableEq, Repr

/-- A key report as the base sends it (R91). -/
structure KeySet where
  pressed : List Byte
  fn      : Bool
deriving DecidableEq, Repr

/-- A channel-3 message (R92). -/
inductive OutMessage where
  | lights (backlight indicators : Byte)
  | grant (units : Nat)
  | cadence (code : Nat)
deriving DecidableEq, Repr

/-- The waiting list of channel 3: at most one message of each type (R95). -/
structure Waiting where
  lights  : Option (Byte × Byte)
  grant   : Option Nat
  cadence : Option Nat
deriving DecidableEq, Repr

/-- A well-formed message from the base, one constructor for each of R90 to R92. -/
inductive InMessage where
  | ident (i : Identity)
  | power (units : Nat)
  | button
  | keys (k : KeySet)
  | motion (x y z : Value)
deriving DecidableEq, Repr

/-- A reply as the Dock Controller judges it (R89, R93, R94). -/
inductive Judged where
  | failure
  | data (toggle : Bool) (m : InMessage)
  | ack
  | nak
  | stall
deriving DecidableEq, Repr

/-- A dock cycle in progress with its exchange on the wire (R96, R97): the tick of the cycle, the channel of the
exchange, the channels still to come, whether the settle mark of BASA stood when the exchange began, and whether the
outcome of the exchange is to be discarded (R105). -/
structure Cycle where
  tick      : Tick
  channel   : Channel
  rest      : List Channel
  afterMark : Bool
  discarded : Bool
deriving DecidableEq, Repr

/-! ## Budget shares -/

/-- One number of budget units for each consumer, in priority order (R139). -/
structure Shares where
  latch : Nat
  base  : Nat
  pen   : Nat
  extra : Nat
deriving DecidableEq, Repr

/-! ## Events, responses, frames -/

/-- The events of the Event List, one constructor for each of the fourteen kinds, in kind order (R168). -/
inductive Event where
  | started (why : StartReason)
  | posture (p : Posture) (hf : Option Angle) (row : Option Nat)
  | orientation (o : Orientation) (locked : Bool) (why : OrientReason)
  | pen (state : PenState) (why : PenReason) (faults : Nat)
  | dock (state : DockState) (why : DockReason) (identity : Option Identity)
  | latch (outcome : LatchOutcome)
  | sleepAdvice (word : AdviceWord) (row : Nat)
  | wake (cause : WakeCause) (row : Nat)
  | budget (grants : Shares)
  | batch (bank : BankId) (word : BatchWord)
  | threshold (pairs : List (Nat × TestState))
  | source (pairs : List (Bus × Health))
  | chainOverrun (entries : List Nat)
  | tableCommitted (tables : List TableId)
deriving DecidableEq, Repr

/-- The snapshot of READ_STATE (R176), field by field as section 11.2 lays the 41 bytes out. -/
structure Snapshot where
  tick        : Tick
  h           : Angle
  hf          : Option Angle
  o           : Option Angle
  unresolved  : Option Unresolved
  flat        : Bool
  attitude    : Attitude
  posture     : Posture
  candidate   : Option Posture
  orientation : Orientation
  locked      : Bool
  pen         : PenState
  duty        : Nat
  target      : Nat
  current     : Value
  dock        : DockState
  latch       : LatchState
  grants      : Shares
  budget      : Nat
  platform    : Platform
  power       : Power
  fifo        : Nat
  keys        : Nat
  samples     : Nat
  events      : Nat
  roleA       : BankRole
  countA      : Nat
  roleB       : BankRole
  countB      : Nat
deriving DecidableEq, Repr

/-- The outcome and body of a response (sections 10.6 and 11.2). -/
inductive ResponseBody where
  | ack
  | committed (pending : Bool) (clamped : Nat)
  | refused (code : RefusalCode)
  | badTable (index : Nat) (why : BadTableReason)
  | tableData (table : TableId) (copy : Copy) (first count : Byte) (entries : List Byte)
  | state (snapshot : Snapshot)
deriving DecidableEq, Repr

/-- A response: the tag and kind of its command, then its outcome (R170). -/
structure Response where
  tag  : Byte
  kind : Byte
  body : ResponseBody
deriving DecidableEq, Repr

/-- The upstream frame selected for a transaction, with the content it puts in flight (R165). -/
inductive Upstream where
  | idle
  | response (r : Response)
  | events (content : List Event)
  | keys (content : List KeyReport)
  | samples (content : List Forwarded)
  | batch (bank : BankId) (gapBefore gapAfter : Bool) (content : List Forwarded)
deriving DecidableEq, Repr

/-- A transaction in progress: the frame selected at its fall and the four header flags judged there (R166). -/
structure Transaction where
  frame       : Upstream
  flagEvents  : Bool
  flagKeys    : Bool
  flagSamples : Bool
  flagBatch   : Bool
deriving DecidableEq, Repr

/-! ## The blocks -/

/-- Health of a Sensor Bus source (R11). -/
structure BusHealth where
  health   : Health
  failures : Nat
deriving DecidableEq, Repr

/-- The schedule of a polled source: its effective cadence code, next-poll tick and settle mark (R5, R6). -/
structure Schedule where
  code   : Nat
  next   : Option Tick
  settle : Bool
deriving DecidableEq, Repr

/-- A poll waiting for the Sensor Bus (R9); `afterMark` says it came due after the standing settle mark (R6). -/
structure WaitingPoll where
  source    : Bus
  due       : Tick
  afterMark : Bool
deriving DecidableEq, Repr

/-- The poll in progress on the Sensor Bus, with the tick in which it started (R11). -/
structure BusPoll where
  source    : Bus
  started   : Tick
  afterMark : Bool
deriving DecidableEq, Repr

/-- A place in the order in which the samples of a tick arrive (R2). With values it is a sample born at the boundary and
on its way to Intake, `afterMark` saying that it came due after the standing settle mark (R6); without, it is kept for
the sample that a poll or an exchange of the tick is to bring. -/
structure Coming where
  source    : Source
  values    : Option Values
  afterMark : Bool
deriving DecidableEq, Repr

/-- Poll Scheduler and Sensor Bus master (sections 1.3 and 1.4). `coming`, what is still on its way from the ports to
Intake in the order of arrival, is the model's own (notes/assumptions/13). -/
structure PollBlock where
  table    : PerPolled Cadence
  schedule : PerPolled Schedule
  health   : PerBus BusHealth
  waiting  : List WaitingPoll
  onBus    : Option BusPoll
  coming   : List Coming
deriving DecidableEq, Repr

/-- A pending level of a line with its start tick and captured hold time (R15). -/
structure PendingLevel where
  level : Bool
  start : Tick
  hold  : Nat
deriving DecidableEq, Repr

/-- The debounce state of one line (R15). -/
structure LineState where
  debounced : Option Bool
  pending   : Option PendingLevel
deriving DecidableEq, Repr

/-- Intake: the FIFO of sample records, head first, and the gap marks (R17, R18). -/
structure IntakeBlock where
  fifo : List Sample
  gaps : PerSource Bool
deriving DecidableEq, Repr

/-- The traversal in flight: its record, the entry of the next visit, the visits made, the entries visited and the
targets fed (R23 to R29). -/
structure Traversal where
  record  : Sample
  entry   : Nat
  visits  : Nat
  visited : List Nat
  fed     : List Target
deriving DecidableEq, Repr

/-- Route Engine (chapter 2): IDLE when `walking` is none. -/
structure RouteBlock where
  table   : List RouteEntry
  runtime : List RouteRuntime
  hold    : Bool
  walking : Option Traversal
deriving DecidableEq, Repr

/-- Angle Engine (section 3.1). `unresolved` is none while the resolved flag is set, and otherwise the reason. -/
structure AngleBlock where
  lid        : Option Vector3
  base       : Option Vector3
  unresolved : Option Unresolved
  h          : Angle
  filter     : Option (BitVec 16)
  attitude   : Attitude
  o          : Option Angle
  flat       : Bool
deriving DecidableEq, Repr

/-- Posture Classifier (R61). -/
structure PostureBlock where
  table      : List PostureRow
  posture    : Posture
  row        : Option Nat
  candidate  : Option Nat
  dwell      : Option Timer
  hallClosed : Option Bool
  hallFolded : Option Bool
  heldHf     : Option Angle
  attitude   : Attitude
  attached   : Bool
deriving DecidableEq, Repr

/-- Orientation Tracker (R78). -/
structure OrientBlock where
  table     : PerPosture AllowedSet
  current   : Orientation
  candidate : Option Orientation
  dwell     : Option Timer
  locked    : Bool
  heldO     : Option Angle
  heldFlat  : Bool
  posture   : Posture
deriving DecidableEq, Repr

/-- Dock Controller without its latch (chapter 6). -/
structure DockBlock where
  state         : DockState
  identity      : Option Identity
  attempts      : Nat
  reattaches    : Nat
  toggles       : PerChannel Bool
  silence       : Nat
  halted        : Bool
  outgoing      : Option OutMessage
  waiting       : Waiting
  remembered    : Option KeySet
  extraHeld     : Nat
  cycles        : Nat
  motionRunning : Bool
  motionNext    : Option Tick
  cadence       : Nat
  lastPressed   : Bool
  identifyTimer : Option Timer
  settleTimer   : Option Timer
  cycle         : Option Cycle
  sent          : List (List Byte)
  keys          : List KeyReport
deriving DecidableEq, Repr

/-- The release latch of the Dock Controller (section 6.7). -/
structure LatchBlock where
  state       : LatchState
  preparation : Option Timer
  window      : Option Timer
deriving DecidableEq, Repr

/-- Charge Controller (R114). Its pen request is the PEN request of the Supply Budget. -/
structure PenBlock where
  curve         : List Breakpoint
  state         : PenState
  duty          : Nat
  target        : Nat
  curveTarget   : Nat
  current       : Option Stamped
  cell          : Option Value
  temperature   : Option Value
  inhibit       : Bool
  monitorClosed : Bool
  faults        : Nat
  laterSet      : Bool
  used          : Nat
  faultRecord   : Option PenFault
  overLimit     : Bool
  couplingStart : Option Tick
  taperStart    : Option Tick
  restCheck     : Bool
  leading       : Option Gate
  retryTimer    : Option Timer
  restTimer     : Option Timer
  goodRun       : Option Timer
deriving DecidableEq, Repr

/-- Supply Budget (R136). -/
structure SupplyBlock where
  budget   : Nat
  requests : Shares
  grants   : Shares
deriving DecidableEq, Repr

/-- Sleep Advisor (R145). -/
structure AdvisorBlock where
  table         : List PolicyRow
  platform      : Platform
  advising      : Option Nat
  armed         : List Bool
  lastActivity  : Tick
  adviceTimer   : Option Timer
  idleTimer     : Option Timer
  forcing       : Bool
  heldPosture   : Posture
  heldDock      : DockState
  penPresent    : Bool
  penCharging   : Bool
  latchLocked   : Bool
  power         : Power
deriving DecidableEq, Repr

/-- One bank of the Batch Store (R156). -/
structure Bank where
  role      : BankRole
  records   : List Forwarded
  gapBefore : Bool
  gapAfter  : Bool
deriving DecidableEq, Repr

/-- Batch Store: two banks, and the banks holding records or filling in the order in which they became FILL. -/
structure BatchBlock where
  bankA : Bank
  bankB : Bank
  order : List BankId
deriving DecidableEq, Repr

/-- Host Link (chapter 10): Response Slot, Event List, Sample Queue, the transaction in progress (chip select low)
and whether an attention pulse is being driven. -/
structure HostBlock where
  slot        : Option Response
  events      : List Event
  samples     : List Forwarded
  transaction : Option Transaction
  pulse       : Bool
deriving DecidableEq, Repr

/-- One entry of a staging copy, its bytes as written (R20, R171). -/
abbrev RawEntry := List Byte

end Sys2Proof.Machine
end

