-- ==== Sys2Proof/Machine/Lookup.lean ====
section
/-! DEFINITION. Reading and writing the value kept for one name (`get`, `set`, `all`), the numbers of the names, and how the
names of one block stand for those of another. -/

namespace Sys2Proof.Machine

def PerSource.get {α : Type} (p : PerSource α) : Source → α
  | .lida => p.lida | .lidg => p.lidg | .basa => p.basa | .als => p.als
  | .halc => p.halc | .half => p.half | .coil => p.coil | .pcel => p.pcel
  | .ctmp => p.ctmp | .penp => p.penp | .dsns => p.dsns

def PerSource.set {α : Type} (p : PerSource α) (i : Source) (v : α) : PerSource α :=
  match i with
  | .lida => { p with lida := v }
  | .lidg => { p with lidg := v }
  | .basa => { p with basa := v }
  | .als => { p with als := v }
  | .halc => { p with halc := v }
  | .half => { p with half := v }
  | .coil => { p with coil := v }
  | .pcel => { p with pcel := v }
  | .ctmp => { p with ctmp := v }
  | .penp => { p with penp := v }
  | .dsns => { p with dsns := v }

def PerSource.all {α : Type} (v : α) : PerSource α :=
  ⟨v, v, v, v, v, v, v, v, v, v, v⟩

def PerPolled.get {α : Type} (p : PerPolled α) : Polled → α
  | .lida => p.lida | .lidg => p.lidg | .als => p.als | .coil => p.coil
  | .pcel => p.pcel | .ctmp => p.ctmp | .basa => p.basa

def PerPolled.set {α : Type} (p : PerPolled α) (i : Polled) (v : α) : PerPolled α :=
  match i with
  | .lida => { p with lida := v }
  | .lidg => { p with lidg := v }
  | .als => { p with als := v }
  | .coil => { p with coil := v }
  | .pcel => { p with pcel := v }
  | .ctmp => { p with ctmp := v }
  | .basa => { p with basa := v }

def PerPolled.all {α : Type} (v : α) : PerPolled α :=
  ⟨v, v, v, v, v, v, v⟩

def PerBus.get {α : Type} (p : PerBus α) : Bus → α
  | .lida => p.lida | .lidg => p.lidg | .als => p.als

def PerBus.set {α : Type} (p : PerBus α) (i : Bus) (v : α) : PerBus α :=
  match i with
  | .lida => { p with lida := v }
  | .lidg => { p with lidg := v }
  | .als => { p with als := v }

def PerBus.all {α : Type} (v : α) : PerBus α :=
  ⟨v, v, v⟩

def PerLine.get {α : Type} (p : PerLine α) : Line → α
  | .halc => p.halc | .half => p.half | .penp => p.penp | .dsns => p.dsns

def PerLine.set {α : Type} (p : PerLine α) (i : Line) (v : α) : PerLine α :=
  match i with
  | .halc => { p with halc := v }
  | .half => { p with half := v }
  | .penp => { p with penp := v }
  | .dsns => { p with dsns := v }

def PerLine.all {α : Type} (v : α) : PerLine α :=
  ⟨v, v, v, v⟩

def PerChannel.get {α : Type} (p : PerChannel α) : Channel → α
  | .control => p.control | .keys => p.keys | .motion => p.motion | .output => p.output

def PerChannel.set {α : Type} (p : PerChannel α) (i : Channel) (v : α) : PerChannel α :=
  match i with
  | .control => { p with control := v }
  | .keys => { p with keys := v }
  | .motion => { p with motion := v }
  | .output => { p with output := v }

def PerChannel.all {α : Type} (v : α) : PerChannel α :=
  ⟨v, v, v, v⟩

def PerPosture.get {α : Type} (p : PerPosture α) : Posture → α
  | .unknown => p.unknown | .closed => p.closed | .laptop => p.laptop | .flat => p.flat
  | .stand => p.stand | .tent => p.tent | .tablet => p.tablet | .slate => p.slate

def PerPosture.set {α : Type} (p : PerPosture α) (i : Posture) (v : α) : PerPosture α :=
  match i with
  | .unknown => { p with unknown := v }
  | .closed => { p with closed := v }
  | .laptop => { p with laptop := v }
  | .flat => { p with flat := v }
  | .stand => { p with stand := v }
  | .tent => { p with tent := v }
  | .tablet => { p with tablet := v }
  | .slate => { p with slate := v }

def PerPosture.all {α : Type} (v : α) : PerPosture α :=
  ⟨v, v, v, v, v, v, v, v⟩

def PerTable.get {α : Type} (p : PerTable α) : TableId → α
  | .route => p.route | .poll => p.poll | .posture => p.posture | .orient => p.orient
  | .curve => p.curve | .policy => p.policy | .param => p.param

def PerTable.set {α : Type} (p : PerTable α) (i : TableId) (v : α) : PerTable α :=
  match i with
  | .route => { p with route := v }
  | .poll => { p with poll := v }
  | .posture => { p with posture := v }
  | .orient => { p with orient := v }
  | .curve => { p with curve := v }
  | .policy => { p with policy := v }
  | .param => { p with param := v }

def PerTable.all {α : Type} (v : α) : PerTable α :=
  ⟨v, v, v, v, v, v, v⟩

/-- Source numbers 0..10 (section 1.2); also the head entry of the source (section 2.1). -/
def headEntry : Source → Nat
  | .lida => 0 | .lidg => 1 | .basa => 2 | .als => 3 | .halc => 4 | .half => 5
  | .coil => 6 | .pcel => 7 | .ctmp => 8 | .penp => 9 | .dsns => 10

/-- The eleven sources in source-number order. -/
def allSources : List Source :=
  [.lida, .lidg, .basa, .als, .halc, .half, .coil, .pcel, .ctmp, .penp, .dsns]

/-- The seven polled sources in Poll Table order. -/
def allPolled : List Polled := [.lida, .lidg, .als, .coil, .pcel, .ctmp, .basa]

/-- How many values a sample of the source carries (section 1.2). -/
def valueCount : Source → Nat
  | .lida | .lidg | .basa => 3
  | .als | .halc | .half | .coil | .pcel | .ctmp | .penp | .dsns => 1

def Polled.source : Polled → Source
  | .lida => .lida | .lidg => .lidg | .als => .als | .coil => .coil | .pcel => .pcel | .ctmp => .ctmp | .basa => .basa

def Bus.polled : Bus → Polled
  | .lida => .lida | .lidg => .lidg | .als => .als

def Bus.source : Bus → Source
  | .lida => .lida | .lidg => .lidg | .als => .als

def Line.source : Line → Source
  | .halc => .halc | .half => .half | .penp => .penp | .dsns => .dsns

/-- The Sensor Bus source a polled source is, if it is one. -/
def Polled.bus? : Polled → Option Bus
  | .lida => some .lida | .lidg => some .lidg | .als => some .als
  | .coil | .pcel | .ctmp | .basa => none

/-- The polled source a source is, if it is one (section 1.3). -/
def polledOf : Source → Option Polled
  | .lida => some .lida | .lidg => some .lidg | .basa => some .basa | .als => some .als
  | .coil => some .coil | .pcel => some .pcel | .ctmp => some .ctmp
  | .halc | .half | .penp | .dsns => none

/-- Parameter indexes 0..40 (section 10.8). -/
def Param.index : Param → Nat
  | .tiltFloor => 0 | .flatFloor => 1 | .faceFloor => 2 | .filterShift => 3 | .staleLimit => 4
  | .rotationMargin => 5 | .rotationDwell => 6 | .hallHold => 7 | .presenceHold => 8 | .dockSenseHold => 9
  | .lidMount => 10 | .baseMount => 11 | .gainShift => 12 | .stepLimit => 13 | .dutyMax => 14
  | .rampUp => 15 | .rampDownHalf => 16 | .ocLimit => 17 | .otLimit => 18 | .couplingDuty => 19
  | .couplingFloor => 20 | .couplingTime => 21 | .retryWait => 22 | .firstSetRetries => 23 | .laterSetRetries => 24
  | .longMultiplier => 25 | .retryLimitMode => 26 | .fullVoltage => 27 | .taperCurrent => 28 | .fullDwell => 29
  | .restTime => 30 | .chargeInSleep => 31 | .budgetTotal => 32 | .sleepBudget => 33 | .latchDraw => 34
  | .attachSettle => 35 | .silenceLimit => 36 | .releaseWindow => 37 | .sleepAnswerTime => 38 | .attentionMode => 39
  | .batchOverflow => 40

def BatchBlock.bank (b : BatchBlock) : BankId → Bank
  | .a => b.bankA | .b => b.bankB

def BatchBlock.setBank (b : BatchBlock) (i : BankId) (v : Bank) : BatchBlock :=
  match i with
  | .a => { b with bankA := v }
  | .b => { b with bankB := v }

end Sys2Proof.Machine
end

