-- ==== Sys2Proof/Machine/Layouts.lean ====
section
/-! DEFINITION. The byte layouts of chapter 11: codes, table entries, sample records, key reports, events, responses, the frames
of the Host Link and the frames of the Dock Link with their CRC. -/

namespace Sys2Proof.Machine

/-! ## Bytes and words (chapter 11: little-endian, bit 0 least significant) -/

def byteOf (n : Nat) : Byte := BitVec.ofNat 8 n

def byteOfBool (b : Bool) : Byte := if b then 1 else 0

/-- A two-byte field. -/
def word16 (n : Nat) : List Byte := [byteOf n, byteOf (n / 256)]

/-- A four-byte field. -/
def word32 (n : Nat) : List Byte := [byteOf n, byteOf (n / 256), byteOf (n / 65536), byteOf (n / 16777216)]

def byteAt (e : List Byte) (i : Nat) : Byte := e.getD i 0

/-- The unsigned two-byte field at an offset. -/
def wordAt (e : List Byte) (i : Nat) : Nat := (byteAt e i).toNat + 256 * (byteAt e (i + 1)).toNat

/-- The unsigned four-byte field at an offset. -/
def longAt (e : List Byte) (i : Nat) : Nat := wordAt e i + 65536 * wordAt e (i + 2)

/-- The signed two-byte field at an offset. -/
def valueAt (e : List Byte) (i : Nat) : Value := BitVec.ofNat 16 (wordAt e i)

/-- A byte of up to five flags, bit 0 first. -/
def flagByte (b0 b1 b2 b3 b4 : Bool) : Byte :=
  byteOf (b0.toNat + 2 * b1.toNat + 4 * b2.toNat + 8 * b3.toNat + 16 * b4.toNat)

/-! ## Codes (section 11.1) -/

def Posture.code : Posture → Byte
  | .unknown => 0 | .closed => 1 | .laptop => 2 | .flat => 3 | .stand => 4 | .tent => 5 | .tablet => 6 | .slate => 7

def Orientation.code : Orientation → Byte
  | .rot0 => 0 | .rot90 => 1 | .rot180 => 2 | .rot270 => 3

def Attitude.code : Attitude → Byte
  | .none => 0 | .faceUp => 1 | .faceDown => 2 | .edge => 3

def PenState.code : PenState → Byte
  | .absent => 0 | .paused => 1 | .charging => 2 | .topped => 3 | .retryWait => 4 | .latched => 5

def PenReason.code : PenReason → Byte
  | .removed => 0 | .inserted => 1 | .resumed => 2 | .retried => 3 | .rested => 4 | .cleared => 5
  | .gate .inhibit => 6 | .gate .budget => 7 | .gate .sleep => 8 | .gate .monitor => 9
  | .fault .overcurrent => 10 | .fault .overtemp => 11 | .fault .coupling => 12
  | .full => 13

def DockState.code : DockState → Byte
  | .detached => 0 | .resetting => 1 | .identifying => 2 | .settling => 3 | .attached => 4 | .dockFault => 5

def DockReason.code : DockReason → Byte
  | .none => 0 | .sense => 1 | .noIdent => 2 | .stall => 3 | .silence => 4 | .release => 5

def LatchState.code : LatchState → Byte
  | .locked => 0 | .preparing => 1 | .opened => 2

def LatchOutcome.code : LatchOutcome → Byte
  | .released => 0 | .timedOut => 1 | .cancelled => 2

def Platform.code : Platform → Byte
  | .awake => 0 | .advised => 1 | .asleep => 2 | .waking => 3

def Power.code : Power → Byte
  | .run => 0 | .doze => 1

def BankRole.code : BankRole → Byte
  | .free => 0 | .fill => 1 | .ready => 2 | .drain => 3

def BankId.code : BankId → Byte
  | .a => 0 | .b => 1

def AdviceWord.code : AdviceWord → Byte
  | .advise => 0 | .withdrawn => 1 | .timedOut => 2

def OrientReason.code : OrientReason → Byte
  | .rotated => 0 | .forced => 1

def WakeCause.number : WakeCause → Nat
  | .keys => 0 | .motion => 1 | .posture => 2 | .penIn => 3 | .penOut => 4 | .dock => 5 | .button => 6 | .batchFull => 7

def TestState.code : TestState → Byte
  | .unknown => 0 | .inside => 1 | .outside => 2

def Health.code : Health → Byte
  | .ok => 0 | .failed => 1

def StartReason.code : StartReason → Byte
  | .powerOn => 0 | .soft => 1

def BatchWord.code : BatchWord → Byte
  | .ready => 0 | .overflow => 1

def RefusalCode.code : RefusalCode → Byte
  | .unknownKind => 1 | .badLength => 2 | .badIndex => 3 | .busy => 5 | .badState => 6 | .noBudget => 7

def BadTableReason.code : BadTableReason → Byte
  | .badNext => 0 | .badBounds => 1 | .badFit => 2 | .noRow => 3 | .notAscending => 4

/-- The outcome code of a response (section 11.1). -/
def ResponseBody.outcome : ResponseBody → Byte
  | .ack | .committed .. => 0
  | .refused c => c.code
  | .badTable .. => 4
  | .tableData .. => 8
  | .state _ => 9

/-! ## Table entries (section 11.4): what a commit reads (R178), and what the active copy shows -/

/-- FEED codes 1..10; 0 is none, and 11..255 read as no FEED (R178). -/
def feedOfCode (b : Byte) : Option Target :=
  match b.toNat with
  | 1 => some .angleBase | 2 => some .angleLid | 3 => some .hallClosed | 4 => some .hallFolded
  | 5 => some .penPresence | 6 => some .dockSense | 7 => some .chargeCurrent | 8 => some .chargeCell
  | 9 => some .chargeTemp | 10 => some .activity
  | _ => none

def feedCode : Option Target → Byte
  | none => 0
  | some .angleBase => 1 | some .angleLid => 2 | some .hallClosed => 3 | some .hallFolded => 4
  | some .penPresence => 5 | some .dockSense => 6 | some .chargeCurrent => 7 | some .chargeCell => 8
  | some .chargeTemp => 9 | some .activity => 10

/-- Test select codes; 4..255 read as MAG (R178). -/
def selectOfCode (b : Byte) : TestSelect :=
  match b.toNat with
  | 0 => .value0 | 1 => .value1 | 2 => .value2
  | _ => .mag

def selectCode : TestSelect → Byte
  | .value0 => 0 | .value1 => 1 | .value2 => 2 | .mag => 3

/-- D outside 1..16 is clamped (R39). -/
def clampDecimation (n : Nat) : Nat := max 1 (min 16 n)

/-- A Route Table entry as a commit reads it: codes under R178, decimation under R39. -/
def readRouteEntry (e : RawEntry) : RouteEntry :=
  { enabled := (byteAt e 0).getLsbD 0
    forward := (byteAt e 0).getLsbD 1
    test := (byteAt e 0).getLsbD 2
    wake := (byteAt e 0).getLsbD 3
    batchAllowed := (byteAt e 0).getLsbD 4
    decimation := clampDecimation (byteAt e 1).toNat
    feed := feedOfCode (byteAt e 2)
    select := selectOfCode (byteAt e 3)
    low := valueAt e 4
    high := valueAt e 6
    next := if byteAt e 8 = 255 then none else some (byteAt e 8).toNat }

/-- Whether reading a Route Table entry adjusts one of its fields (R39, R178). -/
def routeEntryClamped (e : RawEntry) : Bool :=
  clampDecimation (byteAt e 1).toNat != (byteAt e 1).toNat || (byteAt e 2).toNat > 10 || (byteAt e 3).toNat > 3

def routeEntryBytes (r : RouteEntry) : RawEntry :=
  [flagByte r.enabled r.forward r.test r.wake r.batchAllowed, byteOf r.decimation, feedCode r.feed, selectCode r.select]
    ++ word16 r.low.toNat ++ word16 r.high.toNat ++ [match r.next with | none => 255 | some n => byteOf n]

/-- A Poll Table entry as a commit reads it: a code above 8 becomes 8 (R4). -/
def readCadence (e : RawEntry) : Cadence :=
  { run := min 8 (byteAt e 0).toNat, doze := min 8 (byteAt e 1).toNat }

/-- What a Poll Table entry adds to the clamped count: once when a code of it is above 8, also when both are (R4, R173,
R178, notes/assumptions/2). -/
def cadenceClamped (e : RawEntry) : Bool := (byteAt e 0).toNat > 8 || (byteAt e 1).toNat > 8

def cadenceBytes (c : Cadence) : RawEntry := [byteOf c.run, byteOf c.doze]

def rowPostureOfCode (b : Byte) : RowPosture :=
  match b.toNat with
  | 1 => .named .closed | 2 => .named .laptop | 3 => .named .flat | 4 => .named .stand
  | 5 => .named .tent | 6 => .named .tablet
  | _ => .reserved b

def rowAttitudeOfCode (b : Byte) : RowAttitude :=
  match b.toNat with
  | 0 => .any | 1 => .faceUp | 2 => .faceDown | 3 => .edge
  | _ => .reserved b

def rowHallOfCode (b : Byte) : RowHall :=
  match b.toNat with
  | 0 => .any | 1 => .closed | 2 => .folded | 3 => .opened
  | _ => .reserved b

def RowPosture.legal : RowPosture → Bool
  | .named _ => true
  | .reserved _ => false

def RowAttitude.legal : RowAttitude → Bool
  | .reserved _ => false
  | _ => true

def RowHall.legal : RowHall → Bool
  | .reserved _ => false
  | _ => true

/-- Whether all three codes of a raw Posture Table row are ones a row may carry (R75, R178). -/
def rowCodesLegal (e : RawEntry) : Bool :=
  (rowPostureOfCode (byteAt e 1)).legal && (rowAttitudeOfCode (byteAt e 6)).legal && (rowHallOfCode (byteAt e 7)).legal

/-- A Posture Table row as a commit reads it: fields clamped under R75, a row with a reserved code disabled (R178). -/
def readPostureRow (e : RawEntry) : PostureRow :=
  { enabled := (byteAt e 0).getLsbD 0 && rowCodesLegal e
    posture := rowPostureOfCode (byteAt e 1)
    low := min 4095 (wordAt e 2)
    high := min 4095 (wordAt e 4)
    attitude := rowAttitudeOfCode (byteAt e 6)
    hall := rowHallOfCode (byteAt e 7)
    dwell := min 16384 (wordAt e 8)
    hysteresis := min 512 (wordAt e 10) }

def postureRowClamped (e : RawEntry) : Bool :=
  wordAt e 2 > 4095 || wordAt e 4 > 4095 || wordAt e 8 > 16384 || wordAt e 10 > 512 || !rowCodesLegal e

def rowPostureCode : RowPosture → Byte
  | .named p => p.code
  | .reserved b => Config.reservedRowCode b

def rowAttitudeCode : RowAttitude → Byte
  | .any => 0 | .faceUp => 1 | .faceDown => 2 | .edge => 3
  | .reserved b => Config.reservedRowCode b

def rowHallCode : RowHall → Byte
  | .any => 0 | .closed => 1 | .folded => 2 | .opened => 3
  | .reserved b => Config.reservedRowCode b

def postureRowBytes (r : PostureRow) : RawEntry :=
  [byteOfBool r.enabled, rowPostureCode r.posture] ++ word16 r.low ++ word16 r.high
    ++ [rowAttitudeCode r.attitude, rowHallCode r.hall] ++ word16 r.dwell ++ word16 r.hysteresis

/-- An allowed set as a commit reads it: bits 4..7 read as clear (R178). -/
def readAllowedSet (e : RawEntry) : AllowedSet := (byteAt e 0).setWidth 4

def allowedSetBytes (a : AllowedSet) : RawEntry := [a.setWidth 8]

/-- A breakpoint as a commit reads it: a current above 800 becomes 800 (R133). -/
def readBreakpoint (e : RawEntry) : Breakpoint :=
  { voltage := wordAt e 0, current := min 800 (wordAt e 2) }

def breakpointClamped (e : RawEntry) : Bool := wordAt e 2 > 800

def breakpointBytes (b : Breakpoint) : RawEntry := word16 b.voltage ++ word16 b.current

/-- Codes 3..255 of the dock condition read as ANY (R178). -/
def dockConditionOfCode (b : Byte) : DockCondition :=
  match b.toNat with
  | 1 => .attached | 2 => .detached
  | _ => .any

def dockConditionCode : DockCondition → Byte
  | .any => 0 | .attached => 1 | .detached => 2

/-- Codes 3..255 of the pen condition read as ANY (R178). -/
def penConditionOfCode (b : Byte) : PenCondition :=
  match b.toNat with
  | 1 => .present | 2 => .absent
  | _ => .any

def penConditionCode : PenCondition → Byte
  | .any => 0 | .present => 1 | .absent => 2

/-- A Sleep Policy Table row as a commit reads it: the inactivity minimum is clamped to 16777216 (R149). -/
def readPolicyRow (e : RawEntry) : PolicyRow :=
  { enabled := (byteAt e 0).getLsbD 0
    wakes := (byteAt e 0).getLsbD 1
    postures := byteAt e 1
    dock := dockConditionOfCode (byteAt e 2)
    pen := penConditionOfCode (byteAt e 3)
    inactivity := min 16777216 (longAt e 4)
    causes := byteAt e 8 }

def policyRowClamped (e : RawEntry) : Bool := longAt e 4 > 16777216

def policyRowBytes (r : PolicyRow) : RawEntry :=
  [flagByte r.enabled r.wakes false false false, r.postures, dockConditionCode r.dock, penConditionCode r.pen]
    ++ word32 r.inactivity ++ [r.causes]

/-- A parameter value within its range: below the range the lowest value, above it the highest (R175). -/
def clampParam (low high n : Nat) : Nat := max low (min high n)

def paramBytes (n : Nat) : RawEntry := word16 n

/-! ## Upstream content (section 11.3) -/

def Values.list : Values → List Value
  | .one v => [v]
  | .three x y z => [x, y, z]

/-- A sample record of 10 or 14 bytes. -/
def forwardedBytes (r : Forwarded) : List Byte :=
  [byteOf (headEntry r.source), byteOf r.entry, flagByte r.gap r.unsettled false false false, byteOf r.values.list.length]
    ++ word32 r.timestamp.toNat ++ r.values.list.flatMap (fun v => word16 v.toNat)

/-- A key report of 6 + n bytes. -/
def keyReportBytes (k : KeyReport) : List Byte :=
  [flagByte k.fn k.synthetic false false false, byteOf k.pressed.length] ++ word32 k.queued.toNat ++ k.pressed

/-- The kind code of an event, 0..13 in the order of the table of R168. -/
def Event.kind : Event → Nat
  | .started _ => 0 | .posture .. => 1 | .orientation .. => 2 | .pen .. => 3 | .dock .. => 4 | .latch _ => 5
  | .sleepAdvice .. => 6 | .wake .. => 7 | .budget _ => 8 | .batch .. => 9 | .threshold _ => 10 | .source _ => 11
  | .chainOverrun _ => 12 | .tableCommitted _ => 13

/-- A row number, with 0 for none (section 11.1). -/
def rowByte : Option Nat → Byte
  | none => 0
  | some n => byteOf n

/-- A set of tables: bit n stands for table id n (section 11.1). -/
def tableSetByte (tables : List TableId) : Byte :=
  tables.foldl (fun acc t => acc ||| (1 <<< t.code.toNat)) 0

def identityBytes : Option Identity → List Byte
  | none => [0, 0, 0, 0, 0, 0]
  | some i =>
    [1, i.model, i.layout, flagByte i.accelerometer i.backlight i.detachButton false false, byteOf i.baseline,
      byteOf i.extraLimit]

/-- The body of an event. A POSTURE event without an Hf carries 0 in its place (notes/assumptions/8). -/
def Event.body : Event → List Byte
  | .started why => [why.code]
  | .latch outcome => [outcome.code]
  | .posture p hf row => [p.code] ++ word16 (hf.getD 0).toNat ++ [byteOfBool hf.isSome, rowByte row]
  | .orientation o locked why => [o.code, byteOfBool locked, why.code]
  | .pen state why c => [state.code, why.code, byteOf c]
  | .wake cause row => [byteOf cause.number, byteOf row]
  | .dock state why identity => [state.code, why.code] ++ identityBytes identity
  | .sleepAdvice word row => [word.code, byteOf row]
  | .batch bank word => [bank.code, word.code]
  | .budget g => [byteOf g.latch, byteOf g.base, byteOf g.pen, byteOf g.extra]
  | .threshold pairs => byteOf pairs.length :: pairs.flatMap (fun p => [byteOf p.1, p.2.code])
  | .source pairs => byteOf pairs.length :: pairs.flatMap (fun p => [byteOf (headEntry p.1.source), p.2.code])
  | .chainOverrun entries => byteOf entries.length :: entries.map byteOf
  | .tableCommitted tables => [tableSetByte tables]

/-- An event of an EVENT frame: kind code, body length, body. -/
def Event.bytes (e : Event) : List Byte := byteOf e.kind :: byteOf e.body.length :: e.body

/-- Bit 1 of offset 10: the reason AXIS, clear for STALE. The free value `Config.axisBitWhileResolved` while the hinge is
resolved and has no reason (R60, notes/assumptions/32). -/
def axisBit : Option Unresolved → Bool
  | some .axis => true
  | some .stale => false
  | none => Config.axisBitWhileResolved

/-- The 41 bytes of a STATE body (section 11.2). -/
def Snapshot.bytes (s : Snapshot) : List Byte :=
  word32 s.tick.toNat ++ word16 s.h.toNat ++ word16 (s.hf.getD 0).toNat ++ word16 (s.o.getD 0).toNat
    ++ [flagByte s.unresolved.isNone (axisBit s.unresolved) s.hf.isSome s.o.isSome s.flat,
        s.attitude.code, s.posture.code, (match s.candidate with | none => 255 | some p => p.code),
        s.orientation.code, byteOfBool s.locked, s.pen.code]
    ++ word16 s.duty ++ word16 s.target ++ word16 s.current.toNat
    ++ [s.dock.code, s.latch.code, byteOf s.grants.latch, byteOf s.grants.base, byteOf s.grants.pen, byteOf s.grants.extra]
    ++ word16 s.budget
    ++ [s.platform.code, s.power.code, byteOf s.fifo, byteOf s.keys, byteOf s.samples, byteOf s.events,
        s.roleA.code, byteOf s.countA, s.roleB.code, byteOf s.countB]

/-- The body of a response (section 11.2). -/
def ResponseBody.bytes : ResponseBody → List Byte
  | .ack | .refused _ => []
  | .committed pending clamped => [byteOfBool pending, byteOf clamped]
  | .badTable index why => [byteOf index, why.code]
  | .tableData table copy first count entries => [table.code, copy.code, first, count] ++ entries
  | .state snapshot => snapshot.bytes

/-- The payload of a RESPONSE frame: tag, command kind, outcome, body. -/
def Response.bytes (r : Response) : List Byte := [r.tag, r.kind, r.body.outcome] ++ r.body.bytes

/-- Upstream frame kinds (section 11.2). -/
def Upstream.kind : Upstream → Byte
  | .idle => 0 | .response _ => 1 | .events _ => 2 | .keys _ => 3 | .samples _ => 4 | .batch .. => 5

/-- The payload of an upstream frame; an IDLE frame has none. -/
def Upstream.payload : Upstream → List Byte
  | .idle => []
  | .response r => r.bytes
  | .events content => content.flatMap Event.bytes
  | .keys content => content.flatMap keyReportBytes
  | .samples content => content.flatMap forwardedBytes
  | .batch bank gapBefore gapAfter content =>
    [bank.code, flagByte gapBefore gapAfter false false false] ++ content.flatMap forwardedBytes

/-- The upstream frame as it is clocked out: the 3-byte header and the payload (R163, R166). The length byte of an IDLE header,
which is not examined, is 0, the model's choice (DESIGN CHOICE, notes/assumptions/38). -/
def Transaction.bytes (t : Transaction) : List Byte :=
  [t.frame.kind, byteOf t.frame.payload.length, flagByte t.flagEvents t.flagKeys t.flagSamples t.flagBatch false]
    ++ t.frame.payload

/-- What the MX628 sends for each byte clocked once its own frame is done (R163, section 11.2). -/
def fillByte : Byte := 0

/-- The first bytes that the host clocks out of the MX628 in a transaction: the upstream frame, then fill bytes (R163). -/
def Transaction.clockedOut (t : Transaction) (count : Nat) : List Byte :=
  t.bytes.take count ++ List.replicate (count - t.bytes.length) fillByte

/-! ## Dock Link frames (R89, section 11.5) -/

/-- One bit of the CRC: generator x^8 + x^2 + x + 1, most significant bit first. -/
def crcBit (c : Byte) : Byte := if c.getLsbD 7 then (c <<< 1) ^^^ 7 else c <<< 1

def crcByte (c b : Byte) : Byte :=
  crcBit (crcBit (crcBit (crcBit (crcBit (crcBit (crcBit (crcBit (c ^^^ b))))))))

/-- The CRC-8 of R89, initial value 0, no reflection and no final inversion. -/
def crc8 (bytes : List Byte) : Byte := bytes.foldl crcByte 0

def Channel.number : Channel → Nat
  | .control => 0 | .keys => 1 | .motion => 2 | .output => 3

/-- The header byte: bits 0..2 type, 3..4 channel, 5 toggle, 6..7 sent as 0 (section 11.5). -/
def linkHeader (type : Nat) (channel : Channel) (toggle : Bool) : Byte :=
  byteOf (type + 8 * channel.number + 32 * toggle.toNat)

def withCrc (bytes : List Byte) : List Byte := bytes ++ [crc8 bytes]

/-- A POLL frame. -/
def pollFrame (channel : Channel) (toggle : Bool) : List Byte := withCrc [linkHeader 0 channel toggle]

/-- An ACK frame. -/
def ackFrame (channel : Channel) (toggle : Bool) : List Byte := withCrc [linkHeader 2 channel toggle]

/-- The payload of a channel-3 message (section 11.5). -/
def OutMessage.payload : OutMessage → List Byte
  | .lights backlight indicators => [1, backlight, indicators]
  | .grant units => [2, byteOf units]
  | .cadence code => [3, byteOf code]

/-- The DATA frame of a channel-3 message. -/
def outputFrame (toggle : Bool) (m : OutMessage) : List Byte :=
  withCrc (linkHeader 1 .output toggle :: byteOf m.payload.length :: m.payload)

/-- A channel-0 payload: IDENT, POWER or BUTTON with its length and every field in range (R90, R179). -/
def readControl (payload : List Byte) : Option InMessage :=
  match payload with
  | [kind, model, layout, features, baseline, extra] =>
    if kind = 1 ∧ features.toNat < 8 ∧ 1 ≤ baseline.toNat ∧ baseline.toNat ≤ 40 ∧ extra.toNat ≤ 40 then
      some (.ident
        { model := model, layout := layout, accelerometer := features.getLsbD 0, backlight := features.getLsbD 1,
          detachButton := features.getLsbD 2, baseline := baseline.toNat, extraLimit := extra.toNat })
    else none
  | [kind, units] => if kind = 2 ∧ units.toNat ≤ 40 then some (.power units.toNat) else none
  | [kind] => if kind = 3 then some .button else none
  | _ => none

/-- Whether numbers stand in strictly ascending order. -/
def ascending : List Byte → Bool
  | [] => true
  | [_] => true
  | a :: b :: rest => decide (a.toNat < b.toNat) && ascending (b :: rest)

/-- A channel-1 payload: a flags byte whose bits 1..7 are not examined, then at most 8 key numbers of 1..127 in
strictly ascending order (R91, R179). -/
def readKeys (payload : List Byte) : Option InMessage :=
  match payload with
  | [] => none
  | flags :: numbers =>
    if numbers.length ≤ 8 ∧ numbers.all (fun n => decide (1 ≤ n.toNat ∧ n.toNat ≤ 127)) = true ∧ ascending numbers = true
    then some (.keys { pressed := numbers, fn := flags.getLsbD 0 }) else none

/-- A channel-2 payload: three values of two bytes (R92). -/
def readMotion (payload : List Byte) : Option InMessage :=
  if payload.length = 6 then some (.motion (valueAt payload 0) (valueAt payload 2) (valueAt payload 4)) else none

/-- The message of a DATA frame on a channel, if its payload is well formed; channel 3 carries none inward. -/
def readMessage (channel : Channel) (payload : List Byte) : Option InMessage :=
  match channel with
  | .control => readControl payload
  | .keys => readKeys payload
  | .motion => readMotion payload
  | .output => none

/-- A DATA reply after its header: its length, payload and CRC. A length above 16, a frame not finished or a CRC that
does not check is a CRC error; a payload not well formed is malformed; both are failures (R89). -/
def judgeData (channel : Channel) (header : Byte) (rest : List Byte) : Judged :=
  match rest with
  | [] => .failure
  | len :: body =>
    if len.toNat > 16 then .failure else
      match body.drop len.toNat with
      | [] => .failure
      | crc :: _ =>
        if crc = crc8 (header :: len :: body.take len.toNat) then
          match readMessage channel (body.take len.toNat) with
          | none => .failure
          | some m => .data (header.getLsbD 5) m
        else .failure

/-- The reply to an exchange on a channel as the Dock Controller judges it (R89, R93, R94, R179): header types 5 to 7,
a POLL, a wrong channel, a DATA on channel 3 and an ACK on channels 0 to 2 are malformed; bits 6 and 7 of the header
and bytes after the frame are not examined. -/
def judgeReply (channel : Channel) (frame : List Byte) : Judged :=
  match frame with
  | [] => .failure
  | header :: rest =>
    if header.toNat % 8 = 1 then
      if header.toNat / 8 % 4 = channel.number then judgeData channel header rest else .failure
    else
      match rest with
      | [] => .failure
      | crc :: _ =>
        if crc = crc8 [header] ∧ header.toNat / 8 % 4 = channel.number then
          match header.toNat % 8 with
          | 2 => if channel = .output then .ack else .failure
          | 3 => .nak
          | 4 => .stall
          | _ => .failure
        else .failure

end Sys2Proof.Machine
end

