-- ==== Sys2Proof/Machine/Defaults.lean ====
section
/-! DEFINITION. The built-in defaults of every table, the parameter ranges, and the state each block takes at a reset. A soft reset
differs from a power-on reset in the tick it is taken at and in the reason STARTED carries, and in nothing else. -/

namespace Sys2Proof.Machine

/-! ## Cadences -/

/-- The period in ticks of a cadence code, 0 for off (section 1.3). -/
def cadencePeriod (code : Nat) : Nat :=
  match code with
  | 1 => 1024 | 2 => 256 | 3 => 64 | 4 => 32 | 5 => 16 | 6 => 8 | 7 => 4 | 8 => 2
  | _ => 0

/-- The smallest multiple of the period later than a tick (R5); the count wraps after 2^32. -/
def nextMultiple (period : Nat) (t : Tick) : Tick := BitVec.ofNat 32 ((t.toNat / period + 1) * period)

/-- The next-poll tick of a schedule of this period taken at a tick; an off source has none (R5). -/
def nextPoll (period : Nat) (t : Tick) : Option Tick := if period = 0 then none else some (nextMultiple period t)

/-! ## Built-in tables -/

/-- Section 2.7: an entry not listed. -/
def plainRoute : RouteEntry :=
  { enabled := false, decimation := 1, forward := false, feed := none, test := false, wake := false,
    batchAllowed := false, select := .value0, low := 0, high := 0, next := none }

def plainRow : PostureRow :=
  { enabled := false, posture := .named .closed, low := 0, high := 0, attitude := .any, hall := .any, dwell := 0,
    hysteresis := 0 }

def plainPolicy : PolicyRow :=
  { enabled := false, wakes := false, postures := 0, dock := .any, pen := .any, inactivity := 0, causes := 0 }

/-- The listed entries 0..11 of the built-in Route Table (section 2.7). -/
def defaultRouteHeads : List RouteEntry :=
  [{ plainRoute with enabled := true, decimation := 4, feed := some .angleLid, forward := true, batchAllowed := true, next := some 11 },
   { plainRoute with enabled := true, forward := true },
   { plainRoute with enabled := true, decimation := 4, feed := some .angleBase, forward := true, batchAllowed := true },
   { plainRoute with enabled := true, forward := true },
   { plainRoute with enabled := true, feed := some .hallClosed, forward := true },
   { plainRoute with enabled := true, feed := some .hallFolded, forward := true },
   { plainRoute with enabled := true, feed := some .chargeCurrent },
   { plainRoute with enabled := true, decimation := 16, feed := some .chargeCell, forward := true },
   { plainRoute with enabled := true, feed := some .chargeTemp },
   { plainRoute with enabled := true, feed := some .penPresence, forward := true },
   { plainRoute with enabled := true, feed := some .dockSense, forward := true },
   { plainRoute with enabled := true, test := true, select := .mag, low := 6000, high := 10400, wake := true }]

/-- The built-in Route Table (section 2.7). -/
def defaultRoute : List RouteEntry := defaultRouteHeads ++ List.replicate 36 plainRoute

/-- The built-in Poll Table (section 1.3). -/
def defaultPoll : PerPolled Cadence :=
  { lida := ⟨5, 2⟩, lidg := ⟨0, 0⟩, als := ⟨2, 0⟩, coil := ⟨5, 5⟩, pcel := ⟨2, 2⟩, ctmp := ⟨2, 2⟩, basa := ⟨5, 2⟩ }

/-- The built-in Posture Table (section 4.4). -/
def defaultPosture : List PostureRow :=
  [⟨true, .named .closed, 3982, 227, .any, .closed, 256, 34⟩,
   ⟨true, .named .tablet, 3641, 455, .any, .folded, 512, 34⟩,
   ⟨true, .named .laptop, 228, 2048, .faceUp, .any, 256, 57⟩,
   ⟨true, .named .flat, 2049, 2503, .faceUp, .any, 512, 57⟩,
   ⟨true, .named .stand, 2504, 3640, .faceDown, .any, 512, 57⟩,
   ⟨true, .named .tent, 2504, 3640, .edge, .any, 512, 57⟩,
   plainRow, plainRow, plainRow, plainRow, plainRow, plainRow]

/-- The built-in Orientation Table (section 5.3); bit n stands for orientation code n. -/
def defaultOrient : PerPosture AllowedSet :=
  { unknown := 0b1111, closed := 0, laptop := 0b0001, flat := 0b1111, stand := 0b0001, tent := 0b0100, tablet := 0b1111,
    slate := 0b1111 }

/-- The built-in Charge Curve (R122). -/
def defaultCurve : List Breakpoint :=
  [⟨3000, 150⟩, ⟨3300, 400⟩, ⟨3500, 600⟩, ⟨3700, 600⟩, ⟨3900, 500⟩, ⟨4000, 350⟩, ⟨4100, 150⟩, ⟨4200, 40⟩]

/-- The built-in Sleep Policy Table (section 9.3). -/
def defaultPolicy : List PolicyRow :=
  [{ plainPolicy with enabled := true, postures := 0b00000010, inactivity := 1024 },
   { plainPolicy with enabled := true, wakes := true, postures := 0b11111101, causes := 0b00000100 },
   { plainPolicy with enabled := true, wakes := true, postures := 0b11111101, dock := .attached, causes := 0b00000001 },
   { plainPolicy with enabled := true, wakes := true, postures := 0b11111111, causes := 0b00010000 },
   { plainPolicy with enabled := true, wakes := true, postures := 0b11111101, causes := 0b01100000 },
   plainPolicy, plainPolicy, plainPolicy]

/-- Lowest value, highest value and default of each parameter, in index order (section 10.8). -/
def paramRanges : List (Nat × Nat × Nat) :=
  [(64, 16384, 3072), (64, 16384, 2048), (0, 8192, 4096), (0, 4, 2), (16, 4096, 256), (0, 448, 171), (0, 8192, 512),
   (0, 1023, 40), (0, 1023, 100), (0, 1023, 50), (0, 47, 0), (0, 47, 0)]
  ++ [(0, 7, 3), (1, 128, 16), (0, 1023, 900), (1, 255, 8), (0, 1, 1), (100, 1023, 900), (300, 1250, 850),
   (0, 1023, 700), (0, 500, 40), (16, 4096, 512), (64, 8192, 512), (1, 4, 2), (1, 4, 1), (0, 5, 3), (0, 1, 1),
   (3000, 4500, 4150), (0, 255, 30), (256, 16384, 2048), (60, 65535, 1800), (0, 1, 1)]
  ++ [(20, 300, 150), (0, 300, 60), (10, 100, 50), (0, 4095, 256), (2, 32, 8), (512, 8192, 2048), (1024, 65535, 10240),
   (0, 1, 0), (0, 1, 1)]

/-- The built-in Parameter Table. -/
def defaultParams : List Nat := paramRanges.map (fun r => r.2.2)

/-- The entries of a Poll Table in index order. -/
def pollEntries (t : PerPolled Cadence) : List Cadence := allPolled.map t.get

/-- The entries of an Orientation Table in index order. -/
def orientEntries (t : PerPosture AllowedSet) : List AllowedSet :=
  [t.unknown, t.closed, t.laptop, t.flat, t.stand, t.tent, t.tablet, t.slate]

/-- The staging copies as a reset loads them: the built-in defaults in their entry layouts. -/
def defaultStaging : PerTable (List RawEntry) :=
  { route := defaultRoute.map routeEntryBytes
    poll := (pollEntries defaultPoll).map cadenceBytes
    posture := defaultPosture.map postureRowBytes
    orient := (orientEntries defaultOrient).map allowedSetBytes
    curve := defaultCurve.map breakpointBytes
    policy := defaultPolicy.map policyRowBytes
    param := defaultParams.map paramBytes }

/-! ## The state of each block after a reset taken at tick `t` -/

/-- The schedule of a polled source after a reset: the part is in Run, the settle mark set (R6, R19). -/
def scheduleReset (t : Tick) (c : Cadence) : Schedule :=
  { code := c.run, next := nextPoll (cadencePeriod c.run) t, settle := true }

/-- Section 1.8. -/
def pollReset (t : Tick) : PollBlock :=
  { table := defaultPoll
    schedule :=
      { lida := scheduleReset t defaultPoll.lida, lidg := scheduleReset t defaultPoll.lidg
        als := scheduleReset t defaultPoll.als, coil := scheduleReset t defaultPoll.coil
        pcel := scheduleReset t defaultPoll.pcel, ctmp := scheduleReset t defaultPoll.ctmp
        basa := scheduleReset t defaultPoll.basa }
    health := PerBus.all { health := .ok, failures := 0 }
    waiting := []
    onBus := none
    coming := [] }

/-- R16: no debounced level, no pending level. -/
def linesReset : PerLine LineState := PerLine.all { debounced := none, pending := none }

/-- R17, R18: the FIFO empty, every gap mark clear. -/
def intakeReset : IntakeBlock := { fifo := [], gaps := PerSource.all false }

/-- R20: counters 0, test states UNKNOWN, no hold, IDLE. -/
def runtimeReset : List RouteRuntime := List.replicate 48 { counter := 0, test := .unknown }

def routeReset : RouteBlock := { table := defaultRoute, runtime := runtimeReset, hold := false, walking := none }

/-- R44. -/
def angleReset : AngleBlock :=
  { lid := none, base := none, unresolved := some .stale, h := 0, filter := none, attitude := .none, o := none,
    flat := false }

/-- R61. -/
def postureReset : PostureBlock :=
  { table := defaultPosture, posture := .slate, row := none, candidate := none, dwell := none, hallClosed := none,
    hallFolded := none, heldHf := none, attitude := .none, attached := false }

/-- R78. -/
def orientReset : OrientBlock :=
  { table := defaultOrient, current := .rot0, candidate := none, dwell := none, locked := false, heldO := none,
    heldFlat := false, posture := .slate }

def waitingEmpty : Waiting := { lights := none, grant := none, cadence := none }

/-- R113; the cadence code kept is the one the Poll Scheduler hands on after the reset (R19). -/
def dockReset : DockBlock :=
  { state := .detached, identity := none, attempts := 0, reattaches := 0, toggles := PerChannel.all false, silence := 0,
    halted := false, outgoing := none, waiting := waitingEmpty, remembered := none, extraHeld := 0, cycles := 0,
    motionRunning := false, motionNext := none, cadence := defaultPoll.basa.run, lastPressed := false,
    identifyTimer := none, settleTimer := none, cycle := none, sent := [], keys := [] }

/-- R113: LOCKED, coil off. -/
def latchReset : LatchBlock := { state := .locked, preparation := none, window := none }

/-- R114. -/
def penReset : PenBlock :=
  { curve := defaultCurve, state := .absent, duty := 0, target := 0, curveTarget := 0, current := none, cell := none,
    temperature := none, inhibit := false, monitorClosed := false, faults := 0, laterSet := false, used := 0,
    faultRecord := none, overLimit := false, couplingStart := none, taperStart := none, restCheck := false,
    leading := none, retryTimer := none, restTimer := none, goodRun := none }

def sharesZero : Shares := { latch := 0, base := 0, pen := 0, extra := 0 }

/-- R136: B is Budget Total as the reset has loaded it. -/
def supplyReset : SupplyBlock :=
  { budget := defaultParams.getD Param.budgetTotal.index 0, requests := sharesZero, grants := sharesZero }

/-- R145. -/
def advisorReset (t : Tick) : AdvisorBlock :=
  { table := defaultPolicy, platform := .awake, advising := none, armed := List.replicate 8 true, lastActivity := t,
    adviceTimer := none, idleTimer := none, forcing := false, heldPosture := .slate, heldDock := .detached,
    penPresent := false, penCharging := false, latchLocked := true, power := .run }

def bankFree : Bank := { role := .free, records := [], gapBefore := false, gapAfter := false }

/-- R156. -/
def batchReset : BatchBlock := { bankA := bankFree, bankB := bankFree, order := [] }

/-- R168, R169, R177: the slot and queue empty, the Event List holding STARTED. -/
def hostReset (why : StartReason) : HostBlock :=
  { slot := none, events := [.started why], samples := [], transaction := none, pulse := false }

end Sys2Proof.Machine
end

