-- ==== Sys2Proof/Machine/State.lean ====
section
/-! DEFINITION. The state of the MX628, the reasons a command can stop, and the state after power-on reset. -/

namespace Sys2Proof.Machine

/-- The whole state: one field for each block of the block overview, the active and staging copies of the tables, and
the queue of commands that wait. Each block holds the active copy of the table it owns. -/
structure State where
  /-- Timebase: the tick count (R1). -/
  tick    : Tick
  /-- Parameter Table, active copy, in index order (R175). -/
  params  : List Nat
  /-- The staging copies of the seven tables, each entry as written (R171). -/
  staging : PerTable (List RawEntry)
  /-- Poll Scheduler and Sensor Bus master. -/
  poll    : PollBlock
  /-- Line Monitor. -/
  lines   : PerLine LineState
  /-- Intake. -/
  intake  : IntakeBlock
  /-- Route Engine. -/
  route   : RouteBlock
  /-- Angle Engine. -/
  angle   : AngleBlock
  /-- Posture Classifier. -/
  posture : PostureBlock
  /-- Orientation Tracker. -/
  orient  : OrientBlock
  /-- Dock Controller. -/
  dock    : DockBlock
  /-- The release latch. -/
  latch   : LatchBlock
  /-- Charge Controller. -/
  pen     : PenBlock
  /-- Supply Budget. -/
  supply  : SupplyBlock
  /-- Sleep Advisor. -/
  advisor : AdvisorBlock
  /-- Batch Store. -/
  batch   : BatchBlock
  /-- Host Link. -/
  host    : HostBlock
  /-- The model's own: the commands that wait, first in, first out. -/
  pending : List Instr
deriving DecidableEq, Repr

/-- Why a command stops with a fault. There is no constructor: the manual gives every command an effect in every state
(an event that cannot occur leaves the state as it is), so no command faults. Safe: nothing is cut short. -/
inductive Fault where
deriving DecidableEq, Repr

/-- Why a command is refused. -/
inductive Refusal where
  /-- Raised by an arm of `exec` whose command has no meaning in the model yet. Safe: the model stops. No arm of this
  model raises it. -/
  | notModelled (mnemonic : String)
deriving DecidableEq, Repr

/-- The state right after a reset taken at tick `t`, with nothing waiting. -/
def State.afterReset (t : Tick) (why : StartReason) : State :=
  { tick := t
    params := defaultParams
    staging := defaultStaging
    poll := pollReset t
    lines := linesReset
    intake := intakeReset
    route := routeReset
    angle := angleReset
    posture := postureReset
    orient := orientReset
    dock := dockReset
    latch := latchReset
    pen := penReset
    supply := supplyReset
    advisor := advisorReset t
    batch := batchReset
    host := hostReset why
    pending := [] }

/-- The machine right after power-on reset: the tick count is 0, and the Event List holds STARTED (POWER_ON). -/
def State.reset : State := State.afterReset 0 .powerOn

end Sys2Proof.Machine
end

