-- ==== Sys2Proof/Machine/Ops.lean ====
section
/-! DEFINITION. The operations shared by the blocks: parameters, timers, the Event List, gap marks, arrival at Intake, the settle
marks, and the channel-3 message queue. -/

namespace Sys2Proof.Machine

/-! ## Parameters and timers -/

/-- The active value of a parameter (R175). -/
def State.param (s : State) (p : Param) : Nat := s.params.getD p.index 0

/-- Ticks since a tick, taken modulo 2^32 (scope, Time). -/
def State.since (s : State) (t : Tick) : Nat := (s.tick - t).toNat

/-- A timer started now (R1). -/
def State.timer (s : State) (duration : Nat) : Option Timer := some { start := s.tick, duration := duration }

/-- Whether a timer is running and the count minus its start has reached its duration (R1). -/
def State.due (s : State) : Option Timer → Bool
  | none => false
  | some t => decide (t.duration ≤ s.since t.start)

/-! ## The Event List (R168) -/

/-- A THRESHOLD pair replaces the pair of its entry in place, or joins the set (R33). -/
def setPair (pairs : List (Nat × TestState)) (p : Nat × TestState) : List (Nat × TestState) :=
  match pairs with
  | [] => [p]
  | q :: rest => if q.1 = p.1 then p :: rest else q :: setPair rest p

/-- A member joins a set at most once. -/
def addMember {α : Type} [DecidableEq α] (members : List α) (m : α) : List α :=
  if m ∈ members then members else members ++ [m]

def addMembers {α : Type} [DecidableEq α] (members new : List α) : List α := new.foldl addMember members

/-- A pending event with a newer event of its kind merged in: the newer contents for a value kind, the newer pair per
entry for THRESHOLD, the union for the other set kinds. -/
def mergeEvent (old new : Event) : Event :=
  match old, new with
  | .threshold a, .threshold b => .threshold (b.foldl setPair a)
  | .source a, .source b => .source (addMembers a b)
  | .chainOverrun a, .chainOverrun b => .chainOverrun (addMembers a b)
  | .tableCommitted a, .tableCommitted b => .tableCommitted (addMembers a b)
  | _, e => e

/-- An event joins the list: merged into the pending entry of its kind, or appended at the tail. -/
def addEvent (list : List Event) (e : Event) : List Event :=
  match list with
  | [] => [e]
  | x :: rest => if x.kind = e.kind then mergeEvent x e :: rest else x :: addEvent rest e

/-- A pending event with an older event of its kind returned from flight: a value kind stands as it is, THRESHOLD keeps
its own pair for an entry present in both, the other set kinds take the union. -/
def mergeReturned (standing returned : Event) : Event :=
  match standing, returned with
  | .threshold a, .threshold b => .threshold (a ++ b.filter (fun p => !a.any (fun q => q.1 = p.1)))
  | .source a, .source b => .source (addMembers a b)
  | .chainOverrun a, .chainOverrun b => .chainOverrun (addMembers a b)
  | .tableCommitted a, .tableCommitted b => .tableCommitted (addMembers a b)
  | e, _ => e

/-- The list after an incomplete transaction returns events: those whose kind has no pending entry go back to the head in
their order, the others are merged into the pending entry, which keeps its place. -/
def returnEvents (returned list : List Event) : List Event :=
  returned.filter (fun r => !list.any (fun p => p.kind = r.kind))
    ++ list.map (fun p =>
        match returned.find? (fun r => r.kind = p.kind) with
        | some r => mergeReturned p r
        | none => p)

/-- An event is raised. -/
def raise (e : Event) (s : State) : State :=
  { s with host := { s.host with events := addEvent s.host.events e } }

/-! ## Gap marks and settle marks (R6, R18) -/

def setGap (src : Source) (s : State) : State :=
  { s with intake := { s.intake with gaps := s.intake.gaps.set src true } }

def clearGap (src : Source) (s : State) : State :=
  { s with intake := { s.intake with gaps := s.intake.gaps.set src false } }

def State.settleMark (s : State) (p : Polled) : Bool := (s.poll.schedule.get p).settle

def writeSettle (p : Polled) (mark : Bool) (s : State) : State :=
  { s with poll := { s.poll with schedule := s.poll.schedule.set p { s.poll.schedule.get p with settle := mark } } }

/-- What of a source came due before a settle mark set now: its polls, its samples on their way to Intake, the exchange
(R6). -/
def predateMark (p : Polled) (s : State) : State :=
  match p with
  | .basa => { s with dock := { s.dock with cycle := s.dock.cycle.map (fun c => { c with afterMark := false }) } }
  | .lida | .lidg | .als | .coil | .pcel | .ctmp =>
    { s with
      poll :=
        { s.poll with
          waiting := s.poll.waiting.map (fun w => if w.source.polled = p then { w with afterMark := false } else w)
          onBus := s.poll.onBus.map (fun b => if b.source.polled = p then { b with afterMark := false } else b)
          coming := s.poll.coming.map (fun c => if c.source = p.source then { c with afterMark := false } else c) } }

/-- The settle mark of a source is set: polls issued before do not take it. A mark already set stays as it is
(notes/assumptions/10). -/
def setSettle (p : Polled) (s : State) : State :=
  if s.settleMark p then s else writeSettle p true (predateMark p s)

/-! ## Arrival at Intake (R2, R17) -/

/-- A sample arrives: with fewer than 16 records it is stamped and appended, and a settle mark it consumes is cleared;
at 16 it is discarded and its source's gap mark set. -/
def arrive (src : Source) (values : Values) (unsettled : Bool) (consumes : Option Polled) (s : State) : State :=
  if s.intake.fifo.length < 16 then
    let s1 :=
      { s with
        intake :=
          { s.intake with
            fifo := s.intake.fifo ++ [{ source := src, timestamp := s.tick, unsettled := unsettled, values := values }] } }
    match consumes with
    | none => s1
    | some p => writeSettle p false s1
  else setGap src s

/-- A sample of a polled source arrives; `afterMark` says that it came due after the settle mark standing now was set. It
carries UNSETTLED and clears the mark when the mark is set and it came due after it (R6). -/
def arrivePolled (p : Polled) (values : Values) (afterMark : Bool) (s : State) : State :=
  if s.settleMark p && afterMark then arrive p.source values true (some p) s
  else arrive p.source values false none s

/-- A sample on its way arrives; a place kept for another port's sample brings none. A line's sample is never UNSETTLED
(R6). -/
def landOne (c : Coming) (s : State) : State :=
  match c.values, polledOf c.source with
  | none, _ => s
  | some v, some p => arrivePolled p v c.afterMark s
  | some v, none => arrive c.source v false none s

/-- Samples on their way arrive in their order. -/
def landAll (coming : List Coming) (s : State) : State := coming.foldl (fun t c => landOne c t) s

def writeComing (coming : List Coming) (s : State) : State := { s with poll := { s.poll with coming := coming } }

/-- The samples whose turn has come arrive: those at the front of the order, up to the first place kept. -/
def landReady (s : State) : State :=
  landAll (s.poll.coming.takeWhile (fun c => c.values.isSome))
    (writeComing (s.poll.coming.dropWhile (fun c => c.values.isSome)) s)

/-- All that is on its way arrives, whatever place was kept: a read delivers within its own tick (R7). -/
def landRest (s : State) : State := landAll s.poll.coming (writeComing [] s)

/-- The place kept for a source's sample. -/
def Coming.keptFor (src : Source) (c : Coming) : Bool := c.source = src && c.values.isNone

/-- A poll or an exchange brings its sample by `bring`: what stands ahead of the place kept for it arrives before, what
follows arrives after, up to the next place kept (R2, notes/assumptions/13). With no place kept it arrives by itself. -/
def arriveInTurn (src : Source) (bring : State → State) (s : State) : State :=
  match s.poll.coming.dropWhile (fun c => !c.keptFor src) with
  | [] => bring s
  | _ :: behind =>
    landReady (bring (landAll (s.poll.coming.takeWhile (fun c => !c.keptFor src)) (writeComing behind s)))

/-! ## Channel 3 (R92, R94, R95) -/

/-- Whether the dock is SETTLING or ATTACHED. -/
def State.linked (s : State) : Bool := s.dock.state = .settling || s.dock.state = .attached

/-- A message joins the waiting list, replacing the waiting message of its type. -/
def Waiting.put (w : Waiting) : OutMessage → Waiting
  | .lights backlight indicators => { w with lights := some (backlight, indicators) }
  | .grant units => { w with grant := some units }
  | .cadence code => { w with cadence := some code }

/-- The first waiting message in the order LIGHTS, GRANT, CADENCE, and the list without it. -/
def Waiting.take (w : Waiting) : Option (OutMessage × Waiting) :=
  match w.lights, w.grant, w.cadence with
  | some l, _, _ => some (.lights l.1 l.2, { w with lights := none })
  | none, some g, _ => some (.grant g, { w with grant := none })
  | none, none, some c => some (.cadence c, { w with cadence := none })
  | none, none, none => none

/-- A message is queued to channel 3: discarded while the dock is neither SETTLING nor ATTACHED and while the channel is
halted. -/
def queueMessage (m : OutMessage) (s : State) : State :=
  if s.linked && !s.dock.halted then { s with dock := { s.dock with waiting := s.dock.waiting.put m } } else s

end Sys2Proof.Machine
end

