-- ==== Sys2Proof/Machine/Operands.lean ====
section
/-! DEFINITION. How the readings a command brings become sample values: the clamping of R3 and the mount transform of R14. -/

namespace Sys2Proof.Machine

/-- clamp(x, low, high) (scope, Arithmetic). -/
def clampInt (low high x : Int) : Int := max low (min high x)

/-- A whole number within the signed 16-bit range as a sample value. -/
def valueOfInt (x : Int) : Value := BitVec.ofInt 16 x

/-- R3: an illuminance above 32767 becomes 32767. -/
def luxValue (reading : Int) : Value := valueOfInt (clampInt 0 32767 reading)

/-- R3: the range of each converter channel. -/
def coilValue (reading : Int) : Value := valueOfInt (clampInt 0 1023 reading)
def cellValue (reading : Int) : Value := valueOfInt (clampInt 0 5000 reading)
def tempValue (reading : Int) : Value := valueOfInt (clampInt (-400) 1250 reading)

/-- R3: 1 while the line is asserted. -/
def levelValue (level : Bool) : Value := if level then 1 else 0

/-- Negation that saturates: the negation of −32768 is +32767 (R14). -/
def negateValue (v : Value) : Value := if v = 0x8000 then 0x7FFF else -v

/-- The six permutations of section 1.5. -/
def permuteAxes (selector : Nat) (x y z : Value) : Value × Value × Value :=
  match selector with
  | 0 => (x, y, z)
  | 1 => (x, z, y)
  | 2 => (y, x, z)
  | 3 => (y, z, x)
  | 4 => (z, x, y)
  | _ => (z, y, x)

/-- The mount transform: floor(code / 8) permutes, code mod 8 negates the outputs x, y, z (R14). -/
def mountTransform (code : Nat) (x y z : Value) : Values :=
  let p := permuteAxes (code / 8) x y z
  let signs := code % 8
  .three (if signs % 2 = 1 then negateValue p.1 else p.1)
    (if signs / 2 % 2 = 1 then negateValue p.2.1 else p.2.1)
    (if signs / 4 % 2 = 1 then negateValue p.2.2 else p.2.2)

/-- The sample values of a Sensor Bus poll that returned a reading (R3, R14). -/
def busValues (s : State) (src : Bus) (r : SensorReading) : Values :=
  match src with
  | .lida => mountTransform (s.param .lidMount) r.x r.y r.z
  | .lidg => .three r.x r.y r.z
  | .als => .one (luxValue r.lux)

end Sys2Proof.Machine
end

