-- ==== Sys2Proof/Machine/Flags.lean ====
section
/-! DEFINITION. What the Host Link shows the host besides frames: the four holdings, the header flags (R166) and the attention
line (R154, R155). -/

namespace Sys2Proof.Machine

/-- The host counts as running: batch content may be delivered (R165, R154). -/
def Platform.hostUp (p : Platform) : Bool := p = .awake || p = .advised

/-- Whether a bank stands for delivery: READY or DRAIN with records not in flight. -/
def Bank.deliverable (b : Bank) : Bool := (b.role = .ready || b.role = .drain) && !b.records.isEmpty

/-- The four holdings that drive ATTN, each non-empty while it holds content that is not in flight (R154). -/
structure Holdings where
  events  : Bool
  keys    : Bool
  samples : Bool
  batch   : Bool
deriving DecidableEq, Repr

def State.holdings (s : State) : Holdings :=
  { events := !s.host.events.isEmpty
    keys := !s.dock.keys.isEmpty
    samples := !s.host.samples.isEmpty
    batch := s.advisor.platform.hostUp && (s.batch.bankA.deliverable || s.batch.bankB.deliverable) }

def Holdings.any (h : Holdings) : Bool := h.events || h.keys || h.samples || h.batch

/-- Whether some holding is empty before and non-empty after. -/
def Holdings.filled (before after : Holdings) : Bool :=
  (!before.events && after.events) || (!before.keys && after.keys) || (!before.samples && after.samples)
    || (!before.batch && after.batch)

/-- The line works in LEVEL mode: by Attention Mode, or by the forcing (R155). -/
def State.levelMode (s : State) : Bool := s.advisor.forcing || s.param .attentionMode = 0

/-- Whether ATTN is asserted (driven low): in LEVEL mode while any holding is non-empty, in EDGE mode during a pulse. -/
def State.attention (s : State) : Bool := if s.levelMode then s.holdings.any else s.host.pulse

/-- The pulse after a command that led from `before` to `after`. LEVEL mode has none. Entering EDGE mode drives one
pulse if any holding is non-empty. In EDGE mode a holding that fills starts a pulse, and one being driven goes on. -/
def pulseAfter (before after : State) : Bool :=
  if after.levelMode then false
  else if before.levelMode then after.holdings.any
  else after.host.pulse || before.holdings.filled after.holdings

/-- A command's effect with the attention line brought up to date. -/
def settleAttention (before after : State) : State :=
  { after with host := { after.host with pulse := pulseAfter before after } }

/-- A command that ends in a next state. -/
def finish (before after : State) : Host.Outcome State Fault Refusal := .next (settleAttention before after)

/-! ## Occupancy: content in flight still counts (R167) -/

def State.inFlightKeys (s : State) : List KeyReport :=
  match s.host.transaction with
  | some { frame := .keys content, .. } => content
  | _ => []

def State.inFlightSamples (s : State) : List Forwarded :=
  match s.host.transaction with
  | some { frame := .samples content, .. } => content
  | _ => []

def State.keyCount (s : State) : Nat := s.dock.keys.length + s.inFlightKeys.length

def State.sampleCount (s : State) : Nat := s.host.samples.length + s.inFlightSamples.length

end Sys2Proof.Machine
end

