-- ==== Sys2Proof/Machine/Resets.lean ====
section
/-! DEFINITION. The two resets and the end of an attention pulse: POWER_ON_RESET and ATTN_PULSE_END, and the state a RESET_PART leaves. -/

namespace Sys2Proof.Machine

/-- The state after a reset; the commands that wait are the model's own and stay. -/
def resetTo (t : Tick) (why : StartReason) (s : State) : State := { State.afterReset t why with pending := s.pending }

/-- The soft reset: the Timebase keeps its count (R1, R177). -/
def softReset (s : State) : State := resetTo s.tick .soft s

/-- POWER_ON_RESET (R1): the count becomes 0 and STARTED carries POWER_ON. -/
def execPowerOnReset (s : State) : Host.Outcome State Fault Refusal := finish s (resetTo 0 .powerOn s)

/-- ATTN_PULSE_END: the pulse of EDGE mode ends and the line is released (R154). With no pulse driven nothing changes. -/
def execAttnPulseEnd (s : State) : Host.Outcome State Fault Refusal :=
  finish s { s with host := { s.host with pulse := false } }

end Sys2Proof.Machine
end

