-- ==== Sys2Proof/Machine/Poll.lean ====
section
/-! DEFINITION. The Poll Scheduler and the Sensor Bus master: effective cadences and schedules (R5, R6, R8), the wait list (R9, R10),
the ends of a poll (R11, R12), and the commands BUS_POLL_START, POLL_SUCCESS, NO_ACKNOWLEDGE and BUS_TIMEOUT. -/

namespace Sys2Proof.Machine

/-! ## Effective cadences (R5) -/

/-- The cadence code R5 chooses from the Poll Table: the run cadence in Run, and for the converter channels while the
pen is CHARGING; the doze cadence in every other case. -/
def State.chosenCode (s : State) (p : Polled) : Nat :=
  let c := s.poll.table.get p
  let coilChannel := p = .coil || p = .pcel || p = .ctmp
  if s.advisor.power = .run || (s.pen.state = .charging && coilChannel) then c.run else c.doze

def State.busFailed (s : State) (p : Polled) : Bool :=
  match p.bus? with
  | some b => (s.poll.health.get b).health = .failed
  | none => false

/-- The period a source is polled at: that of its cadence code, 1024 for a FAILED source that is not off, 0 for off. -/
def State.period (s : State) (p : Polled) : Nat :=
  let code := (s.poll.schedule.get p).code
  if code = 0 then 0 else if s.busFailed p then 1024 else cadencePeriod code

def writeCode (p : Polled) (code : Nat) (s : State) : State :=
  { s with poll := { s.poll with schedule := s.poll.schedule.set p { s.poll.schedule.get p with code := code } } }

/-- The next-poll tick is recomputed for the period in force (R5). -/
def renewNext (p : Polled) (s : State) : State :=
  { s with
    poll :=
      { s.poll with
        schedule := s.poll.schedule.set p { s.poll.schedule.get p with next := nextPoll (s.period p) s.tick } } }

/-- The waiting poll of a source is withdrawn without a gap mark (R11, R13). -/
def withdrawPoll (b : Bus) (s : State) : State :=
  { s with poll := { s.poll with waiting := s.poll.waiting.filter (fun w => w.source ≠ b) } }

/-- A source that goes off loses its waiting poll (R13). -/
def withdrawIfOff (p : Polled) (s : State) : State :=
  match p.bus? with
  | some b => if s.period p = 0 then withdrawPoll b s else s
  | none => s

/-- The Dock Controller is handed a new cadence code of BASA: it keeps the code, renews the channel-2 due tick (R97) and
queues a CADENCE message (R92). -/
def handCadence (code : Nat) (s : State) : State :=
  queueMessage (.cadence code)
    { s with dock := { s.dock with cadence := code, motionNext := nextPoll (cadencePeriod code) s.tick } }

/-- The effective cadence of one source is recomputed. A changed period sets the settle mark and starts the new schedule
at once; a period left as it was changes nothing of the schedule (R5, R6). A changed code of BASA is handed on (R8). -/
def reschedule (p : Polled) (s : State) : State :=
  let old := (s.poll.schedule.get p).code
  let code := s.chosenCode p
  let s1 := writeCode p code s
  let s2 := if s1.period p = s.period p then s1 else renewNext p (setSettle p (withdrawIfOff p s1))
  if p = .basa ∧ code ≠ old then handCadence code s2 else s2

/-- The effective cadences of all seven sources are recomputed (R5). -/
def recomputeCadences (s : State) : State :=
  reschedule .basa (reschedule .ctmp (reschedule .pcel (reschedule .coil (reschedule .als (reschedule .lidg
    (reschedule .lida s))))))

/-! ## Issuing polls at a tick boundary (R5, R7, R9, R10) -/

/-- Whether a source comes due at the tick boundary just taken. -/
def State.pollDue (s : State) (p : Polled) : Bool := (s.poll.schedule.get p).next = some s.tick

/-- A due poll of a Sensor Bus source joins the wait list at its tail, where its due tick puts it; a poll of the source
still waiting is dropped with the gap mark set (R9, R10). -/
def joinWaiting (b : Bus) (s : State) : State :=
  let overrun := s.poll.waiting.any (fun w => w.source = b)
  let s1 := if overrun then setGap b.source (withdrawPoll b s) else s
  { s1 with
    poll :=
      { s1.poll with
        waiting := s1.poll.waiting ++ [{ source := b, due := s1.tick, afterMark := s1.settleMark b.polled }] } }

/-- One Sensor Bus source at a tick boundary. -/
def issueBusPoll (b : Bus) (s : State) : State :=
  if s.pollDue b.polled then renewNext b.polled (joinWaiting b s) else s

/-- The three Sensor Bus sources at a tick boundary, in source-number order (R9). -/
def issueBusPolls (s : State) : State := issueBusPoll .als (issueBusPoll .lidg (issueBusPoll .lida s))

/-- A source read without the Sensor Bus moves on to its next due tick. -/
def advanceSchedule (p : Polled) (s : State) : State := if s.pollDue p then renewNext p s else s

/-! ## The ends of a poll (R11, R12) -/

def writeHealth (b : Bus) (h : BusHealth) (s : State) : State :=
  { s with poll := { s.poll with health := s.poll.health.set b h } }

def freeBus (s : State) : State := { s with poll := { s.poll with onBus := none } }

/-- A source enters FAILED: SOURCE gains the pair, the next-poll tick is recomputed for 1024 ticks, and a waiting poll is
withdrawn (R11). -/
def enterFailed (b : Bus) (s : State) : State :=
  withdrawPoll b (renewNext b.polled (raise (.source [(b, .failed)]) (writeHealth b { health := .failed, failures := 3 } s)))

/-- A poll ends as a failure (R11). -/
def failPoll (b : Bus) (s : State) : State :=
  let s1 := setGap b.source (freeBus s)
  let h := s1.poll.health.get b
  if h.health = .failed then s1
  else if h.failures + 1 < 3 then writeHealth b { h with failures := h.failures + 1 } s1
  else enterFailed b s1

/-- The first successful poll of a FAILED source: OK, SOURCE gains the pair, the sample carries UNSETTLED and clears a
settle mark, the next-poll tick is recomputed (R12). -/
def recover (b : Bus) (values : Values) (s : State) : State :=
  let s1 := raise (.source [(b, .ok)]) (writeHealth b { health := .ok, failures := 0 } s)
  renewNext b.polled (arriveInTurn b.source (arrive b.source values true (some b.polled)) s1)

/-- A poll ends with data (R11, R12). -/
def succeedPoll (poll : BusPoll) (reading : SensorReading) (s : State) : State :=
  let b := poll.source
  let s1 := freeBus s
  let values := busValues s1 b reading
  if (s1.poll.health.get b).health = .failed then recover b values s1
  else
    arriveInTurn b.source (arrivePolled b.polled values poll.afterMark) (writeHealth b { health := .ok, failures := 0 } s1)

/-! ## The commands -/

/-- The poll at the head of the wait list starts when the bus is free (R9). -/
def startPoll (s : State) : State :=
  match s.poll.onBus, s.poll.waiting with
  | none, w :: rest =>
    { s with
      poll :=
        { s.poll with
          waiting := rest
          onBus := some { source := w.source, started := s.tick, afterMark := w.afterMark } } }
  | _, _ => s

/-- BUS_POLL_START (R9). With the bus busy or nothing waiting no poll starts. -/
def execBusPollStart (s : State) : Host.Outcome State Fault Refusal := finish s (startPoll s)

/-- POLL_SUCCESS (R11). With no poll in progress the event cannot occur and nothing changes. A poll past its fifth
boundary that is not yet timed out still ends this way, the model's choice (notes/assumptions/31). -/
def execPollSuccess (reading : SensorReading) (s : State) : Host.Outcome State Fault Refusal :=
  finish s (match s.poll.onBus with | none => s | some poll => succeedPoll poll reading s)

/-- NO_ACKNOWLEDGE (R11), also past the fifth boundary of the poll (notes/assumptions/31). -/
def execNoAcknowledge (s : State) : Host.Outcome State Fault Refusal :=
  finish s (match s.poll.onBus with | none => s | some poll => failPoll poll.source s)

/-- BUS_TIMEOUT: the poll in progress has reached the fifth tick boundary after it started (R11). It comes after the TICK of
that boundary has issued the polls due there, the model's choice (notes/assumptions/35). -/
def execBusTimeout (s : State) : Host.Outcome State Fault Refusal :=
  finish s
    (match s.poll.onBus with
     | none => s
     | some poll => if 5 ≤ s.since poll.started then failPoll poll.source s else s)

end Sys2Proof.Machine
end

