-- ==== Sys2Proof/Machine/Advisor.lean ====
section
/-! DEFINITION. The Sleep Advisor: policy rows (R148), sleep evaluation and advice (R150 to R152), wake (R153), part power (R161), and
the commands INACTIVITY_TIMER_EXPIRY and ADVICE_TIMER_EXPIRY. -/

namespace Sys2Proof.Machine

/-! ## Rows (R148) -/

/-- Row n stands at index n − 1 (section 9.3). -/
def State.policyRow (s : State) (n : Nat) : PolicyRow := s.advisor.table.getD (n - 1) plainPolicy

def rowNumbers8 : List Nat := [1, 2, 3, 4, 5, 6, 7, 8]

/-- A row's conditions hold: it is enabled, the held posture is in its set, its dock and pen conditions match. -/
def State.policyHolds (s : State) (r : PolicyRow) : Bool :=
  r.enabled && r.postures.getLsbD s.advisor.heldPosture.code.toNat
    && (match r.dock with
        | .any => true
        | .attached => s.advisor.heldDock = .attached
        | .detached => s.advisor.heldDock ≠ .attached)
    && (match r.pen with
        | .any => true
        | .present => s.advisor.penPresent
        | .absent => !s.advisor.penPresent)

def State.armedAt (s : State) (n : Nat) : Bool := s.advisor.armed.getD (n - 1) true

/-- An enabled, armed SLEEP row whose conditions hold. -/
def State.sleepCandidate (s : State) (n : Nat) : Bool :=
  !(s.policyRow n).wakes && s.armedAt n && s.policyHolds (s.policyRow n)

/-! ## Sleep evaluation and advice (R150, R151) -/

/-- R150, step 1: a disarmed SLEEP row whose conditions do not hold becomes armed. -/
def rearm (s : State) : State :=
  { s with
    advisor :=
      { s.advisor with
        armed := rowNumbers8.map (fun n =>
          s.armedAt n || (!(s.policyRow n).wakes && !s.policyHolds (s.policyRow n))) } }

/-- R150, step 2: the first row whose inactivity is met. -/
def State.advisingRow (s : State) : Option Nat :=
  rowNumbers8.find? (fun n =>
    s.sleepCandidate n && decide ((s.policyRow n).inactivity ≤ s.since s.advisor.lastActivity))

/-- R150, step 3: the ticks until the earliest row would have its inactivity met. -/
def State.idleRemaining (s : State) : Option Nat :=
  ((rowNumbers8.filter s.sleepCandidate).map
    (fun n => (s.policyRow n).inactivity - s.since s.advisor.lastActivity)).min?

def setArmed (n : Nat) (armed : Bool) (s : State) : State :=
  { s with advisor := { s.advisor with armed := s.advisor.armed.set (n - 1) armed } }

/-- Advice by a SLEEP row (R151). -/
def advise (n : Nat) (s : State) : State :=
  let s1 := setArmed n false (raise (.sleepAdvice .advise n) s)
  { s1 with
    advisor :=
      { s1.advisor with
        platform := .advised
        advising := some n
        idleTimer := none
        adviceTimer := s1.timer (s1.param .sleepAnswerTime) } }

/-- A sleep evaluation, made only in AWAKE (R150). -/
def sleepEvaluate (s : State) : State :=
  if s.advisor.platform = .awake then
    let s1 := rearm s
    match s1.advisingRow with
    | some n => advise n s1
    | none => { s1 with advisor := { s1.advisor with idleTimer := s1.idleRemaining.bind s1.timer } }
  else s

/-- The advice ends and the platform returns to AWAKE, where a sleep evaluation follows at once (R152). -/
def endAdvice (s : State) : State :=
  sleepEvaluate
    { s with advisor := { s.advisor with platform := .awake, advising := none, adviceTimer := none } }

/-- The advising row's conditions are re-tested in ADVISED; found false, the advice is WITHDRAWN and the row re-armed
(R152). -/
def retestAdvice (s : State) : State :=
  match s.advisor.advising with
  | none => s
  | some n =>
    if s.policyHolds (s.policyRow n) then s
    else endAdvice (setArmed n true (raise (.sleepAdvice .withdrawn n) s))

/-! ## Part power (R161) -/

/-- Doze while the platform is ASLEEP, the pen is not CHARGING, the dock is not between RESETTING and SETTLING and the
latch is LOCKED; Run otherwise. -/
def State.choosePower (s : State) : Power :=
  if s.advisor.platform = .asleep ∧ s.advisor.penCharging = false ∧ s.advisor.heldDock ≠ .resetting
      ∧ s.advisor.heldDock ≠ .identifying ∧ s.advisor.heldDock ≠ .settling ∧ s.advisor.latchLocked = true
  then .doze else .run

/-- The part power is recomputed, and a change is handed to the Poll Scheduler (R161). -/
def repower (s : State) : State :=
  if s.choosePower = s.advisor.power then s
  else recomputeCadences { s with advisor := { s.advisor with power := s.choosePower } }

/-! ## Wake (R153) -/

/-- The first enabled WAKE row that accepts the cause. -/
def State.wakingRow (s : State) (c : WakeCause) : Option Nat :=
  rowNumbers8.find? (fun n =>
    (s.policyRow n).wakes && (s.policyRow n).causes.getLsbD c.number && s.policyHolds (s.policyRow n))

/-- A wake cause is taken in ASLEEP: the deciding row raises WAKE and the platform becomes WAKING. The Supply Budget, the
Charge Controller and the Batch Store group WAKING with ASLEEP, so the part power alone can change. -/
def takeCause (c : WakeCause) (s : State) : State :=
  if s.advisor.platform = .asleep then
    match s.wakingRow c with
    | none => s
    | some n =>
      let s1 := raise (.wake c n) s
      repower { s1 with advisor := { s1.advisor with platform := .waking } }
  else s

/-! ## Reports to the Advisor (R147) -/

/-- One event of another block is taken by the Advisor, its held copies already up to date: activity sets the
last-activity tick; then AWAKE makes one sleep evaluation, ADVISED re-tests on a change of held state, and ASLEEP takes
the wake cause, if there is one (R147, R150, R152, R153). -/
def advisorTakes (changed activity : Bool) (cause : Option WakeCause) (s : State) : State :=
  let s1 := if activity then { s with advisor := { s.advisor with lastActivity := s.tick } } else s
  match s1.advisor.platform with
  | .awake => if changed || activity then sleepEvaluate s1 else s1
  | .advised => if changed then retestAdvice s1 else s1
  | .asleep => match cause with | none => s1 | some c => takeCause c s1
  | .waking => s1

/-- MOTION: activity and, in ASLEEP, a wake cause (R30, R34). -/
def reportMotion (s : State) : State := advisorTakes false true (some .motion) s

/-- The held dock state follows the Dock Controller, and the part power is recomputed (R145, R161). -/
def holdDock (d : DockState) (s : State) : State :=
  repower { s with advisor := { s.advisor with heldDock := d } }

/-- The held latch value follows the Dock Controller. -/
def holdLatch (locked : Bool) (s : State) : State :=
  repower { s with advisor := { s.advisor with latchLocked := locked } }

/-- The held posture follows the Posture Classifier. -/
def holdPosture (p : Posture) (s : State) : State :=
  { s with advisor := { s.advisor with heldPosture := p } }

/-- The held pen values follow the Charge Controller. -/
def holdPenCharging (charging : Bool) (s : State) : State :=
  repower { s with advisor := { s.advisor with penCharging := charging } }

def holdPenPresent (present : Bool) (s : State) : State :=
  { s with advisor := { s.advisor with penPresent := present } }

/-! ## The commands -/

/-- INACTIVITY_TIMER_EXPIRY: a sleep evaluation is made (R150). A timer not running or not due does not expire. -/
def execInactivityTimerExpiry (s : State) : Host.Outcome State Fault Refusal :=
  finish s
    (if s.due s.advisor.idleTimer then sleepEvaluate { s with advisor := { s.advisor with idleTimer := none } } else s)

/-- The advice timer expires in ADVISED: TIMED_OUT, the row stays disarmed, the platform returns to AWAKE (R152). -/
def timeOutAdvice (s : State) : State :=
  match s.advisor.advising with
  | none => s
  | some n => endAdvice (raise (.sleepAdvice .timedOut n) s)

/-- ADVICE_TIMER_EXPIRY (R152). -/
def execAdviceTimerExpiry (s : State) : Host.Outcome State Fault Refusal :=
  finish s (if s.due s.advisor.adviceTimer && s.advisor.platform = .advised then timeOutAdvice s else s)

end Sys2Proof.Machine
end

