-- ==== Sys2Proof/Machine/Batch.lean ====
section
/-! DEFINITION. The Batch Store (section 9.7 and R159, R160): copies offered while the host sleeps, overflow, and the banks at a change of
platform state. -/

namespace Sys2Proof.Machine

def writeBank (i : BankId) (b : Bank) (s : State) : State := { s with batch := s.batch.setBank i b }

/-- The FILL bank, if there is one. -/
def BatchBlock.filling (b : BatchBlock) : Option BankId :=
  if b.bankA.role = .fill then some .a else if b.bankB.role = .fill then some .b else none

/-- A FREE bank, A before B (R157). -/
def BatchBlock.freeOne (b : BatchBlock) : Option BankId :=
  if b.bankA.role = .free then some .a else if b.bankB.role = .free then some .b else none

/-- The older and the newer bank by fill order (R156). -/
def BatchBlock.older (b : BatchBlock) : BankId := b.order.head?.getD .a

def BatchBlock.newer (b : BatchBlock) : BankId := b.order.getLast?.getD .b

/-- A bank becomes FILL as the newer bank, with the GAP_BEFORE flag given and no records. -/
def beginFill (i : BankId) (gapBefore : Bool) (s : State) : State :=
  { s with
    batch :=
      { s.batch.setBank i { role := .fill, records := [], gapBefore := gapBefore, gapAfter := false } with
        order := s.batch.order.filter (fun j => j ≠ i) ++ [i] } }

/-- A bank becomes FREE: records and flags gone, out of the fill order (R156, R159). -/
def freeBank (i : BankId) (s : State) : State :=
  { s with
    batch := { s.batch.setBank i bankFree with order := s.batch.order.filter (fun j => j ≠ i) } }

/-- The copy that a FORWARD makes of a record: GAP as the source's mark stands (section 2.5). -/
def forwardCopy (entry : Nat) (r : Sample) (s : State) : Forwarded :=
  { source := r.source, entry := entry, gap := s.intake.gaps.get r.source, unsettled := r.unsettled,
    timestamp := r.timestamp, values := r.values }

/-- A copy enters a bank at its tail and clears its source's gap mark. As the 64th record it makes the bank READY,
raises BATCH, and in ASLEEP is a BATCH_FULL wake cause (R157). -/
def enterBank (i : BankId) (entry : Nat) (r : Sample) (s : State) : State :=
  let bank := s.batch.bank i
  let records := bank.records ++ [forwardCopy entry r s]
  if records.length = 64 then
    advisorTakes false false (some .batchFull)
      (raise (.batch i .ready) (clearGap r.source (writeBank i { bank with records := records, role := .ready } s)))
  else clearGap r.source (writeBank i { bank with records := records } s)

/-- A copy offered with no bank FILL and none FREE: KEEP_NEWEST empties the older bank, KEEP_OLDEST discards the copy
(R158). -/
def overflowBatch (entry : Nat) (r : Sample) (s : State) : State :=
  if s.param .batchOverflow = 1 then
    enterBank s.batch.older entry r (beginFill s.batch.older true s)
  else
    raise (.batch s.batch.newer .overflow)
      (writeBank s.batch.newer { s.batch.bank s.batch.newer with gapAfter := true } s)

/-- A copy is offered to the Batch Store (R157). -/
def offerBatch (entry : Nat) (r : Sample) (s : State) : State :=
  match s.batch.filling with
  | some i => enterBank i entry r s
  | none =>
    match s.batch.freeOne with
    | some i => enterBank i entry r (beginFill i false s)
    | none => overflowBatch entry r s

/-- One bank when the host declares itself AWAKE: a FILL bank holding records becomes READY, an empty one FREE (R159). -/
def wakeBank (i : BankId) (s : State) : State :=
  let b := s.batch.bank i
  if b.role = .fill then (if b.records.isEmpty then freeBank i s else writeBank i { b with role := .ready } s) else s

def wakeBanks (s : State) : State := wakeBank .b (wakeBank .a s)

/-- One bank when the host declares itself SLEEPING: a DRAIN bank becomes READY (R160). -/
def sleepBank (i : BankId) (s : State) : State :=
  let b := s.batch.bank i
  if b.role = .drain then writeBank i { b with role := .ready } s else s

def sleepBanks (s : State) : State := sleepBank .b (sleepBank .a s)

end Sys2Proof.Machine
end

