-- ==== Sys2Proof/Machine/Orientation.lean ====
section
/-! DEFINITION. The Orientation Tracker (chapter 5): regions, updates and dwell, the Orientation Table, forcing, the rotation lock, and the
command ROTATION_DWELL_EXPIRY. -/

namespace Sys2Proof.Machine

/-- The four orientations in ROT order (section 5.1). -/
def allOrientations : List Orientation := [.rot0, .rot90, .rot180, .rot270]

/-- The centre of each orientation (section 5.1). -/
def Orientation.centre : Orientation → Nat
  | .rot0 => 1024 | .rot90 => 2048 | .rot180 => 3072 | .rot270 => 0

/-- |wrap(O − centre)|: the distance the short way round the turn (R79). -/
def centreDistance (o : Angle) (k : Orientation) : Nat :=
  let m := (o.toNat + 4096 - k.centre) % 4096
  if m < 2048 then m else 4096 - m

def inSet (set : AllowedSet) (k : Orientation) : Bool := set.getLsbD k.code.toNat

/-- The held posture's allowed set (R83). -/
def State.allowedSet (s : State) : AllowedSet := s.orient.table.get s.orient.posture

/-- The orientations in region for an O: distance at most 512 − Rotation Margin (R79). -/
def State.inRegion (s : State) (o : Angle) : List Orientation :=
  allOrientations.filter (fun k => decide (centreDistance o k + s.param .rotationMargin ≤ 512))

/-- The qualifying orientation: the one in region; of two, the current, else the candidate, else the lower (R79). -/
def State.qualifying (s : State) (o : Angle) : Option Orientation :=
  let found := s.inRegion o
  if found.length ≤ 1 then found.head?
  else if s.orient.current ∈ found then some s.orient.current
  else
    match s.orient.candidate with
    | some c => if c ∈ found then some c else found.head?
    | none => found.head?

/-- The candidate is cleared and the dwell timer stopped. -/
def clearRotation (s : State) : State := { s with orient := { s.orient with candidate := none, dwell := none } }

/-- The current orientation changes: candidate none, timer stopped, ORIENTATION raised (R82, R84, R87). The activity
report follows at the caller. -/
def changeOrientation (k : Orientation) (why : OrientReason) (s : State) : State :=
  raise (.orientation k s.orient.locked why)
    { s with orient := { s.orient with current := k, candidate := none, dwell := none } }

/-- A change of orientation is reported as activity (R87). -/
def reportRotation (s : State) : State := advisorTakes false true none s

/-- The candidate is adopted after its dwell (R82). -/
def adoptOrientation (k : Orientation) (s : State) : State := reportRotation (changeOrientation k .rotated s)

/-- A new candidate: adopted at once with a Rotation Dwell of 0, or its dwell started afresh (R80). -/
def beginRotation (k : Orientation) (s : State) : State :=
  if s.param .rotationDwell = 0 then adoptOrientation k s
  else
    { s with
      orient := { s.orient with candidate := some k, dwell := s.timer (s.param .rotationDwell) } }

/-- The outcome of R80 for the held O. -/
def judgeRotation (o : Angle) (s : State) : State :=
  match s.qualifying o with
  | none => clearRotation s
  | some q =>
    if q = s.orient.current ∨ inSet s.allowedSet q = false then clearRotation s
    else if s.orient.candidate = some q then s
    else beginRotation q s

/-- A non-flat orientation update (R80). -/
def takeOrientation (o : Angle) (s : State) : State :=
  let s1 := { s with orient := { s.orient with heldO := some o, heldFlat := false } }
  if s1.orient.locked then s1 else judgeRotation o s1

/-- A flat orientation update (R81). -/
def takeFlat (s : State) : State := clearRotation { s with orient := { s.orient with heldFlat := true } }

/-- The allowed orientation nearest the held O, ties to the lower ROT number; the first allowed one while O has never
been computed (R85). -/
def State.forcedTarget (s : State) : Orientation :=
  let allowed := allOrientations.filter (inSet s.allowedSet)
  match s.orient.heldO with
  | none => allowed.headD .rot0
  | some o =>
    allowed.foldl (fun best k => if centreDistance o k < centreDistance o best then k else best) (allowed.headD .rot0)

/-- The held posture's set is non-empty and does not hold the current orientation (R84). -/
def State.mustForce (s : State) : Bool := s.allowedSet ≠ 0 && !inSet s.allowedSet s.orient.current

/-- The tracker takes a new posture: forced, or a candidate outside the new set cleared (R84). The activity report of a
forcing follows the posture's own (R87, notes/assumptions/19). -/
def trackPosture (p : Posture) (s : State) : State :=
  let s1 := { s with orient := { s.orient with posture := p } }
  if s1.mustForce then changeOrientation s1.forcedTarget .forced s1
  else
    match s1.orient.candidate with
    | some c => if inSet s1.allowedSet c then s1 else clearRotation s1
    | none => s1

/-- The Orientation Table is applied: the candidate cleared, and the forcing check made (R83). -/
def applyOrientTable (table : PerPosture AllowedSet) (s : State) : State :=
  let s1 := clearRotation { s with orient := { s.orient with table := table } }
  if s1.mustForce then reportRotation (changeOrientation s1.forcedTarget .forced s1) else s1

/-- ROTATION_LOCK on or off (R86). -/
def lockRotation (on : Bool) (s : State) : State :=
  if on = s.orient.locked then s
  else
    let s1 := { s with orient := { s.orient with locked := on } }
    if on then clearRotation s1
    else
      match s1.orient.heldO with
      | some o => if s1.orient.heldFlat then s1 else judgeRotation o s1
      | none => s1

/-- The orientation dwell timer expires and its candidate is adopted (R82). -/
def expireRotation (s : State) : State :=
  match s.orient.candidate with
  | some k => adoptOrientation k s
  | none => clearRotation s

/-- ROTATION_DWELL_EXPIRY (R82). A timer not running or not due does not expire. -/
def execRotationDwellExpiry (s : State) : Host.Outcome State Fault Refusal :=
  finish s (if s.due s.orient.dwell then expireRotation s else s)

end Sys2Proof.Machine
end

