-- ==== Sys2Proof/Machine/Posture.lean ====
section
/-! DEFINITION. The Posture Classifier (chapter 4): row matching, classification, dwell, the effects of a change of posture, the dock's
forced changes, and the command POSTURE_DWELL_EXPIRY. -/

namespace Sys2Proof.Machine

/-! ## Matching (R66 to R69) -/

/-- Row n stands at index n − 1 (section 4.4). -/
def State.postureRow (s : State) (n : Nat) : PostureRow := s.posture.table.getD (n - 1) plainRow

def rowNumbers12 : List Nat := [1, 2, 3, 4, 5, 6, 7, 8, 9, 10, 11, 12]

/-- The row's own angle range, wrapped when low is above high (R66). -/
def PostureRow.angleIn (r : PostureRow) (hf : Angle) : Bool :=
  if r.low ≤ r.high then decide (r.low ≤ hf.toNat ∧ hf.toNat ≤ r.high)
  else decide (r.low ≤ hf.toNat ∨ hf.toNat ≤ r.high)

/-- The range widened by the hysteresis at both ends: an unwrapped one stops at 0 and 4095, a wrapped one is taken
without reduction (R67). -/
def PostureRow.angleInWidened (r : PostureRow) (hf : Angle) : Bool :=
  if r.low ≤ r.high then decide (r.low - r.hysteresis ≤ hf.toNat ∧ hf.toNat ≤ min 4095 (r.high + r.hysteresis))
  else decide ((r.low : Int) - r.hysteresis ≤ hf.toNat ∨ hf.toNat ≤ r.high + r.hysteresis)

/-- The angle condition: decided by the hall condition while Hf has no value (R69). -/
def PostureRow.angleHolds (r : PostureRow) (widened : Bool) (hf : Option Angle) : Bool :=
  match hf with
  | none => r.hall = .closed || r.hall = .folded
  | some a => if widened then r.angleInWidened a else r.angleIn a

/-- The attitude condition (R68). -/
def RowAttitude.holds (c : RowAttitude) (a : Attitude) : Bool :=
  match c with
  | .any => true
  | .faceUp => a = .faceUp
  | .faceDown => a = .faceDown
  | .edge => a = .edge
  | .reserved _ => false

/-- The hall condition (R68). -/
def RowHall.holds (c : RowHall) (closed folded : Option Bool) : Bool :=
  match c with
  | .any => true
  | .closed => closed = some true
  | .folded => folded = some true
  | .opened => closed = some false && folded = some false
  | .reserved _ => false

/-- A row matches: enabled, and its three conditions hold (R68). -/
def State.rowMatches (s : State) (widened : Bool) (n : Nat) : Bool :=
  let r := s.postureRow n
  r.enabled && r.angleHolds widened s.posture.heldHf && r.attitude.holds s.posture.attitude
    && r.hall.holds s.posture.hallClosed s.posture.hallFolded

/-- The first row that matches with its plain range (R72). -/
def State.firstMatch (s : State) : Option Nat := rowNumbers12.find? (s.rowMatches false)

/-- The posture a row names. -/
def State.rowPosture (s : State) (n : Nat) : Posture :=
  match (s.postureRow n).posture with
  | .named p => p
  | .reserved _ => .unknown

/-! ## A change of posture (R74) -/

/-- The posture changes, with its row. POSTURE is raised; the Orientation Tracker takes the posture; the Sleep Advisor
takes the change as activity and as a POSTURE wake cause (R74). A forced orientation raises ORIENTATION in the tracker's
step and reports its activity after the posture's own (R87): where the two rules place the forcing, this split is the
model's choice (notes/assumptions/19). -/
def changePosture (p : Posture) (row : Option Nat) (s : State) : State :=
  let s1 :=
    { s with posture := { s.posture with posture := p, row := row, candidate := none, dwell := none } }
  let s2 := raise (.posture p s1.posture.heldHf row) s1
  let s3 := trackPosture p s2
  let s4 := advisorTakes true true (some .posture) (holdPosture p s3)
  if s3.orient.current = s2.orient.current then s4 else reportRotation s4

/-- The dock enters ATTACHED (R63). -/
def postureAttach (s : State) : State :=
  changePosture .unknown none { s with posture := { s.posture with heldHf := none, attached := true } }

/-- The dock leaves ATTACHED (R62). -/
def postureDetach (s : State) : State :=
  changePosture .slate none { s with posture := { s.posture with attached := false } }

/-! ## Classification (R70 to R73) -/

/-- The candidate is cleared and the dwell timer stopped. -/
def clearPosture (s : State) : State := { s with posture := { s.posture with candidate := none, dwell := none } }

/-- The keep test: the current row still matches with its range widened (R71). -/
def State.keeps (s : State) : Bool :=
  match s.posture.row with
  | some n => s.rowMatches true n
  | none => false

/-- A row's posture is adopted, the row becoming the current row (R73). -/
def adoptRow (n : Nat) (s : State) : State := changePosture (s.rowPosture n) (some n) s

/-- A new candidate row: adopted in the same classification with dwell 0, or its dwell started afresh (R72). -/
def beginPosture (n : Nat) (s : State) : State :=
  if (s.postureRow n).dwell = 0 then adoptRow n s
  else
    { s with posture := { s.posture with candidate := some n, dwell := s.timer (s.postureRow n).dwell } }

/-- The candidate choice of R72, with the posture one of the six table postures. `expiring` says that the dwell timer has
just expired, so a standing candidate is adopted (R73). -/
def chooseCandidate (expiring : Bool) (s : State) : State :=
  match s.firstMatch with
  | none => clearPosture s
  | some n =>
    if s.rowPosture n = s.posture.posture then
      clearPosture { s with posture := { s.posture with row := some n } }
    else if s.posture.candidate = some n then (if expiring then adoptRow n s else s)
    else beginPosture n s

/-- A classification, made while attached (R70). -/
def classify (expiring : Bool) (s : State) : State :=
  if s.posture.attached = false then s
  else if s.posture.posture = .unknown then
    match s.firstMatch with
    | some n => adoptRow n s
    | none => s
  else if s.keeps then clearPosture s
  else chooseCandidate expiring s

/-- A HALL_CLOSED feed (R64). -/
def feedHallClosed (level : Bool) (s : State) : State :=
  classify false { s with posture := { s.posture with hallClosed := some level } }

/-- A HALL_FOLDED feed (R64). -/
def feedHallFolded (level : Bool) (s : State) : State :=
  classify false { s with posture := { s.posture with hallFolded := some level } }

/-- A hinge result: the held attitude and Hf are replaced, and a classification follows while attached (R65). -/
def takeHinge (hf : Option Angle) (attitude : Attitude) (s : State) : State :=
  classify false { s with posture := { s.posture with heldHf := hf, attitude := attitude } }

/-- The Posture Table is applied: the candidate cleared, the posture and the row number kept (R75). -/
def applyPostureTable (table : List PostureRow) (s : State) : State :=
  clearPosture { s with posture := { s.posture with table := table } }

/-- POSTURE_DWELL_EXPIRY: a classification adopts the standing candidate (R73). A timer not running or not due does not
expire. -/
def execPostureDwellExpiry (s : State) : Host.Outcome State Fault Refusal :=
  finish s (if s.due s.posture.dwell then classify true s else s)

end Sys2Proof.Machine
end

