-- ==== Sys2Proof/Machine/Angle.lean ====
section
/-! DEFINITION. The Angle Engine (chapter 3): the arctangent stage, the hinge computation, attitude, filter and orientation angle, what
the dock does to it, and the command VECTOR_AGE_DISCARD. -/

namespace Sys2Proof.Machine

/-! ## The arctangent stage (R47, R48) -/

/-- The table T: arctan(i / 16) in hinge units. -/
def arctanTable : List Nat := [0, 41, 81, 121, 160, 197, 234, 269, 302, 334, 364, 393, 419, 445, 469, 491, 512]

/-- φ for a ratio r in 0..1024: the table with linear interpolation (R47, steps 3 and 4). -/
def arctanOf (r : Nat) : Nat :=
  let i := r / 64
  let f := r - 64 * i
  let t := arctanTable.getD i 512
  if i < 16 then t + ((arctanTable.getD (i + 1) 512 - t) * f + 32) / 64 else t

/-- The exact absolute value of a sample value (scope, Arithmetic). -/
def absValue (v : Value) : Nat := v.toInt.natAbs

/-- The angle within the first quadrant: φ' of R48 from a = |first| and b = |second|. -/
def quarterAngle (a b : Nat) : Nat :=
  if b ≤ a then arctanOf (b * 1024 / a) else 1024 - arctanOf (a * 1024 / b)

/-- The stage: ψ from the positive first axis toward the positive second axis, in 0..4095 (R48). -/
def stage (first second : Value) : Angle :=
  let q := quarterAngle (absValue first) (absValue second)
  BitVec.ofNat 12
    (if 0 ≤ first.toInt then (if 0 ≤ second.toInt then q else (4096 - q) % 4096)
     else if 0 ≤ second.toInt then 2048 - q else 2048 + q)

/-! ## The hinge computation (R49 to R54) -/

/-- A stored vector is absent or older than Stale Limit (R49). -/
def State.stale (s : State) (v : Option Vector3) : Bool :=
  match v with
  | none => true
  | some v => decide (s.param .staleLimit < s.since v.timestamp)

/-- The tilt floor: |y| + |z| at least Tilt Floor (R50). -/
def State.passesTilt (s : State) (v : Vector3) : Bool := decide (s.param .tiltFloor ≤ absValue v.y + absValue v.z)

/-- The outcome of a hinge computation, the other vector judged for staleness (R49). -/
def State.hingeOutcome (s : State) (other : Option Vector3) : Except Unresolved Angle :=
  if s.stale other then .error .stale
  else
    match s.angle.base, s.angle.lid with
    | some b, some l =>
      if s.passesTilt b && s.passesTilt l then .ok (stage l.y l.z - stage b.y b.z) else .error .axis
    | _, _ => .error .stale

/-- The base attitude from the stored base vector (R51). -/
def State.judgeAttitude (s : State) : Attitude :=
  match s.angle.base with
  | none => .none
  | some b =>
    if (s.param .faceFloor : Int) ≤ b.z.toInt then .faceUp
    else if b.z.toInt ≤ -(s.param .faceFloor : Int) then .faceDown
    else .edge

/-- The filter after a resolved computation: the first value outright, then a step of the wrapped distance by the gain,
floored (R52, R53). -/
def filterStep (shift : Nat) (h : Angle) (filter : Option (BitVec 16)) : BitVec 16 :=
  let target : Int := 16 * h.toNat
  match filter with
  | none => BitVec.ofInt 16 target
  | some f =>
    if shift = 0 then BitVec.ofInt 16 target
    else
      let d0 := target - f.toNat
      let d := if d0 > 32767 then d0 - 65536 else if d0 < -32768 then d0 + 65536 else d0
      BitVec.ofInt 16 (f.toNat + (d + (2 ^ (shift - 1) : Nat)) / (2 ^ shift : Nat))

/-- The reported filtered angle Hf (R54). -/
def reportedAngle (f : BitVec 16) : Angle := BitVec.ofNat 12 ((f.toNat + 8) / 16)

/-- Hf, or the indication that Hf16 has no value. -/
def State.hf (s : State) : Option Angle := s.angle.filter.map reportedAngle

/-- One hinge computation after a feed: the result, the attitude, the filter, and the hinge result handed to the Posture
Classifier (R45, R49, R51 to R53, R56). -/
def computeHinge (other : Option Vector3) (s : State) : State :=
  let a1 :=
    match s.hingeOutcome other with
    | .ok h => { s.angle with unresolved := none, h := h, filter := some (filterStep (s.param .filterShift) h s.angle.filter) }
    | .error why => { s.angle with unresolved := some why }
  let s1 := { s with angle := { a1 with attitude := s.judgeAttitude } }
  takeHinge s1.hf s1.angle.attitude s1

/-! ## Feeds (R45, R55) -/

/-- The orientation angle of a taken ANGLE_LID feed, handed to the Orientation Tracker (R55, R56). -/
def computeOrientation (v : Vector3) (s : State) : State :=
  if s.param .flatFloor ≤ absValue v.x + absValue v.y then
    takeOrientation (stage v.x v.y) { s with angle := { s.angle with o := some (stage v.x v.y), flat := false } }
  else takeFlat { s with angle := { s.angle with flat := true } }

/-- An ANGLE_LID feed that is not declined (R45). -/
def feedLid (v : Vector3) (s : State) : State :=
  let s1 := computeOrientation v { s with angle := { s.angle with lid := some v } }
  computeHinge s1.angle.base s1

/-- An ANGLE_BASE feed that is not declined (R45). -/
def feedBase (v : Vector3) (s : State) : State :=
  let s1 := { s with angle := { s.angle with base := some v } }
  computeHinge s1.angle.lid s1

/-! ## The dock and the engine (R57, R58), and age (R46) -/

/-- The dock enters ATTACHED: Hf16 loses its value (R57). -/
def clearFilter (s : State) : State := { s with angle := { s.angle with filter := none } }

/-- The base vector is discarded and the attitude becomes NONE (R58). -/
def discardBase (s : State) : State := { s with angle := { s.angle with base := none, attitude := .none } }

/-- A stored vector has reached 65536 ticks of age. -/
def State.aged (s : State) (v : Option Vector3) : Bool :=
  match v with
  | none => false
  | some v => decide (65536 ≤ s.since v.timestamp)

/-- Aged vectors are discarded; nothing is computed (R46). -/
def discardAged (s : State) : State :=
  let s1 := if s.aged s.angle.base then discardBase s else s
  if s1.aged s1.angle.lid then { s1 with angle := { s1.angle with lid := none } } else s1

/-- VECTOR_AGE_DISCARD (R46). With no vector that old nothing is discarded. -/
def execVectorAgeDiscard (s : State) : Host.Outcome State Fault Refusal := finish s (discardAged s)

end Sys2Proof.Machine
end

