-- ==== Sys2Proof/Machine/Supply.lean ====
section
/-! DEFINITION. The pen's gates and changes of state as far as they need no new request (R115, R116, R120), and the Supply Budget above
them: the budget in force, the requests and the allocation (chapter 8). -/

namespace Sys2Proof.Machine

/-! ## Gates (R120) -/

/-- Whether a gate is closed. -/
def State.gateClosed (s : State) : Gate → Bool
  | .inhibit => s.pen.inhibit
  | .budget => s.supply.grants.pen < 5
  | .sleep => !s.advisor.platform.hostUp && s.param .chargeInSleep = 0
  | .monitor => s.pen.monitorClosed

/-- The first closed gate in the order INHIBIT, BUDGET, SLEEP, MONITOR. -/
def State.leadingGate (s : State) : Option Gate :=
  [Gate.inhibit, Gate.budget, Gate.sleep, Gate.monitor].find? s.gateClosed

/-! ## Changes of pen state (R115, R116) -/

/-- A PEN event with the state, the reason and the count c (R116). -/
def raisePen (why : PenReason) (s : State) : State := raise (.pen s.pen.state why s.pen.faults) s

/-- The coil off and the run's values cleared, as at each departure from and entry to CHARGING (R115). -/
def PenBlock.clearRun (p : PenBlock) : PenBlock :=
  { p with
    duty := 0, target := 0, cell := none, overLimit := false, couplingStart := none, taperStart := none, goodRun := none }

/-- The pen state changes, with the coil and the run bookkeeping (R115, steps 1 and 2). `leading` keeps the pause reason
a PAUSED pen carries. -/
def movePen (dest : PenState) (leading : Option Gate) (s : State) : State :=
  let p1 := if s.pen.state = .charging ∨ dest = .charging then s.pen.clearRun else s.pen
  { s with
    pen :=
      { p1 with
        state := dest
        leading := leading
        goodRun := if dest = .charging then s.timer 2048 else p1.goodRun } }

/-- The change is handed to the neighbours: CHARGING to the Poll Scheduler and the Sleep Advisor, presence to the Sleep
Advisor (R115, step 4). -/
def handPen (from_ dest : PenState) (s : State) : State :=
  let s1 :=
    if (from_ = .charging) ↔ (dest = .charging) then s
    else holdPenCharging (decide (dest = .charging)) (recomputeCadences s)
  if (from_ = .absent) ↔ (dest = .absent) then s1 else holdPenPresent (decide (dest ≠ .absent)) s1

/-- A whole change of pen state that places no new request: to CHARGING, PAUSED or RETRY_WAIT (R115). -/
def enterPen (dest : PenState) (leading : Option Gate) (why : PenReason) (s : State) : State :=
  raisePen why (handPen s.pen.state dest (movePen dest leading s))

/-- PAUSED with a gate as reason. -/
def pausePen (g : Gate) (s : State) : State := enterPen .paused (some g) (.gate g) s

/-- The gates decide between CHARGING with the reason given and PAUSED with the leading closed gate. -/
def openOrPause (why : PenReason) (s : State) : State :=
  match s.leadingGate with
  | none => enterPen .charging none why s
  | some g => pausePen g s

/-- PAUSED with the leading gate of the moment, if any gate is closed. -/
def pauseLeading (s : State) : State :=
  match s.leadingGate with
  | none => s
  | some g => pausePen g s

/-- The gates are re-read on a change of what they depend on (R120): a CHARGING pen pauses at once for INHIBIT or SLEEP;
a PAUSED pen resumes when the last closed gate opens, and raises PEN when its leading gate changes. -/
def rereadGates (s : State) : State :=
  match s.pen.state with
  | .charging => if s.gateClosed .inhibit || s.gateClosed .sleep then pauseLeading s else s
  | .paused =>
    match s.leadingGate with
    | none => enterPen .charging none .resumed s
    | some g =>
      if s.pen.leading = some g then s
      else raisePen (.gate g) { s with pen := { s.pen with leading := some g } }
  | .absent | .topped | .retryWait | .latched => s

/-! ## The allocation (R139, R140) -/

/-- B divided among the four requests in the order LATCH, BASE, PEN, EXTRA: each is granted the lesser of its request and
the remainder (R139). -/
def divideBudget (b : Nat) (r : Shares) : Shares :=
  let latch := min r.latch b
  let base := min r.base (b - latch)
  let pen := min r.pen (b - latch - base)
  { latch := latch, base := base, pen := pen, extra := min r.extra (b - latch - base - pen) }

/-- An allocation, handed on in the order of R140: the grants, the BUDGET event, the pen's gate, the base's GRANT. -/
def allocate (s : State) : State :=
  let old := s.supply.grants
  let new := divideBudget s.supply.budget s.supply.requests
  let s1 := { s with supply := { s.supply with grants := new } }
  let s2 := if new = old then s1 else raise (.budget new) s1
  let s3 := if new.pen = old.pen then s2 else rereadGates s2
  if new.base + new.extra = old.base + old.extra then s3 else queueMessage (.grant (new.base + new.extra)) s3

/-- Requests are placed; a change of any of them is followed by one allocation (R138). -/
def placeRequests (r : Shares) (s : State) : State :=
  if r = s.supply.requests then s else allocate { s with supply := { s.supply with requests := r } }

def placeLatch (units : Nat) (s : State) : State := placeRequests { s.supply.requests with latch := units } s

def placeBase (units : Nat) (s : State) : State := placeRequests { s.supply.requests with base := units } s

def placePen (units : Nat) (s : State) : State := placeRequests { s.supply.requests with pen := units } s

def placeExtra (units : Nat) (s : State) : State := placeRequests { s.supply.requests with extra := units } s

/-- The budget in force for the platform state and the parameters (R137). -/
def State.budgetInForce (s : State) : Nat :=
  if s.advisor.platform.hostUp then s.param .budgetTotal else s.param .sleepBudget

/-- B is recomputed together with requests placed by the same event: one allocation follows when either changed
(R137, R138). -/
def renewBudget (r : Shares) (s : State) : State :=
  if s.budgetInForce = s.supply.budget ∧ r = s.supply.requests then s
  else allocate { s with supply := { s.supply with budget := s.budgetInForce, requests := r } }

end Sys2Proof.Machine
end

