-- ==== Sys2Proof/Machine/Charge.lean ====
section
/-! DEFINITION. The Charge Controller (chapter 7): presence, inputs, the control period, faults and retries, top-off and rest, and the
commands RETRY_WAIT_EXPIRY, REST_TIMER_EXPIRY and GOOD_RUN_TIMER_EXPIRY. -/

namespace Sys2Proof.Machine

/-! ## Curve, request, target, duty (R122 to R125) -/

/-- Linear interpolation between two breakpoints, the quotient rounded toward minus infinity (R122). -/
def interpolate (a b : Breakpoint) (v : Int) : Int :=
  a.current + ((b.current : Int) - a.current) * (v - a.voltage) / ((b.voltage : Int) - a.voltage)

/-- The current for a voltage from a breakpoint onward: the first segment that ends above v decides (R122). -/
def curveFrom (a : Breakpoint) (rest : List Breakpoint) (v : Int) : Int :=
  match rest with
  | [] => a.current
  | b :: more => if v < b.voltage then interpolate a b v else curveFrom b more v

/-- The curve target for a cell value (R122). -/
def curveTarget (curve : List Breakpoint) (cell : Option Value) : Nat :=
  match curve with
  | [] => 0
  | a :: rest =>
    match cell with
    | none => a.current
    | some v => if v.toInt ≤ a.voltage then a.current else (curveFrom a rest v.toInt).toNat

/-- i0, the current of the first breakpoint. -/
def State.firstCurrent (s : State) : Nat := curveTarget s.pen.curve none

/-- ceil(C / 10) budget units, at least 5 (R123). -/
def penUnits (c : Nat) : Nat := max 5 ((c + 9) / 10)

/-- C becomes i0 and the request is placed for it, the allocation following at once (R117, R123, R130, R132). -/
def placeFirst (s : State) : State :=
  placePen (penUnits s.firstCurrent) { s with pen := { s.pen with curveTarget := s.firstCurrent } }

/-- The latest current, 0 when none has been taken (R114). -/
def State.coilCurrent (s : State) : Int :=
  match s.pen.current with
  | none => 0
  | some i => i.value.toInt

/-- The grant in mA (R121, step 7). -/
def State.grantCurrent (s : State) : Nat := 10 * s.supply.grants.pen

/-- The step of a falling target: Ramp Up, or half of it and at least 1 (R124). -/
def State.rampDown (s : State) : Nat :=
  if s.param .rampDownHalf = 0 then s.param .rampUp else max 1 (s.param .rampUp / 2)

/-- The effective target after an update without a soft restart (R124). -/
def State.rampedTarget (s : State) : Nat :=
  let l := min s.pen.curveTarget s.grantCurrent
  let t := s.pen.target
  if l > t then min l (t + s.param .rampUp)
  else if l < t then max l (t - s.rampDown)
  else t

/-- The duty after a step: floor(e / 2^Gain Shift), clamped to the Step Limit, the sum clamped to 0..Duty Max (R125). -/
def State.steppedDuty (s : State) : Nat :=
  let e : Int := s.pen.target - s.coilCurrent
  let limit : Int := s.param .stepLimit
  let delta := clampInt (-limit) limit (e / (2 ^ s.param .gainShift : Nat))
  (clampInt 0 (s.param .dutyMax) (s.pen.duty + delta)).toNat

/-! ## Leaving the run: ABSENT, TOPPED, LATCHED -/

/-- A change to a state in which the request becomes 0: the request is withdrawn before the neighbours are told and the
event is raised (R115). -/
def withdrawPen (dest : PenState) (why : PenReason) (s : State) : State :=
  raisePen why (handPen s.pen.state dest (placePen 0 (movePen dest none s)))

/-- TOPPED, with the rest timer started for Rest Time × 1024 ticks (R131, R132). -/
def topOff (s : State) : State :=
  let s1 := withdrawPen .topped .full s
  { s1 with pen := { s1.pen with restTimer := s1.timer (s1.param .restTime * 1024) } }

/-! ## Faults (R126, R127) -/

/-- The multiplier of a long wait (R127). -/
def longMultiplier (code : Nat) : Nat :=
  match code with
  | 0 => 2 | 1 => 4 | 2 => 8 | 3 => 12 | 4 => 16
  | _ => 24

/-- The size of the retry set in use. -/
def State.retrySetSize (s : State) : Nat :=
  if s.pen.laterSet then s.param .laterSetRetries else s.param .firstSetRetries

/-- A retry wait is chosen from the retry set and started, and the pen enters RETRY_WAIT (R127, steps 4 and 5). -/
def beginRetry (f : PenFault) (s : State) : State :=
  let s1 :=
    if s.pen.used < s.retrySetSize then
      { s with pen := { s.pen with used := s.pen.used + 1, retryTimer := s.timer (s.param .retryWait) } }
    else
      { s with
        pen :=
          { s.pen with
            laterSet := true, used := 1
            retryTimer := s.timer (s.param .retryWait * longMultiplier (s.param .longMultiplier)) } }
  enterPen .retryWait none (.fault f) s1

/-- A fault is taken (R127). -/
def takeFault (f : PenFault) (s : State) : State :=
  let s1 := { s with pen := { s.pen with faultRecord := some f, faults := min 255 (s.pen.faults + 1) } }
  if s1.param .retryLimitMode = 1 ∧ 5 ≤ s1.pen.faults then withdrawPen .latched (.fault f) s1
  else beginRetry f s1

/-! ## The control period (R121) -/

/-- Step 1: a current feed less than 32 ticks old. -/
def State.currentFresh (s : State) : Bool :=
  match s.pen.current with
  | none => false
  | some i => decide (s.since i.timestamp < 32)

/-- A start tick that a standing condition keeps or sets, and a failing one clears (R126, R131). -/
def startTick (s : State) (holds : Bool) (start : Option Tick) : Option Tick :=
  if holds then some (start.getD s.tick) else none

/-- The condition has stood since its start for at least a time. -/
def State.stood (s : State) (start : Option Tick) (time : Nat) : Bool :=
  match start with
  | none => false
  | some t => decide (time ≤ s.since t)

def State.overLimitNow (s : State) : Bool := decide ((s.param .ocLimit : Int) < s.coilCurrent)

/-- The COUPLING condition, with the duty held before the period's step (R126). -/
def State.uncoupled (s : State) : Bool :=
  decide (s.param .couplingDuty ≤ s.pen.duty) && decide (s.coilCurrent < s.param .couplingFloor)

/-- The top-off condition (R131). -/
def State.tapered (s : State) : Bool :=
  match s.pen.cell with
  | none => false
  | some v => decide ((s.param .fullVoltage : Int) ≤ v.toInt) && decide (s.coilCurrent < s.param .taperCurrent)

/-- Steps 7 and 8: the soft restart, or the target and the duty (R124, R125). -/
def stepCoil (s : State) : State :=
  if s.grantCurrent < s.pen.target then { s with pen := { s.pen with target := 0, duty := 0 } }
  else
    let s1 := { s with pen := { s.pen with target := s.rampedTarget } }
    { s1 with pen := { s1.pen with duty := s1.steppedDuty } }

/-- Steps 5 to 8: curve, request, target, duty. The coil is stepped while the pen is CHARGING only (R115). -/
def regulate (s : State) : State :=
  let c := curveTarget s.pen.curve s.pen.cell
  let s1 := placePen (penUnits c) { s with pen := { s.pen with curveTarget := c } }
  if s1.pen.state = .charging then stepCoil s1 else s1

/-- Step 4: the top-off check (R131). -/
def checkTopOff (s : State) : State :=
  let s1 := { s with pen := { s.pen with taperStart := startTick s s.tapered s.pen.taperStart } }
  if s1.stood s1.pen.taperStart (s1.param .fullDwell) then topOff s1 else regulate s1

/-- Step 3, the COUPLING check (R126). -/
def checkCoupling (s : State) : State :=
  let s1 := { s with pen := { s.pen with couplingStart := startTick s s.uncoupled s.pen.couplingStart } }
  if s1.stood s1.pen.couplingStart (s1.param .couplingTime) then takeFault .coupling s1 else checkTopOff s1

/-- Step 3, the OVERCURRENT check (R126). -/
def checkOvercurrent (s : State) : State :=
  if s.overLimitNow && s.pen.overLimit then takeFault .overcurrent s
  else checkCoupling { s with pen := { s.pen with overLimit := s.overLimitNow } }

/-- A control period of a CHARGING pen (R121). -/
def controlPeriod (s : State) : State :=
  if s.currentFresh = false then pauseLeading { s with pen := { s.pen with monitorClosed := true } }
  else if s.gateClosed .budget then pauseLeading s
  else checkOvercurrent s

/-! ## Inputs (R117 to R119, R132) -/

/-- c, the retry set and the fault record as a fresh pen has them. -/
def PenBlock.forgive (p : PenBlock) : PenBlock :=
  { p with faults := 0, laterSet := false, used := 0, faultRecord := none }

/-- A PEN_PRESENCE feed of level 1 in ABSENT (R117). -/
def insertPen (s : State) : State :=
  let s1 := placeFirst { s with pen := s.pen.forgive }
  advisorTakes true true (some .penIn) (openOrPause .inserted s1)

/-- A PEN_PRESENCE feed of level 0 outside ABSENT (R118). Whether the PEN event carries c before or after its clearing
is open: `Config.removalClearsFirst` (notes/assumptions/4). -/
def removePen (s : State) : State :=
  let shown := if Config.removalClearsFirst then 0 else s.pen.faults
  let s1 :=
    { s with
      pen := { s.pen with faults := shown, retryTimer := none, restTimer := none, restCheck := false } }
  let s2 := withdrawPen .absent .removed s1
  advisorTakes true true (some .penOut) { s2 with pen := s2.pen.forgive }

/-- A PEN_PRESENCE feed (R117, R118). -/
def feedPresence (level : Bool) (s : State) : State :=
  if level then (if s.pen.state = .absent then insertPen s else s)
  else if s.pen.state = .absent then s else removePen s

/-- A CHARGE_CURRENT feed, not UNSETTLED: I is stored, and a closed monitor flag opens (R119). -/
def feedCurrent (v : Value) (t : Tick) (s : State) : State :=
  let s1 := { s with pen := { s.pen with current := some { value := v, timestamp := t } } }
  if s1.pen.monitorClosed then rereadGates { s1 with pen := { s1.pen with monitorClosed := false } } else s1

/-- A CHARGE_CELL feed, not UNSETTLED: taken while CHARGING, with the rest check of R132. -/
def feedCell (v : Value) (s : State) : State :=
  if s.pen.state = .charging then
    let s1 := { s with pen := { s.pen with cell := some v, restCheck := false } }
    if s.pen.restCheck && decide ((s.param .fullVoltage : Int) ≤ v.toInt) then topOff s1 else s1
  else s

/-- A CHARGE_TEMP feed, not UNSETTLED: while CHARGING a value above OT Limit is an OVERTEMP fault (R119, R126). -/
def feedTemp (v : Value) (s : State) : State :=
  let s1 := { s with pen := { s.pen with temperature := some v } }
  if s1.pen.state = .charging ∧ (s1.param .otLimit : Int) < v.toInt then takeFault .overtemp s1 else s1

/-! ## Host commands and table (R120, R130, R133) -/

/-- CHARGE_INHIBIT on or off (R120). -/
def inhibitCharge (on : Bool) (s : State) : State :=
  if on = s.pen.inhibit then s else rereadGates { s with pen := { s.pen with inhibit := on } }

/-- CLEAR_FAULT (R130). -/
def clearFaultOf (s : State) : State :=
  if s.pen.state = .latched then openOrPause .cleared (placeFirst { s with pen := s.pen.forgive }) else s

/-! ## The commands -/

/-- Whether an OVERTEMP coil is still too hot for a retry (R128). -/
def State.stillHot (s : State) : Bool :=
  match s.pen.faultRecord, s.pen.temperature with
  | some .overtemp, some v => decide ((s.param .otLimit : Int) - 50 ≤ v.toInt)
  | _, _ => false

/-- The retry wait expires in RETRY_WAIT (R128). -/
def expireRetry (s : State) : State :=
  if s.stillHot then { s with pen := { s.pen with retryTimer := s.timer (s.param .retryWait) } }
  else openOrPause .retried { s with pen := { s.pen with retryTimer := none } }

/-- RETRY_WAIT_EXPIRY (R128). A timer not running or not due does not expire. -/
def execRetryWaitExpiry (s : State) : Host.Outcome State Fault Refusal :=
  finish s (if s.due s.pen.retryTimer && s.pen.state = .retryWait then expireRetry s else s)

/-- The rest ends in TOPPED (R132). -/
def endRest (s : State) : State :=
  openOrPause .rested (placeFirst { s with pen := { s.pen with restTimer := none, restCheck := true } })

/-- REST_TIMER_EXPIRY (R132). -/
def execRestTimerExpiry (s : State) : Host.Outcome State Fault Refusal :=
  finish s (if s.due s.pen.restTimer && s.pen.state = .topped then endRest s else s)

/-- GOOD_RUN_TIMER_EXPIRY: c becomes 0 and the retry set FIRST with used count 0; no event (R129). -/
def execGoodRunTimerExpiry (s : State) : Host.Outcome State Fault Refusal :=
  finish s
    (if s.due s.pen.goodRun then
      { s with pen := { s.pen with faults := 0, laterSet := false, used := 0, goodRun := none } }
     else s)

end Sys2Proof.Machine
end

