-- ==== Sys2Proof/Machine/Dock.lean ====
section
/-! DEFINITION. The Dock Controller (chapter 6): the attachment and its departures, exchanges and cycles, keys, the release latch, and the
commands DOCK_REPLY, REPLY_TIMEOUT, BYTE_TIMEOUT, RESET_PULSE_END, IDENTIFY_TIMER_EXPIRY, SETTLE_TIMER_EXPIRY,
PREPARATION_TIMER_EXPIRY and RELEASE_WINDOW_EXPIRY. -/

namespace Sys2Proof.Machine

/-! ## The release latch (R110 to R112) -/

/-- A release ends: coil off, timers stopped, LOCKED, the LATCH request 0, LATCH raised with the outcome (R112). -/
def endRelease (outcome : LatchOutcome) (s : State) : State :=
  raise (.latch outcome) (placeLatch 0 (holdLatch true { s with latch := latchReset }))

/-- A release in progress ends; a LOCKED latch is left as it is. -/
def endReleaseIfAny (outcome : LatchOutcome) (s : State) : State :=
  if s.latch.state = .locked then s else endRelease outcome s

/-- An accepted release request (R110, steps 1 to 4). -/
def beginRelease (s : State) : State :=
  let s1 := holdLatch false { s with latch := { s.latch with state := .preparing } }
  let s2 := placeLatch (s1.param .latchDraw) s1
  advisorTakes false true none { s2 with latch := { s2.latch with preparation := s2.timer 32 } }

/-- A release request with the checks of R110 in their order. -/
def requestRelease (s : State) : Except RefusalCode State :=
  if s.dock.state ≠ .attached then .error .badState
  else if s.latch.state ≠ .locked then .error .busy
  else if s.supply.budget < s.param .latchDraw then .error .noBudget
  else .ok (beginRelease s)

/-- The preparation ends: the coil is energised in OPEN, the window timer starts (R111). -/
def openLatch (s : State) : State :=
  { s with latch := { state := .opened, preparation := none, window := s.timer (s.param .releaseWindow) } }

/-- The latch coil is energised only while the latch is OPEN (R111). -/
def State.latchCoil (s : State) : Bool := s.latch.state = .opened

/-! ## Keys (R107 to R109) -/

/-- A key report of the base joins the Key Queue: KEYS activity and wake cause (R107, R108). -/
def queueKeys (k : KeySet) (s : State) : State :=
  advisorTakes false true (some .keys)
    { s with
      dock :=
        { s.dock with
          keys := s.dock.keys ++ [{ pressed := k.pressed, fn := k.fn, synthetic := false, queued := s.tick }]
          lastPressed := !k.pressed.isEmpty } }

/-- The stuck-key release of a departure from ATTACHED (R109). -/
def releaseKeys (s : State) : State :=
  if s.dock.lastPressed then
    { s with
      dock :=
        { s.dock with
          keys := s.dock.keys ++ [{ pressed := [], fn := false, synthetic := true, queued := s.tick }]
          lastPressed := false } }
  else s

/-- The remembered settle report is queued at entry to ATTACHED if a key is pressed, and cleared (R108). It is queued whatever
the queue holds (notes/assumptions/34). -/
def replayKeys (s : State) : State :=
  let s1 := { s with dock := { s.dock with remembered := none } }
  match s.dock.remembered with
  | none => s1
  | some k => if k.pressed.isEmpty then s1 else queueKeys k s1

/-! ## Changes of dock state (R99) -/

/-- What becomes of an exchange on the wire at a change of dock state: gone while the contact is held low; its outcome
discarded when the dock leaves its link for DETACHED or DOCK_FAULT (R104, R105); otherwise untouched. -/
def cycleAfter (dest : DockState) (c : Option Cycle) : Option Cycle :=
  match dest with
  | .resetting => none
  | .detached | .dockFault => c.map (fun x => { x with discarded := true })
  | .identifying | .settling | .attached => c

/-- The dock state changes: the timers of the state left are stopped, DOCK is raised with the identity held after the
change, and the Sleep Advisor's held copy follows (R99, R101, R104, R145). -/
def changeDock (dest : DockState) (why : DockReason) (s : State) : State :=
  let identity := if dest = .detached then none else s.dock.identity
  let s1 :=
    { s with
      dock :=
        { s.dock with
          state := dest, identity := identity, identifyTimer := none, settleTimer := none
          cycle := cycleAfter dest s.dock.cycle } }
  holdDock dest (raise (.dock dest why identity) s1)

/-- A change of dock state with its report to the Sleep Advisor: entry to DETACHED is DOCK activity and wake cause, the
other changes are changes of held state only (R99, R150). Entry to ATTACHED reports at its own last step (R103). -/
def enterDock (dest : DockState) (why : DockReason) (s : State) : State :=
  let s1 := changeDock dest why s
  match dest with
  | .detached => advisorTakes true true (some .dock) s1
  | .attached => s1
  | .resetting | .identifying | .settling | .dockFault => advisorTakes true false none s1

/-- The base's requests and held draw fall to 0 in one step (R104, step 3). -/
def dropRequests (s : State) : State :=
  placeRequests { s.supply.requests with base := 0, extra := 0 } { s with dock := { s.dock with extraHeld := 0 } }

/-- Channel 2 stops with BASA's gap mark set, and channel 3 is emptied (R104, steps 4 and 5). -/
def stopChannels (s : State) : State :=
  setGap .basa
    { s with
      dock := { s.dock with motionRunning := false, motionNext := none, outgoing := none, waiting := waitingEmpty } }

/-- A departure: a change from SETTLING or ATTACHED to any other state (R104). -/
def depart (dest : DockState) (why : DockReason) (s : State) : State :=
  let wasAttached := s.dock.state = .attached
  let s1 := enterDock dest why s
  let s2 := if wasAttached then releaseKeys s1 else s1
  let s3 := stopChannels (dropRequests { s2 with dock := { s2.dock with remembered := none } })
  let s4 := discardBase s3
  endReleaseIfAny .cancelled (if wasAttached then postureDetach s4 else s4)

/-- The dock leaves for another state: a departure when it leaves SETTLING or ATTACHED. -/
def leaveDock (dest : DockState) (why : DockReason) (s : State) : State :=
  if s.linked then depart dest why s else enterDock dest why s

/-- The dock goes to DETACHED on loss of sense or silence: with a release in progress the release ends RELEASED first and
the reason is RELEASE (R105, R112). -/
def loseDock (why : DockReason) (s : State) : State :=
  if s.latch.state = .locked then leaveDock .detached why s
  else leaveDock .detached .release (endRelease .released s)

/-- A DOCK_SENSE feed (R100, R105). -/
def feedSense (level : Bool) (s : State) : State :=
  if level then
    if s.dock.state = .detached then
      enterDock .resetting .sense { s with dock := { s.dock with attempts := 1, reattaches := 0 } }
    else s
  else if s.dock.state = .detached then s else loseDock .sense s

/-- Entry to IDENTIFYING (R101). -/
def enterIdentifying (s : State) : State :=
  let s1 := enterDock .identifying .none s
  { s1 with
    dock :=
      { s1.dock with
        toggles := PerChannel.all false, silence := 0, halted := false, remembered := none
        identifyTimer := s1.timer 100 } }

/-- An identify attempt has failed (R101). -/
def failAttempt (s : State) : State :=
  if s.dock.attempts < 3 then
    enterDock .resetting .noIdent { s with dock := { s.dock with attempts := s.dock.attempts + 1 } }
  else enterDock .dockFault .noIdent s

/-- Entry to ATTACHED (R103). -/
def enterAttached (s : State) : State :=
  let s1 := postureAttach (clearFilter (changeDock .attached .none s))
  let s2 := replayKeys s1
  advisorTakes true true (some .dock) (placeExtra s2.dock.extraHeld s2)

/-- Channel 2 starts at entry to SETTLING, if the base has the accelerometer and the cadence is not off (R97, R102). -/
def startMotion (accelerometer : Bool) (s : State) : State :=
  let s1 :=
    { s with
      dock :=
        { s.dock with
          motionRunning := accelerometer, motionNext := nextPoll (cadencePeriod s.dock.cadence) s.tick } }
  if accelerometer && s.dock.cadence ≠ 0 then setSettle .basa s1 else s1

/-- The GRANT total as it stands. -/
def State.grantTotal (s : State) : Nat := s.supply.grants.base + s.supply.grants.extra

/-- Entry to SETTLING with a new identity (R102). -/
def enterSettling (i : Identity) (s : State) : State :=
  let s1 := enterDock .settling .none { s with dock := { s.dock with identity := some i } }
  let s2 := placeBase i.baseline { s1 with dock := { s1.dock with cycles := 0, extraHeld := 0 } }
  let s3 := queueMessage (.cadence s2.dock.cadence) (queueMessage (.grant s2.grantTotal) s2)
  let s4 := startMotion i.accelerometer s3
  if s4.param .attachSettle = 0 then enterAttached s4
  else { s4 with dock := { s4.dock with settleTimer := s4.timer (s4.param .attachSettle) } }

/-! ## Messages and outcomes of exchanges (R90 to R94, R98, R106) -/

/-- The identity's extra draw limit. -/
def State.extraLimit (s : State) : Nat :=
  match s.dock.identity with
  | none => 0
  | some i => i.extraLimit

/-- POWER in SETTLING or ATTACHED (R90). -/
def takePower (units : Nat) (s : State) : State :=
  let held := min units s.extraLimit
  let s1 := { s with dock := { s.dock with extraHeld := held } }
  if s1.dock.state = .attached then placeExtra held s1 else s1

/-- BUTTON in SETTLING or ATTACHED: a release request while the host is up, a wake cause otherwise (R90, R110). -/
def takeButton (s : State) : State :=
  if s.advisor.platform.hostUp then
    match requestRelease s with
    | .ok s1 => s1
    | .error _ => s
  else advisorTakes false false (some .button) s

/-- An accepted message, according to the dock state (R90, R92, R107, R108). -/
def takeMessage (afterMark : Bool) (m : InMessage) (s : State) : State :=
  match m with
  | .ident i => if s.dock.state = .identifying then enterSettling i s else s
  | .power units => if s.linked then takePower units s else s
  | .button => if s.linked then takeButton s else s
  | .keys k =>
    if s.dock.state = .attached then queueKeys k s
    else if s.dock.state = .settling then { s with dock := { s.dock with remembered := some k } }
    else s
  | .motion x y z =>
    arriveInTurn .basa (arrivePolled .basa (mountTransform (s.param .baseMount) x y z) afterMark) s

/-- A frame is put on the wire. -/
def sendFrame (f : List Byte) (s : State) : State := { s with dock := { s.dock with sent := s.dock.sent ++ [f] } }

def flipToggle (c : Channel) (s : State) : State :=
  { s with dock := { s.dock with toggles := s.dock.toggles.set c (!s.dock.toggles.get c) } }

/-- A good exchange sets the Silence Count to 0 (R98). -/
def goodExchange (s : State) : State := { s with dock := { s.dock with silence := 0 } }

/-- Whether the dock makes exchanges: IDENTIFYING, SETTLING or ATTACHED (R96). -/
def State.linkActive (s : State) : Bool := s.dock.state = .identifying || s.linked

/-- A failure is counted, and at Silence Limit the dock leaves for DETACHED (R98, R105). -/
def countFailure (s : State) : State :=
  let s1 := { s with dock := { s.dock with silence := s.dock.silence + 1 } }
  if s1.param .silenceLimit ≤ s1.dock.silence ∧ s1.linkActive = true then loseDock .silence s1 else s1

/-- A STALL on channel 0, 1 or 2: a failed attempt in IDENTIFYING, a reattach or DOCK_FAULT otherwise (R101, R106). -/
def takeStall (s : State) : State :=
  if s.dock.state = .identifying then failAttempt s
  else if s.linked then
    if s.dock.reattaches < 3 then
      depart .resetting .stall { s with dock := { s.dock with reattaches := s.dock.reattaches + 1, attempts := 1 } }
    else depart .dockFault .stall s
  else s

/-- The outcome of an exchange on channel 0, 1 or 2 (R93). -/
def resolveInward (c : Cycle) (j : Judged) (s : State) : State :=
  match j with
  | .data toggle m =>
    let ack := ackFrame c.channel toggle
    if toggle = s.dock.toggles.get c.channel then
      sendFrame ack (takeMessage c.afterMark m (goodExchange (flipToggle c.channel s)))
    else sendFrame ack (goodExchange s)
  | .nak => goodExchange s
  | .stall => takeStall s
  | .ack | .failure => countFailure s

/-- The outcome of an exchange on channel 3 (R94). -/
def resolveOutput (j : Judged) (s : State) : State :=
  match j with
  | .ack => goodExchange (flipToggle .output { s with dock := { s.dock with outgoing := none } })
  | .nak => goodExchange s
  | .stall => { s with dock := { s.dock with halted := true, outgoing := none, waiting := waitingEmpty } }
  | .data .. | .failure => countFailure s

/-- The outcome of the exchange of a cycle. A channel-2 exchange moves the next-due tick on, whatever its outcome
(R97). -/
def resolve (c : Cycle) (j : Judged) (s : State) : State :=
  match c.channel with
  | .output => resolveOutput j s
  | .control | .keys => resolveInward c j s
  | .motion =>
    resolveInward c j { s with dock := { s.dock with motionNext := nextPoll (cadencePeriod s.dock.cadence) c.tick } }

/-! ## Cycles (R95 to R97) -/

def Waiting.isEmpty (w : Waiting) : Bool := w.take.isNone

/-- Channel 2 is due in a cycle whose tick is at or after its next-due tick (R97). -/
def State.motionDue (s : State) (cycleTick : Tick) : Bool :=
  match s.dock.motionNext with
  | none => false
  | some t => decide ((cycleTick - t).toNat < 2147483648)

/-- The condition of each exchange as it is about to begin (R97). -/
def State.exchangeWanted (s : State) (cycleTick : Tick) : Channel → Bool
  | .control => s.dock.state = .identifying || (s.linked && s.dock.cycles % 16 = 15)
  | .output => s.linked && !s.dock.halted && (s.dock.outgoing.isSome || !s.dock.waiting.isEmpty)
  | .keys => s.linked && decide (s.keyCount + 2 ≤ 16)
  | .motion => s.linked && s.dock.motionRunning && s.dock.cadence ≠ 0 && s.motionDue cycleTick

/-- The first waiting message becomes the pending one when there is none (R95). -/
def loadOutgoing (s : State) : State :=
  match s.dock.outgoing, s.dock.waiting.take with
  | none, some (m, w) => { s with dock := { s.dock with outgoing := some m, waiting := w } }
  | _, _ => s

/-- The frame that begins an exchange: a POLL with the expected toggle, or the DATA of the pending message with the send
toggle (R93, R94). -/
def State.openingFrame (s : State) (c : Channel) : List Byte :=
  match c, s.dock.outgoing with
  | .output, some m => outputFrame (s.dock.toggles.get .output) m
  | _, _ => pollFrame c (s.dock.toggles.get c)

/-- An exchange begins: its frame goes out and the reply is awaited. -/
def beginExchange (cycleTick : Tick) (c : Channel) (rest : List Channel) (s : State) : State :=
  let s1 := if c = .output then loadOutgoing s else s
  let s2 := sendFrame (s1.openingFrame c) s1
  { s2 with
    dock :=
      { s2.dock with
        cycle :=
          some { tick := cycleTick, channel := c, rest := rest, afterMark := s2.settleMark .basa, discarded := false } } }

/-- The next exchange of the cycle whose condition holds begins; with none left the cycle ends and is counted (R97). -/
def nextExchange (cycleTick : Tick) (channels : List Channel) (s : State) : State :=
  match channels with
  | [] => { s with dock := { s.dock with cycle := none, cycles := s.dock.cycles + 1 } }
  | c :: rest => if s.exchangeWanted cycleTick c then beginExchange cycleTick c rest s else nextExchange cycleTick rest s

/-- A dock cycle at a tick boundary: due in Run at every one, in Doze at multiples of 8; skipped while an exchange of the
previous cycle is still on the wire (R96). -/
def dockCycle (s : State) : State :=
  if s.linkActive && (s.advisor.power = .run || s.tick.toNat % 8 = 0) && s.dock.cycle.isNone then
    nextExchange s.tick [.control, .output, .keys, .motion] { s with dock := { s.dock with sent := [] } }
  else s

/-- The exchange on the wire ends with a judged reply, and the cycle goes on with the next exchange unless the dock has
left its link. A discarded exchange only leaves the wire (R105). -/
def endExchange (c : Cycle) (j : Judged) (s : State) : State :=
  let s1 := { s with dock := { s.dock with cycle := none, sent := [] } }
  if c.discarded then s1
  else
    let s2 := resolve c j s1
    if s2.linkActive then nextExchange c.tick c.rest s2 else s2

/-! ## The commands -/

/-- DOCK_REPLY (R93, R94). With no exchange on the wire there is nothing to reply to and nothing changes. -/
def execDockReply (frame : List Byte) (s : State) : Host.Outcome State Fault Refusal :=
  finish s (match s.dock.cycle with | none => s | some c => endExchange c (judgeReply c.channel frame) s)

/-- REPLY_TIMEOUT: no reply, a failure (R89). -/
def execReplyTimeout (s : State) : Host.Outcome State Fault Refusal :=
  finish s (match s.dock.cycle with | none => s | some c => endExchange c .failure s)

/-- BYTE_TIMEOUT: a begun reply not finished is a CRC error, a failure (R89). -/
def execByteTimeout (s : State) : Host.Outcome State Fault Refusal :=
  finish s (match s.dock.cycle with | none => s | some c => endExchange c .failure s)

/-- RESET_PULSE_END: the contact is released and the dock enters IDENTIFYING (R100). -/
def execResetPulseEnd (s : State) : Host.Outcome State Fault Refusal :=
  finish s (if s.dock.state = .resetting then enterIdentifying s else s)

/-- IDENTIFY_TIMER_EXPIRY: the attempt has failed (R101). A timer not running or not due does not expire. -/
def execIdentifyTimerExpiry (s : State) : Host.Outcome State Fault Refusal :=
  finish s (if s.due s.dock.identifyTimer && s.dock.state = .identifying then failAttempt s else s)

/-- SETTLE_TIMER_EXPIRY: the dock enters ATTACHED (R103). -/
def execSettleTimerExpiry (s : State) : Host.Outcome State Fault Refusal :=
  finish s (if s.due s.dock.settleTimer && s.dock.state = .settling then enterAttached s else s)

/-- PREPARATION_TIMER_EXPIRY (R111). -/
def execPreparationTimerExpiry (s : State) : Host.Outcome State Fault Refusal :=
  finish s (if s.due s.latch.preparation && s.latch.state = .preparing then openLatch s else s)

/-- RELEASE_WINDOW_EXPIRY: TIMED_OUT (R112). -/
def execReleaseWindowExpiry (s : State) : Host.Outcome State Fault Refusal :=
  finish s (if s.due s.latch.window && s.latch.state = .opened then endRelease .timedOut s else s)

end Sys2Proof.Machine
end

