-- ==== Sys2Proof/Machine/Route.lean ====
section
/-! DEFINITION. The Route Engine (chapter 2): the actions FEED, TEST and FORWARD, a visit, the end of a traversal with the held commit,
and the commands TRAVERSAL_BEGIN and ROUTE_VISIT. -/

namespace Sys2Proof.Machine

def State.routeEntry (s : State) (n : Nat) : RouteEntry := s.route.table.getD n plainRoute

def State.routeRuntime (s : State) (n : Nat) : RouteRuntime :=
  s.route.runtime.getD n { counter := 0, test := .unknown }

def writeRuntime (n : Nat) (r : RouteRuntime) (s : State) : State :=
  { s with route := { s.route with runtime := s.route.runtime.set n r } }

/-! ## FEED (R28 to R30) -/

/-- Value 0 of a sample. -/
def Values.first : Values → Value
  | .one v => v
  | .three x _ _ => x

/-- The level that a level input is given: 0 when the value is 0 (R28). -/
def Sample.level (r : Sample) : Bool := r.values.first != 0

/-- The vector of a three-value sample; validation keeps one-value samples from the angle inputs (R38). -/
def Sample.vector (r : Sample) : Option Vector3 :=
  match r.values with
  | .three x y z => some { x := x, y := y, z := z, timestamp := r.timestamp }
  | .one _ => none

/-- A FEED delivers the record to its target's input. The Angle Engine, the Charge Controller's monitor inputs and the
activity input decline a record marked UNSETTLED; the level inputs take it (R28, R30, R45, R119). -/
def feed (target : Target) (r : Sample) (s : State) : State :=
  match target with
  | .angleBase => if r.unsettled then s else (match r.vector with | some v => feedBase v s | none => s)
  | .angleLid => if r.unsettled then s else (match r.vector with | some v => feedLid v s | none => s)
  | .hallClosed => feedHallClosed r.level s
  | .hallFolded => feedHallFolded r.level s
  | .penPresence => feedPresence r.level s
  | .dockSense => feedSense r.level s
  | .chargeCurrent => if r.unsettled then s else feedCurrent r.values.first r.timestamp s
  | .chargeCell => if r.unsettled then s else feedCell r.values.first s
  | .chargeTemp => if r.unsettled then s else feedTemp r.values.first s
  | .activity => if r.unsettled then s else reportMotion s

/-! ## TEST and WAKE (R31 to R34) -/

/-- The number a TEST compares; none for value 1 or 2 of a one-value sample (R31). -/
def testNumber (select : TestSelect) (values : Values) : Option Int :=
  match select, values with
  | .value0, v => some v.first.toInt
  | .value1, .three _ y _ => some y.toInt
  | .value2, .three _ _ z => some z.toInt
  | .value1, .one _ => none
  | .value2, .one _ => none
  | .mag, .one v => some (min 32767 (absValue v : Int))
  | .mag, .three x y z => some (min 32767 (absValue x + absValue y + absValue z : Nat))

/-- INSIDE when low ≤ v ≤ high, OUTSIDE otherwise (R32). -/
def placeNumber (e : RouteEntry) (v : Int) : TestState :=
  if e.low.toInt ≤ v ∧ v ≤ e.high.toInt then .inside else .outside

/-- Which changes of test state are reported (R32). -/
def testReported (old new : TestState) : Bool := old ≠ new && !(old = .unknown && new = .inside)

/-- The TEST of an entry, with WAKE (R32, R34). That THRESHOLD comes before the report of MOTION is the model's choice
(notes/assumptions/37). -/
def performTest (n : Nat) (e : RouteEntry) (r : Sample) (s : State) : State :=
  match testNumber e.select r.values with
  | none => s
  | some v =>
    let old := (s.routeRuntime n).test
    let new := placeNumber e v
    let s1 := writeRuntime n { s.routeRuntime n with test := new } s
    let s2 := if testReported old new then raise (.threshold [(n, new)]) s1 else s1
    if e.wake ∧ new = .outside ∧ old ≠ .outside ∧ r.unsettled = false then reportMotion s2 else s2

/-! ## FORWARD (R35 to R37) -/

/-- A copy offered to the Sample Queue (R35). -/
def offerSample (n : Nat) (r : Sample) (s : State) : State :=
  if s.sampleCount < 48 then
    clearGap r.source { s with host := { s.host with samples := s.host.samples ++ [forwardCopy n r s] } }
  else setGap r.source s

/-- The FORWARD of an entry, by the platform state of the moment (R35 to R37). -/
def performForward (n : Nat) (e : RouteEntry) (r : Sample) (s : State) : State :=
  if s.advisor.platform.hostUp then offerSample n r s
  else if e.batchAllowed then offerBatch n r s
  else s

/-! ## A visit (R21 to R29) -/

/-- The FEED of an entry in a traversal that has fed the targets given: skipped for a target already fed (R29). -/
def performFeed (e : RouteEntry) (r : Sample) (fed : List Target) (s : State) : State × List Target :=
  match e.feed with
  | none => (s, fed)
  | some t => if t ∈ fed then (s, fed) else (feed t r s, fed ++ [t])

/-- The actions of an entry in the order FEED, TEST, FORWARD (R27). -/
def performActions (n : Nat) (e : RouteEntry) (r : Sample) (fed : List Target) (s : State) : State × List Target :=
  let f := performFeed e r fed s
  let s1 := if e.test then performTest n e r f.1 else f.1
  (if e.forward then performForward n e r s1 else s1, f.2)

/-- The counter an enabled entry of decimation D shows after one more sample (R22). -/
def advancedCounter (d counter : Nat) : Nat := (counter + 1) % d

/-- The work of one visit before the next link is read: on the sample's first visit to an enabled entry the counter
advances, and the entry acts when it comes to 0; nothing else otherwise (R21, R22, R24, R25). -/
def visitEntry (w : Traversal) (s : State) : State × List Target :=
  let e := s.routeEntry w.entry
  if e.enabled ∧ w.entry ∉ w.visited then
    let r := s.routeRuntime w.entry
    let counter := advancedCounter e.decimation r.counter
    let s1 := writeRuntime w.entry { r with counter := counter } s
    if counter = 0 then performActions w.entry e w.record w.fed s1 else (s1, w.fed)
  else (s, w.fed)

/-! ## Commit and end of a traversal (R23, R26, R40, R41) -/

/-- A Route Table commit is applied: the staging copy as read, counters 0, test states UNKNOWN (R39, R40). -/
def applyRoute (s : State) : State :=
  { s with route := { s.route with table := s.staging.route.map readRouteEntry, runtime := runtimeReset } }

/-- A held commit is applied at the end of the traversal (R41). -/
def applyHeld (s : State) : State :=
  if s.route.hold then
    let s1 := applyRoute s
    raise (.tableCommitted [.route]) { s1 with route := { s1.route with hold := false } }
  else s

/-- The traversal that a record begins: its head entry is the entry of the next visit (R23). -/
def startTraversal (r : Sample) : Traversal :=
  { record := r, entry := headEntry r.source, visits := 0, visited := [], fed := [] }

/-- The head record of the FIFO is taken and the engine is WALKING; with the FIFO empty it stays as it is (R23). -/
def takeRecord (s : State) : State :=
  match s.intake.fifo with
  | [] => s
  | r :: rest =>
    { s with
      intake := { s.intake with fifo := rest }
      route := { s.route with walking := some (startTraversal r) } }

/-- A traversal ends: a held commit is applied, and the next traversal begins at once if the FIFO holds a record. Its
visits are steps of their own (notes/assumptions/12). -/
def endTraversal (s : State) : State :=
  takeRecord (applyHeld { s with route := { s.route with walking := none } })

/-- The engine moves on to another entry. -/
def walkOn (w : Traversal) (s : State) : State := { s with route := { s.route with walking := some w } }

/-- One visit of a traversal (R24), with the limit of sixteen (R26). That CHAIN_OVERRUN comes before the TABLE_COMMITTED of a
held commit (R41) is the model's choice (notes/assumptions/36). -/
def visit (w : Traversal) (s : State) : State :=
  let next := (s.routeEntry w.entry).next
  let done := visitEntry w s
  match next with
  | none => endTraversal done.1
  | some n =>
    if w.visits + 1 < 16 then
      walkOn
        { w with entry := n, visits := w.visits + 1, visited := addMember w.visited w.entry, fed := done.2 } done.1
    else endTraversal (raise (.chainOverrun [w.entry]) done.1)

/-- The visit that the traversal in flight comes to; none while IDLE. -/
def visitNext (s : State) : State :=
  match s.route.walking with
  | none => s
  | some w => visit w s

/-- An IDLE engine with no commit held takes the head record and visits the head entry of its source (R23). -/
def beginTraversal (s : State) : State :=
  if s.route.walking = none ∧ s.route.hold = false then visitNext (takeRecord s) else s

/-! ## The commands -/

/-- TRAVERSAL_BEGIN (R23). WALKING, under a hold or with the FIFO empty it cannot occur and changes nothing. -/
def execTraversalBegin (s : State) : Host.Outcome State Fault Refusal := finish s (beginTraversal s)

/-- ROUTE_VISIT (R24). While IDLE there is no traversal and nothing changes. -/
def execRouteVisit (s : State) : Host.Outcome State Fault Refusal := finish s (visitNext s)

end Sys2Proof.Machine
end

