-- ==== Sys2Proof/Machine/Tables.lean ====
section
/-! DEFINITION. TABLE_WRITE, TABLE_READ and TABLE_COMMIT as the owners of the seven tables take them (R171 to R175 and the chapters of
the tables). Each gives the state after it and the body of its response. -/

namespace Sys2Proof.Machine

/-! ## Copies as lists of entries (R174) -/

/-- The active copy of a table as TABLE_READ shows it: as its owner uses it (R172, R178). -/
def State.activeCopy (s : State) : TableId → List RawEntry
  | .route => s.route.table.map routeEntryBytes
  | .poll => (pollEntries s.poll.table).map cadenceBytes
  | .posture => s.posture.table.map postureRowBytes
  | .orient => (orientEntries s.orient.table).map allowedSetBytes
  | .curve => s.pen.curve.map breakpointBytes
  | .policy => s.advisor.table.map policyRowBytes
  | .param => s.params.map paramBytes

def State.tableCopy (s : State) (table : TableId) : Copy → List RawEntry
  | .active => s.activeCopy table
  | .staging => s.staging.get table

/-- The bytes of a TABLE_WRITE cut into entries. -/
def cutEntries (size count : Nat) (bytes : List Byte) : List RawEntry :=
  match count with
  | 0 => []
  | n + 1 => bytes.take size :: cutEntries size n (bytes.drop size)

/-- Entries written over a copy from an index onward. -/
def overwrite (old : List RawEntry) (first : Nat) (new : List RawEntry) : List RawEntry :=
  old.take first ++ new ++ old.drop (first + new.length)

/-- The range of a read or a write lies in its table: count is not 0 and first plus count is within the capacity. -/
def rangeFits (table : TableId) (first count : Byte) : Bool :=
  count != 0 && decide (first.toNat + count.toNat ≤ table.capacity)

/-! ## TABLE_WRITE and TABLE_READ (R171, R172) -/

/-- TABLE_WRITE with the length check of R170 and the checks of R171. -/
def writeTable (table : TableId) (first count : Byte) (entries : List Byte) (s : State) : State × ResponseBody :=
  if entries.length ≠ count.toNat * table.entrySize then (s, .refused .badLength)
  else if rangeFits table first count = false then (s, .refused .badIndex)
  else if table = .route ∧ s.route.hold = true then (s, .refused .busy)
  else
    ({ s with
       staging := s.staging.set table
         (overwrite (s.staging.get table) first.toNat (cutEntries table.entrySize count.toNat entries)) },
      .ack)

/-- TABLE_READ: at most 249 bytes of entries fit one response. -/
def readTable (table : TableId) (copy : Copy) (first count : Byte) (s : State) : ResponseBody :=
  if rangeFits table first count = false ∨ 249 < count.toNat * table.entrySize then .refused .badIndex
  else
    .tableData table copy first count
      (((s.tableCopy table copy).drop first.toNat).take count.toNat).flatten

/-! ## TABLE_COMMIT of the Route Table (R38 to R42) -/

/-- The first pass on one entry: a next outside 11..47 that is not none, and then a low bound above the high one
(notes/assumptions/17). -/
def linkFault (e : RawEntry) : Option BadTableReason :=
  let next := (byteAt e 8).toNat
  if next ≠ 255 ∧ (next < 11 ∨ 47 < next) then some .badNext
  else if (valueAt e 6).toInt < (valueAt e 4).toInt then some .badBounds
  else none

/-- The first entry from an index onward that a check finds failing. -/
def firstFault (check : RawEntry → Option BadTableReason) (index : Nat) (entries : List RawEntry) :
    Option (Nat × BadTableReason) :=
  match entries with
  | [] => none
  | e :: rest =>
    match check e with
    | some why => some (index, why)
    | none => firstFault check (index + 1) rest

/-- The entries a traversal visits from an entry, at most as many as given. -/
def chainFrom (table : List RouteEntry) (visits entry : Nat) : List Nat :=
  match visits with
  | 0 => []
  | k + 1 =>
    entry ::
      (match (table.getD entry plainRoute).next with
       | none => []
       | some n => chainFrom table k n)

/-- The value count of a FEED target; ACTIVITY takes any (section 2.3). -/
def Target.fits (t : Target) (values : Nat) : Bool :=
  match t with
  | .angleBase | .angleLid => values = 3
  | .hallClosed | .hallFolded | .penPresence | .dockSense | .chargeCurrent | .chargeCell | .chargeTemp => values = 1
  | .activity => true

/-- Whether an entry of the table as read does not fit samples of a value count: disabled entries are not examined. -/
def misfit (table : List RouteEntry) (values entry : Nat) : Bool :=
  let e := table.getD entry plainRoute
  e.enabled && (match e.feed with | none => false | some t => !t.fits values)

/-- The entries that the second pass finds failing, over the walks from the eleven heads. -/
def misfits (table : List RouteEntry) : List Nat :=
  allSources.flatMap (fun src => (chainFrom table 16 (headEntry src)).filter (misfit table (valueCount src)))

/-- The validation of a Route Table staging copy (R38). -/
def routeFault (staging : List RawEntry) : Option (Nat × BadTableReason) :=
  match firstFault linkFault 0 staging with
  | some f => some f
  | none => (misfits (staging.map readRouteEntry)).min?.map (fun n => (n, .badFit))

/-- How many entries a check finds adjusted. -/
def countAdjusted (adjusted : RawEntry → Bool) (entries : List RawEntry) : Nat := (entries.filter adjusted).length

/-- A Route Table commit: applied while IDLE, held while WALKING, BUSY under a hold (R38 to R42). -/
def commitRoute (s : State) : State × ResponseBody :=
  if s.route.hold then (s, .refused .busy)
  else
    match routeFault s.staging.route with
    | some (index, why) => (s, .badTable index why)
    | none =>
      let clamped := countAdjusted routeEntryClamped s.staging.route
      match s.route.walking with
      | none => (applyRoute s, .committed false clamped)
      | some _ => ({ s with route := { s.route with hold := true } }, .committed true clamped)

/-! ## TABLE_COMMIT of the other tables -/

/-- The Poll Table that a staging copy is read as (R4). -/
def readPollTable (staging : List RawEntry) : PerPolled Cadence :=
  let at_ (i : Nat) : Cadence := readCadence (staging.getD i [])
  { lida := at_ 0, lidg := at_ 1, als := at_ 2, coil := at_ 3, pcel := at_ 4, ctmp := at_ 5, basa := at_ 6 }

/-- A Poll Table commit (R4). -/
def commitPoll (s : State) : State × ResponseBody :=
  (recomputeCadences { s with poll := { s.poll with table := readPollTable s.staging.poll } },
    .committed false (countAdjusted cadenceClamped s.staging.poll))

/-- A Posture Table commit: refused when no row is enabled (R75). -/
def commitPosture (s : State) : State × ResponseBody :=
  let table := s.staging.posture.map readPostureRow
  if table.any (fun r => r.enabled) then
    (applyPostureTable table s, .committed false (countAdjusted postureRowClamped s.staging.posture))
  else (s, .badTable 0 .noRow)

/-- The Orientation Table that a staging copy is read as (R83). -/
def readOrientTable (staging : List RawEntry) : PerPosture AllowedSet :=
  let at_ (i : Nat) : AllowedSet := readAllowedSet (staging.getD i [])
  { unknown := at_ 0, closed := at_ 1, laptop := at_ 2, flat := at_ 3, stand := at_ 4, tent := at_ 5, tablet := at_ 6,
    slate := at_ 7 }

/-- An Orientation Table commit (R83). -/
def commitOrient (s : State) : State × ResponseBody :=
  (applyOrientTable (readOrientTable s.staging.orient) s, .committed false 0)

/-- The first breakpoint, from the one after the entry given, whose voltage is not above the voltage before it. -/
def curveFault (index : Nat) (before : RawEntry) (rest : List RawEntry) : Option Nat :=
  match rest with
  | [] => none
  | e :: more => if wordAt e 0 ≤ wordAt before 0 then some index else curveFault (index + 1) e more

/-- A Charge Curve commit: refused when the voltages do not ascend (R133). -/
def commitCurve (s : State) : State × ResponseBody :=
  match curveFault 1 (s.staging.curve.headD []) (s.staging.curve.drop 1) with
  | some n => (s, .badTable n .notAscending)
  | none =>
    ({ s with pen := { s.pen with curve := s.staging.curve.map readBreakpoint } },
      .committed false (countAdjusted breakpointClamped s.staging.curve))

/-- Every SLEEP row is armed but for the advising row, which there is in ADVISED (R149, step 2). -/
def armRows (s : State) : State :=
  { s with
    advisor :=
      { s.advisor with armed := rowNumbers8.map (fun n => decide (s.advisor.advising ≠ some n)) } }

/-- The Sleep Policy Table is applied: rows armed, then a sleep evaluation in AWAKE or a re-test in ADVISED (R149). -/
def applyPolicy (table : List PolicyRow) (s : State) : State :=
  let s1 := armRows { s with advisor := { s.advisor with table := table } }
  match s1.advisor.platform with
  | .awake => sleepEvaluate s1
  | .advised => retestAdvice s1
  | .asleep | .waking => s1

/-- A Sleep Policy Table commit (R149). -/
def commitPolicy (s : State) : State × ResponseBody :=
  (applyPolicy (s.staging.policy.map readPolicyRow) s,
    .committed false (countAdjusted policyRowClamped s.staging.policy))

/-- The Parameter Table that a staging copy is read as: each value within its range (R175). -/
def readParams (staging : List RawEntry) : List Nat :=
  List.zipWith (fun r e => clampParam r.1 r.2.1 (wordAt e 0)) paramRanges staging

/-- How many parameters a commit clamps (R175). -/
def paramsClamped (staging : List RawEntry) : Nat :=
  ((List.zip paramRanges staging).filter
    (fun p => clampParam p.1.1 p.1.2.1 (wordAt p.2 0) != wordAt p.2 0)).length

/-- The LATCH request under the parameters in force: Latch Draw while a release is in progress (R138). -/
def State.latchRequest (s : State) : Nat :=
  if s.latch.state = .locked then s.supply.requests.latch else s.param .latchDraw

/-- The Parameter Table is applied: one allocation for a changed LATCH request or budget in force (R137, R138), and the
SLEEP gate re-read on a change of Charge In Sleep (R134). R175 lets either owner act first when one commit changes both;
that the allocation comes first is the model's choice (notes/assumptions/33). -/
def applyParams (params : List Nat) (s : State) : State :=
  let s1 := { s with params := params }
  let s2 := renewBudget { s1.supply.requests with latch := s1.latchRequest } s1
  if s2.param .chargeInSleep = s.param .chargeInSleep then s2 else rereadGates s2

/-- A Parameter Table commit (R175). -/
def commitParams (s : State) : State × ResponseBody :=
  (applyParams (readParams s.staging.param) s, .committed false (paramsClamped s.staging.param))

/-- TABLE_COMMIT: the staging copy is handed to the table's owner (R173). -/
def commitTable (table : TableId) (s : State) : State × ResponseBody :=
  match table with
  | .route => commitRoute s
  | .poll => commitPoll s
  | .posture => commitPosture s
  | .orient => commitOrient s
  | .curve => commitCurve s
  | .policy => commitPolicy s
  | .param => commitParams s

end Sys2Proof.Machine
end

