-- ==== Sys2Proof/Machine/HostLink.lean ====
section
/-! DEFINITION. The Host Link (chapter 10): the upstream selection, delivery and return, the Response Slot, the thirteen host commands,
and CHIP_SELECT_FALL and CHIP_SELECT_RISE. -/

namespace Sys2Proof.Machine

/-! ## Upstream selection (R165, R166) -/

/-- As many whole items from the head as fit a space, and the rest. -/
def packItems {α : Type} (size : α → Nat) (space : Nat) (items : List α) : List α × List α :=
  match items with
  | [] => ([], [])
  | x :: rest =>
    if size x ≤ space then
      let p := packItems size (space - size x) rest
      (x :: p.1, p.2)
    else ([], x :: rest)

/-- The payload of an upstream frame is at most 256 bytes (R163). -/
def payloadSpace : Nat := 256

def takeEvents (s : State) : List Event × List Event :=
  packItems (fun e : Event => e.bytes.length) payloadSpace s.host.events

def takeKeyReports (s : State) : List KeyReport × List KeyReport :=
  packItems (fun k : KeyReport => (keyReportBytes k).length) payloadSpace s.dock.keys

def takeSamples (s : State) : List Forwarded × List Forwarded :=
  packItems (fun r : Forwarded => (forwardedBytes r).length) payloadSpace s.host.samples

/-- The records of a BATCH frame; the bank and its flags take two bytes. -/
def takeBatch (b : Bank) : List Forwarded × List Forwarded :=
  packItems (fun r : Forwarded => (forwardedBytes r).length) (payloadSpace - 2) b.records

/-- A bank of a role with records to deliver. -/
def BatchBlock.holding (b : BatchBlock) (role : BankRole) (i : BankId) : Bool :=
  (b.bank i).role = role && !(b.bank i).records.isEmpty

/-- The bank a BATCH frame is taken from: the DRAIN bank, or else the older READY bank (R159, R165). -/
def BatchBlock.selected (b : BatchBlock) : Option BankId :=
  match [BankId.a, BankId.b].find? (b.holding .drain) with
  | some i => some i
  | none => b.order.find? (b.holding .ready)

/-- The BATCH frame of a bank: its records at the head go in flight, and it is DRAIN (R159). -/
def selectBatch (i : BankId) (s : State) : Upstream × State :=
  let b := s.batch.bank i
  let p := takeBatch b
  (.batch i b.gapBefore b.gapAfter p.1, writeBank i { b with role := .drain, records := p.2 } s)

/-- The frame chosen at a fall of chip select, and the state with its content in flight (R165). -/
def selectUpstream (s : State) : Upstream × State :=
  match s.host.slot with
  | some r => (.response r, s)
  | none =>
    if s.host.events ≠ [] then
      (.events (takeEvents s).1, { s with host := { s.host with events := (takeEvents s).2 } })
    else if s.dock.keys ≠ [] then
      (.keys (takeKeyReports s).1, { s with dock := { s.dock with keys := (takeKeyReports s).2 } })
    else if s.host.samples ≠ [] then
      (.samples (takeSamples s).1, { s with host := { s.host with samples := (takeSamples s).2 } })
    else if s.advisor.platform.hostUp then
      match s.batch.selected with
      | some i => selectBatch i s
      | none => (.idle, s)
    else (.idle, s)

/-- A transaction begins with the frame selected and the header flags of what is left (R166). -/
def beginTransaction (s : State) : State :=
  let u := selectUpstream s
  let h := u.2.holdings
  { u.2 with
    host :=
      { u.2.host with
        transaction :=
          some { frame := u.1, flagEvents := h.events, flagKeys := h.keys, flagSamples := h.samples, flagBatch := h.batch } } }

/-! ## Delivery and return (R164, R167, R168) -/

def endTransaction (s : State) : State := { s with host := { s.host with transaction := none } }

/-- A complete transaction removes its content: the slot is emptied, a bank whose last record went becomes FREE. -/
def deliver (t : Transaction) (s : State) : State :=
  let s1 := endTransaction s
  match t.frame with
  | .response _ => { s1 with host := { s1.host with slot := none } }
  | .batch i _ _ _ => if (s1.batch.bank i).records.isEmpty then freeBank i s1 else s1
  | .idle | .events _ | .keys _ | .samples _ => s1

/-- An incomplete transaction returns its content. -/
def giveBack (t : Transaction) (s : State) : State :=
  let s1 := endTransaction s
  match t.frame with
  | .events content => { s1 with host := { s1.host with events := returnEvents content s1.host.events } }
  | .keys content => { s1 with dock := { s1.dock with keys := content ++ s1.dock.keys } }
  | .samples content => { s1 with host := { s1.host with samples := content ++ s1.host.samples } }
  | .batch i _ _ content => writeBank i { s1.batch.bank i with records := content ++ (s1.batch.bank i).records } s1
  | .idle | .response _ => s1

/-- The delivery of the transaction that carried a command; a command given with no transaction begun has none to make
(notes/assumptions/14). -/
def deliverAny (s : State) : State :=
  match s.host.transaction with
  | none => s
  | some t => deliver t s

/-! ## Responses (R170) -/

/-- A response is placed in the Response Slot. -/
def respond (tag kind : Byte) (body : ResponseBody) (s : State) : State :=
  { s with host := { s.host with slot := some { tag := tag, kind := kind, body := body } } }

/-! ## READ_STATE (R176) -/

/-- The snapshot of the moment. -/
def State.snapshot (s : State) : Snapshot :=
  { tick := s.tick
    h := s.angle.h, hf := s.hf, o := s.angle.o, unresolved := s.angle.unresolved, flat := s.angle.flat
    attitude := s.angle.attitude
    posture := s.posture.posture, candidate := s.posture.candidate.map s.rowPosture
    orientation := s.orient.current, locked := s.orient.locked
    pen := s.pen.state, duty := s.pen.duty, target := s.pen.target
    current := (match s.pen.current with | none => 0 | some i => i.value)
    dock := s.dock.state, latch := s.latch.state
    grants := s.supply.grants, budget := s.supply.budget
    platform := s.advisor.platform, power := s.advisor.power
    fifo := s.intake.fifo.length, keys := s.keyCount, samples := s.sampleCount, events := s.host.events.length
    roleA := s.batch.bankA.role, countA := s.batch.bankA.records.length
    roleB := s.batch.bankB.role, countB := s.batch.bankB.records.length }

/-! ## SET_PLATFORM_STATE (R146) -/

def setForcing (on : Bool) (s : State) : State := { s with advisor := { s.advisor with forcing := on } }

/-- The platform state changes; no advice stands and both timers are stopped. -/
def movePlatform (dest : Platform) (s : State) : State :=
  { s with
    advisor := { s.advisor with platform := dest, advising := none, adviceTimer := none, idleTimer := none } }

/-- A change of platform state is handed to the Supply Budget and the SLEEP gate (R120, R137). -/
def handPlatform (s : State) : State := rereadGates (renewBudget s.supply.requests s)

/-- The platform goes to sleep (R146, R160, R161). -/
def goToSleep (s : State) : State := repower (sleepBanks (handPlatform (movePlatform .asleep s)))

/-- The host is AWAKE (R146, R159, R161), and a sleep evaluation follows (R150). -/
def comeAwake (s : State) : State := sleepEvaluate (repower (wakeBanks (handPlatform (movePlatform .awake s))))

/-- SET_PLATFORM_STATE: the forcing is set or cleared in every case, the platform moves if it is not there already. -/
def setPlatform (dest : HostState) (s : State) : State :=
  match dest with
  | .sleeping =>
    let s1 := setForcing true s
    if s1.advisor.platform = .asleep then s1 else goToSleep s1
  | .awake =>
    let s1 := setForcing false s
    if s1.advisor.platform = .awake then s1 else comeAwake s1

/-! ## The host commands, taken after the delivery of their transaction -/

def takeNop (tag : Byte) (s : State) : State := respond tag 1 .ack s

def takeTableWrite (tag : Byte) (table : TableId) (first count : Byte) (entries : List Byte) (s : State) : State :=
  let r := writeTable table first count entries s
  respond tag 2 r.2 r.1

def takeTableRead (tag : Byte) (table : TableId) (copy : Copy) (first count : Byte) (s : State) : State :=
  respond tag 3 (readTable table copy first count s) s

def takeTableCommit (tag : Byte) (table : TableId) (s : State) : State :=
  let r := commitTable table s
  respond tag 4 r.2 r.1

def takeReadState (tag : Byte) (s : State) : State := respond tag 5 (.state s.snapshot) s

def takeRotationLock (tag : Byte) (on : Bool) (s : State) : State := respond tag 6 .ack (lockRotation on s)

def takeChargeInhibit (tag : Byte) (on : Bool) (s : State) : State := respond tag 7 .ack (inhibitCharge on s)

def takeClearFault (tag : Byte) (s : State) : State := respond tag 8 .ack (clearFaultOf s)

def takeDetach (tag : Byte) (s : State) : State :=
  match requestRelease s with
  | .ok s1 => respond tag 9 .ack s1
  | .error code => respond tag 9 (.refused code) s

def takeDetachCancel (tag : Byte) (s : State) : State := respond tag 10 .ack (endReleaseIfAny .cancelled s)

def takeDockOutput (tag : Byte) (backlight indicators : Byte) (s : State) : State :=
  if s.dock.state = .attached then respond tag 11 .ack (queueMessage (.lights backlight indicators) s)
  else respond tag 11 (.refused .badState) s

def takeSetPlatformState (tag : Byte) (dest : HostState) (s : State) : State := respond tag 12 .ack (setPlatform dest s)

/-- RESET_PART gives no response (R177). -/
def takeResetPart (s : State) : State := softReset s

/-- A decoded host command is handed to its owner (R170). -/
def takeCommand (c : HostCommand) (s : State) : State :=
  match c with
  | .nop tag => takeNop tag s
  | .tableWrite tag table first count entries => takeTableWrite tag table first count entries s
  | .tableRead tag table copy first count => takeTableRead tag table copy first count s
  | .tableCommit tag table => takeTableCommit tag table s
  | .readState tag => takeReadState tag s
  | .rotationLock tag on => takeRotationLock tag on s
  | .chargeInhibit tag on => takeChargeInhibit tag on s
  | .clearFault tag => takeClearFault tag s
  | .detach tag => takeDetach tag s
  | .detachCancel tag => takeDetachCancel tag s
  | .dockOutput tag backlight indicators => takeDockOutput tag backlight indicators s
  | .setPlatformState tag dest => takeSetPlatformState tag dest s
  | .resetPart _ => takeResetPart s

/-! ## The rise of chip select (R163, R164) -/

/-- The payload length that a header's length byte stands for: 0 for 256. -/
def payloadLength (length : Byte) : Nat := if length = 0 then 256 else length.toNat

/-- The downstream frame is done: its header and its payload have been clocked in; an IDLE frame is its header alone. -/
def downstreamDone (clocked : List Byte) : Bool :=
  decide (3 ≤ clocked.length)
    && (byteAt clocked 0 = 0 || decide (3 + payloadLength (byteAt clocked 1) ≤ clocked.length))

/-- The upstream frame is done: its header and its payload have been clocked out. -/
def Transaction.done (t : Transaction) (clocked : List Byte) : Bool := decide (t.bytes.length ≤ clocked.length)

/-- The refusal a frame check gives (R170). -/
def frameRefusal : FrameError → RefusalCode
  | .unknownKind => .unknownKind | .badIndex => .badIndex | .badLength => .badLength

/-- The downstream frame of a complete transaction is taken: IDLE is no command, a frame that fails a check is answered
with the refusal, any other is handed to its owner (R164, R170). -/
def takeFrame (clocked : List Byte) (s : State) : State :=
  let kind := byteAt clocked 0
  let payload := (clocked.drop 3).take (payloadLength (byteAt clocked 1))
  if kind = 0 then s
  else
    match decodeFrame kind payload with
    | .ok c => takeCommand c s
    | .error e => respond (payload.getD 0 0) kind (.refused (frameRefusal e)) s

/-- The transaction in progress ends (R164). -/
def riseSelect (t : Transaction) (clocked : List Byte) (s : State) : State :=
  if t.done clocked && downstreamDone clocked then takeFrame clocked (deliver t s) else giveBack t s

/-! ## The commands -/

/-- CHIP_SELECT_FALL (R165). With chip select low already it cannot fall and nothing changes. -/
def execChipSelectFall (s : State) : Host.Outcome State Fault Refusal :=
  finish s (match s.host.transaction with | none => beginTransaction s | some _ => s)

/-- CHIP_SELECT_RISE (R164). With chip select high already it cannot rise and nothing changes. -/
def execChipSelectRise (clocked : List Byte) (s : State) : Host.Outcome State Fault Refusal :=
  finish s (match s.host.transaction with | none => s | some t => riseSelect t clocked s)

/-- NOP, at the end of the transaction that carried it. -/
def execNop (tag : Byte) (s : State) : Host.Outcome State Fault Refusal := finish s (takeNop tag (deliverAny s))

/-- TABLE_WRITE (R171). -/
def execTableWrite (tag : Byte) (table : TableId) (first count : Byte) (entries : List Byte) (s : State) :
    Host.Outcome State Fault Refusal :=
  finish s (takeTableWrite tag table first count entries (deliverAny s))

/-- TABLE_READ (R172). -/
def execTableRead (tag : Byte) (table : TableId) (copy : Copy) (first count : Byte) (s : State) :
    Host.Outcome State Fault Refusal :=
  finish s (takeTableRead tag table copy first count (deliverAny s))

/-- TABLE_COMMIT (R173). -/
def execTableCommit (tag : Byte) (table : TableId) (s : State) : Host.Outcome State Fault Refusal :=
  finish s (takeTableCommit tag table (deliverAny s))

/-- READ_STATE (R176). -/
def execReadState (tag : Byte) (s : State) : Host.Outcome State Fault Refusal :=
  finish s (takeReadState tag (deliverAny s))

/-- ROTATION_LOCK (R86). -/
def execRotationLock (tag : Byte) (on : Bool) (s : State) : Host.Outcome State Fault Refusal :=
  finish s (takeRotationLock tag on (deliverAny s))

/-- CHARGE_INHIBIT (R120). -/
def execChargeInhibit (tag : Byte) (on : Bool) (s : State) : Host.Outcome State Fault Refusal :=
  finish s (takeChargeInhibit tag on (deliverAny s))

/-- CLEAR_FAULT (R130). -/
def execClearFault (tag : Byte) (s : State) : Host.Outcome State Fault Refusal :=
  finish s (takeClearFault tag (deliverAny s))

/-- DETACH (R110). -/
def execDetach (tag : Byte) (s : State) : Host.Outcome State Fault Refusal := finish s (takeDetach tag (deliverAny s))

/-- DETACH_CANCEL (R112). -/
def execDetachCancel (tag : Byte) (s : State) : Host.Outcome State Fault Refusal :=
  finish s (takeDetachCancel tag (deliverAny s))

/-- DOCK_OUTPUT (R92). -/
def execDockOutput (tag backlight indicators : Byte) (s : State) : Host.Outcome State Fault Refusal :=
  finish s (takeDockOutput tag backlight indicators (deliverAny s))

/-- SET_PLATFORM_STATE (R146). -/
def execSetPlatformState (tag : Byte) (dest : HostState) (s : State) : Host.Outcome State Fault Refusal :=
  finish s (takeSetPlatformState tag dest (deliverAny s))

/-- RESET_PART (R177): no response, so its tag is not used. -/
def execResetPart (_tag : Byte) (s : State) : Host.Outcome State Fault Refusal := finish s (takeResetPart (deliverAny s))

end Sys2Proof.Machine
end

