-- ==== Sys2Proof/Machine/Tick.lean ====
section
/-! DEFINITION. TICK, one boundary of the Timebase (R1): the lines (R15, R16), the polls that come due (R5, R7, R9, R10), the arrival of
what is born at the boundary (R2, R17), the dock cycle (R96) and the control period (R121). -/

namespace Sys2Proof.Machine

/-! ## The Line Monitor (R15, R16) -/

/-- The pending level after a level that differs from the debounced one is observed: the one being timed, or a new one
with the hold time in force. -/
def pendingAfter (hold : Nat) (level : Bool) (t : Tick) (pending : Option PendingLevel) : PendingLevel :=
  match pending with
  | none => { level := level, start := t, hold := hold }
  | some p => if p.level = level then p else { level := level, start := t, hold := hold }

/-- One line observed at a boundary: its state after it, and the level that became the debounced one. -/
def observeLine (hold : Nat) (level : Bool) (t : Tick) (l : LineState) : LineState × Option Bool :=
  if l.debounced = some level then ({ l with pending := none }, none)
  else
    let p := pendingAfter hold level t l.pending
    if p.hold ≤ (t - p.start).toNat then ({ debounced := some level, pending := none }, some level)
    else ({ l with pending := some p }, none)

/-- The hold parameter of each line (section 1.6). -/
def Line.hold : Line → Param
  | .halc | .half => .hallHold
  | .penp => .presenceHold
  | .dsns => .dockSenseHold

/-- The level a TICK brings for a line. -/
def levelOf (levels : LineLevels) : Line → Bool
  | .halc => levels.halc | .half => levels.half | .penp => levels.penp | .dsns => levels.dsns

/-- What observing one line gives at the boundary just taken. -/
def State.observed (s : State) (levels : LineLevels) (l : Line) : LineState × Option Bool :=
  observeLine (s.param l.hold) (levelOf levels l) s.tick (s.lines.get l)

/-- The four lines observed. -/
def observeLines (levels : LineLevels) (s : State) : State :=
  { s with
    lines :=
      { halc := (s.observed levels .halc).1, half := (s.observed levels .half).1, penp := (s.observed levels .penp).1
        dsns := (s.observed levels .dsns).1 } }

/-! ## The samples born at a boundary -/

/-- A converter read that comes due; PCEL is read only while the pen is CHARGING (R7). -/
def State.converterRead (s : State) (p : Polled) (value : Value) : Option Values :=
  if s.pollDue p && (p ≠ .pcel || s.pen.state = .charging) then some (.one value) else none

/-- The sample a line sends when a level takes effect. -/
def State.lineSample (s : State) (levels : LineLevels) (l : Line) : Option Values :=
  (s.observed levels l).2.map (fun level => .one (levelValue level))

/-- The values of the sample that a source brings forth at the boundary, in the state before the lines are observed. The
Sensor Bus sources and BASA bring forth none: theirs come with a poll or an exchange. -/
def State.born (s : State) (levels : LineLevels) (readings : ConverterReadings) : Source → Option Values
  | .halc => s.lineSample levels .halc
  | .half => s.lineSample levels .half
  | .penp => s.lineSample levels .penp
  | .dsns => s.lineSample levels .dsns
  | .coil => s.converterRead .coil (coilValue readings.coil)
  | .pcel => s.converterRead .pcel (cellValue readings.pcel)
  | .ctmp => s.converterRead .ctmp (tempValue readings.ctmp)
  | .lida | .lidg | .basa | .als => none

/-- The order of arrival: as the command gives it, each source once, then the sources it does not name in source-number
order. -/
def arrivalOrder (arrival : List Source) : List Source := addMembers (addMembers [] arrival) allSources

/-- The place of a source in the order of arrival: its sample born at the boundary, or, for a source of another port that
the command names, the place kept for its sample. A converter read came due now, after any settle mark standing (R6). -/
def comingPlace (arrival : List Source) (born : Source → Option Values) (src : Source) : Option Coming :=
  match born src with
  | some v => some { source := src, values := some v, afterMark := true }
  | none =>
    match src with
    | .lida | .lidg | .als | .basa =>
      if src ∈ arrival then some { source := src, values := none, afterMark := false } else none
    | .halc | .half | .coil | .pcel | .ctmp | .penp | .dsns => none

/-- The samples born at the boundary take their places, and those whose turn has come arrive (R2, notes/assumptions/13). -/
def bringForth (arrival : List Source) (born : Source → Option Values) (s : State) : State :=
  landReady (writeComing ((arrivalOrder arrival).filterMap (comingPlace arrival born)) s)

/-- The schedules of the sources that are not on the Sensor Bus move on (R5, R7, R8). -/
def advanceSchedules (s : State) : State :=
  advanceSchedule .basa (advanceSchedule .ctmp (advanceSchedule .pcel (advanceSchedule .coil s)))

/-! ## The boundary -/

/-- The count advances by one (R1). -/
def countTick (s : State) : State := { s with tick := s.tick + 1 }

/-- The sample ports at a boundary: lines, Sensor Bus polls, converter reads, arrivals. -/
def samplePorts (levels : LineLevels) (readings : ConverterReadings) (arrival : List Source) (s : State) : State :=
  bringForth arrival (s.born levels readings) (advanceSchedules (issueBusPolls (observeLines levels s)))

/-- A control period falls at every multiple of 16 while the pen is CHARGING (R121). -/
def duePeriod (s : State) : State :=
  if s.pen.state = .charging ∧ s.tick.toNat % 16 = 0 then controlPeriod s else s

/-- TICK (R1). What the last tick's ports had under way has arrived before the count advances (R7). The order of the parts
of one boundary is the model's (notes/assumptions/11). -/
def execTick (levels : LineLevels) (readings : ConverterReadings) (arrival : List Source) (s : State) :
    Host.Outcome State Fault Refusal :=
  finish s (duePeriod (dockCycle (samplePorts levels readings arrival (countTick (landRest s)))))

end Sys2Proof.Machine
end

