-- ==== Sys2Proof/Machine/Dispatch.lean ====
section
/-! DEFINITION. One arm for each command: a direct call of its meaning. -/

namespace Sys2Proof.Machine

/-- The effect of a command on everything but the queue of waiting commands. -/
def exec (i : Instr) (s : State) : Host.Outcome State Fault Refusal :=
  match i with
  | .powerOnReset => Sys2Proof.Machine.execPowerOnReset s
  | .resetPart tag => Sys2Proof.Machine.execResetPart tag s
  | .tick lines readings arrival => Sys2Proof.Machine.execTick lines readings arrival s
  | .busPollStart => Sys2Proof.Machine.execBusPollStart s
  | .pollSuccess reading => Sys2Proof.Machine.execPollSuccess reading s
  | .noAcknowledge => Sys2Proof.Machine.execNoAcknowledge s
  | .busTimeout => Sys2Proof.Machine.execBusTimeout s
  | .traversalBegin => Sys2Proof.Machine.execTraversalBegin s
  | .routeVisit => Sys2Proof.Machine.execRouteVisit s
  | .vectorAgeDiscard => Sys2Proof.Machine.execVectorAgeDiscard s
  | .postureDwellExpiry => Sys2Proof.Machine.execPostureDwellExpiry s
  | .rotationDwellExpiry => Sys2Proof.Machine.execRotationDwellExpiry s
  | .dockReply frame => Sys2Proof.Machine.execDockReply frame s
  | .replyTimeout => Sys2Proof.Machine.execReplyTimeout s
  | .byteTimeout => Sys2Proof.Machine.execByteTimeout s
  | .resetPulseEnd => Sys2Proof.Machine.execResetPulseEnd s
  | .identifyTimerExpiry => Sys2Proof.Machine.execIdentifyTimerExpiry s
  | .settleTimerExpiry => Sys2Proof.Machine.execSettleTimerExpiry s
  | .preparationTimerExpiry => Sys2Proof.Machine.execPreparationTimerExpiry s
  | .releaseWindowExpiry => Sys2Proof.Machine.execReleaseWindowExpiry s
  | .retryWaitExpiry => Sys2Proof.Machine.execRetryWaitExpiry s
  | .restTimerExpiry => Sys2Proof.Machine.execRestTimerExpiry s
  | .goodRunTimerExpiry => Sys2Proof.Machine.execGoodRunTimerExpiry s
  | .inactivityTimerExpiry => Sys2Proof.Machine.execInactivityTimerExpiry s
  | .adviceTimerExpiry => Sys2Proof.Machine.execAdviceTimerExpiry s
  | .attnPulseEnd => Sys2Proof.Machine.execAttnPulseEnd s
  | .chipSelectFall => Sys2Proof.Machine.execChipSelectFall s
  | .chipSelectRise clocked => Sys2Proof.Machine.execChipSelectRise clocked s
  | .nop tag => Sys2Proof.Machine.execNop tag s
  | .tableWrite tag table first count entries => Sys2Proof.Machine.execTableWrite tag table first count entries s
  | .tableRead tag table copy first count => Sys2Proof.Machine.execTableRead tag table copy first count s
  | .tableCommit tag table => Sys2Proof.Machine.execTableCommit tag table s
  | .readState tag => Sys2Proof.Machine.execReadState tag s
  | .rotationLock tag on => Sys2Proof.Machine.execRotationLock tag on s
  | .chargeInhibit tag on => Sys2Proof.Machine.execChargeInhibit tag on s
  | .clearFault tag => Sys2Proof.Machine.execClearFault tag s
  | .detach tag => Sys2Proof.Machine.execDetach tag s
  | .detachCancel tag => Sys2Proof.Machine.execDetachCancel tag s
  | .dockOutput tag backlight indicators => Sys2Proof.Machine.execDockOutput tag backlight indicators s
  | .setPlatformState tag dest => Sys2Proof.Machine.execSetPlatformState tag dest s

end Sys2Proof.Machine
end

