-- ==== Sys2Proof/Safety.lean ====
section
/-! DEFINITION. What counts as a safe run: the bounds, the exclusions and the agreements between blocks that the manual promises of
every state, each as a predicate of the state, and the shape of a state in which the attention line only ages. -/

namespace Sys2Proof.Machine

/-- The state with the attention line as it stands when no holding fills and the line's mode stays: LEVEL mode drives no
pulse, in EDGE mode a pulse being driven goes on (R154). -/
def State.lineKept (s : State) : State :=
  { s with host := { s.host with pulse := !s.levelMode && s.host.pulse } }

/-! ## Frames -/

/-- The pieces into which a frame divides the state. -/
inductive Block where
  | tick | params | staging | poll | lines | fifo | gaps | routeTable | routeRuntime | routeHold | routeWalking | angle
  | posture | orient
  /-- Dock state, identity, attempt counts, extra draw held and the two dock timers. -/
  | dockState
  /-- Channel toggles, Silence Count, halt, channel-3 messages, cadence, channel-2 schedule and the cycle. -/
  | dockLink
  /-- Key Queue, the last pressed set's emptiness and the remembered settle report. -/
  | dockKeys
  | latch | pen | supply | advisor | batch | slot | events | samples | transaction | pulse | pending
deriving DecidableEq, Repr

/-- One piece is the same in two states. -/
def Block.same (s t : State) : Block → Prop
  | .tick => t.tick = s.tick
  | .params => t.params = s.params
  | .staging => t.staging = s.staging
  | .poll => t.poll = s.poll
  | .lines => t.lines = s.lines
  | .fifo => t.intake.fifo = s.intake.fifo
  | .gaps => t.intake.gaps = s.intake.gaps
  | .routeTable => t.route.table = s.route.table
  | .routeRuntime => t.route.runtime = s.route.runtime
  | .routeHold => t.route.hold = s.route.hold
  | .routeWalking => t.route.walking = s.route.walking
  | .angle => t.angle = s.angle
  | .posture => t.posture = s.posture
  | .orient => t.orient = s.orient
  | .dockState =>
    (t.dock.state, t.dock.identity, t.dock.attempts, t.dock.reattaches, t.dock.extraHeld, t.dock.identifyTimer, t.dock.settleTimer)
      = (s.dock.state, s.dock.identity, s.dock.attempts, s.dock.reattaches, s.dock.extraHeld, s.dock.identifyTimer, s.dock.settleTimer)
  | .dockLink =>
    (t.dock.toggles, t.dock.silence, t.dock.halted, t.dock.outgoing, t.dock.waiting, t.dock.cycles, t.dock.motionRunning,
        t.dock.motionNext, t.dock.cadence, t.dock.cycle, t.dock.sent)
      = (s.dock.toggles, s.dock.silence, s.dock.halted, s.dock.outgoing, s.dock.waiting, s.dock.cycles, s.dock.motionRunning,
        s.dock.motionNext, s.dock.cadence, s.dock.cycle, s.dock.sent)
  | .dockKeys =>
    (t.dock.keys, t.dock.lastPressed, t.dock.remembered) = (s.dock.keys, s.dock.lastPressed, s.dock.remembered)
  | .latch => t.latch = s.latch
  | .pen => t.pen = s.pen
  | .supply => t.supply = s.supply
  | .advisor => t.advisor = s.advisor
  | .batch => t.batch = s.batch
  | .slot => t.host.slot = s.host.slot
  | .events => t.host.events = s.host.events
  | .samples => t.host.samples = s.host.samples
  | .transaction => t.host.transaction = s.host.transaction
  | .pulse => t.host.pulse = s.host.pulse
  | .pending => t.pending = s.pending

/-- `t` is as `s` in every piece but those named. -/
def SameBut (touched : List Block) (s t : State) : Prop := ∀ b, b ∉ touched → b.same s t

/-! ## Situations that statements name -/

/-- The next tick boundary brings no control period: the pen is not CHARGING or the count is no multiple of 16 (R121). -/
def State.NoPeriod (s : State) : Prop := s.pen.state = .charging → (s.tick + 1).toNat % 16 ≠ 0

/-- From `s` to `t` a tick boundary brings no control period, or one that leaves the pen CHARGING and the grants as they
were. -/
def State.PeriodQuiet (s t : State) : Prop :=
  s.NoPeriod ∨ (t.pen.state = .charging ∧ t.supply.grants = s.supply.grants)

/-- The next tick boundary brings a control period of a CHARGING pen whose current feed is fresh and whose grant is at
least 5 units (R121, steps 1 and 2). -/
def State.PeriodDue (s : State) (i : Stamped) : Prop :=
  s.pen.state = .charging ∧ (s.tick + 1).toNat % 16 = 0 ∧ s.pen.current = some i
    ∧ (s.tick + 1 - i.timestamp).toNat < 32 ∧ 5 ≤ s.supply.grants.pen

/-- The records of one source that stand in the Intake FIFO, in order. -/
def State.recordsOf (s : State) (src : Source) : List Sample := s.intake.fifo.filter (fun r => r.source = src)

/-- The record that a sample on its way becomes if it arrives now: UNSETTLED when its source's settle mark stands and it came
due after the mark was set (R2, R6). -/
def State.landing (s : State) (c : Coming) : Option Sample :=
  c.values.map (fun v =>
    { source := c.source, timestamp := s.tick
      unsettled := (match polledOf c.source with | none => false | some p => s.settleMark p && c.afterMark)
      values := v })

/-- From `s` to `t` samples arrive at Intake in their order, as far as the FIFO has room: a settle mark that one of them
consumes is cleared, and a source of which one finds no room has its gap mark set (R2, R6, R17, R18). -/
def State.Receives (arrivals : List Sample) (s t : State) : Prop :=
  let room := 16 - s.intake.fifo.length
  t.intake.fifo = s.intake.fifo ++ arrivals.take room
    ∧ (∀ src, t.intake.gaps.get src
        = (s.intake.gaps.get src || (arrivals.drop room).any (fun r => r.source = src)))
    ∧ (∀ p, t.settleMark p
        = (s.settleMark p && !(arrivals.take room).any (fun r => r.source = p.source && r.unsettled)))

/-- Each source stands at most once in the order of arrival of a tick (R2). -/
def State.ComingOnce (s : State) : Prop := (s.poll.coming.map Coming.source).Nodup

/-- In an order of arrival a sample born at the boundary waits for one of another port: a Sensor Bus source or BASA is named
ahead of its source (R2, notes/assumptions/13). -/
def waitsForPort (arrival : List Source) (src : Source) : Bool :=
  (arrival.takeWhile (fun x => x ≠ src)).any (fun x => x = .lida || x = .lidg || x = .als || x = .basa)

/-- The condition of each exchange of a cycle as it is about to begin (R97). -/
def State.Wants (s : State) (cycleTick : Tick) : Channel → Prop
  | .control => s.dock.state = .identifying ∨ (s.linked = true ∧ s.dock.cycles % 16 = 15)
  | .output => s.linked = true ∧ s.dock.halted = false ∧ (s.dock.outgoing ≠ none ∨ s.dock.waiting ≠ waitingEmpty)
  | .keys => s.linked = true ∧ s.keyCount + 2 ≤ 16
  | .motion =>
    s.linked = true ∧ s.dock.motionRunning = true ∧ s.dock.cadence ≠ 0
      ∧ ∃ due, s.dock.motionNext = some due ∧ (cycleTick - due).toNat < 2147483648

/-- From `s` to `t` a message of channel 3 goes out as the pending one, with the send toggle, and `waiting` is left (R94,
R95). -/
def State.Sends (s t : State) (m : OutMessage) (waiting : Waiting) : Prop :=
  t.dock.sent = [outputFrame (s.dock.toggles.get .output) m] ∧ t.dock.outgoing = some m ∧ t.dock.waiting = waiting

/-- From `s` to `t` an exchange of a cycle begins, `rest` still to come: a POLL with the expected toggle, or on channel 3 the
pending message; with none pending the first waiting one in the order LIGHTS, GRANT, CADENCE (R93 to R95, R97). -/
def State.Begins (s t : State) (cycleTick : Tick) (c : Channel) (rest : List Channel) : Prop :=
  t.dock.cycle
      = some { tick := cycleTick, channel := c, rest := rest, afterMark := s.settleMark .basa, discarded := false }
    ∧ (c ≠ .output → t.dock.sent = [pollFrame c (s.dock.toggles.get c)] ∧ t.dock.outgoing = s.dock.outgoing
        ∧ t.dock.waiting = s.dock.waiting)
    ∧ (c = .output →
        (∀ m, s.dock.outgoing = some m → s.Sends t m s.dock.waiting)
          ∧ (∀ l, s.dock.outgoing = none → s.dock.waiting.lights = some l →
              s.Sends t (.lights l.1 l.2) { s.dock.waiting with lights := none })
          ∧ (∀ g, s.dock.outgoing = none → s.dock.waiting.lights = none → s.dock.waiting.grant = some g →
              s.Sends t (.grant g) { s.dock.waiting with grant := none })
          ∧ (∀ code, s.dock.outgoing = none → s.dock.waiting.lights = none → s.dock.waiting.grant = none →
              s.dock.waiting.cadence = some code → s.Sends t (.cadence code) { s.dock.waiting with cadence := none }))

/-- From `s` to `t` a cycle goes on to the first channel of a list whose condition holds, the rest still to come; with none
it ends and is counted (R97). -/
def State.CycleGoesOn (s t : State) (cycleTick : Tick) (channels : List Channel) : Prop :=
  (∀ before c rest, channels = before ++ c :: rest → (∀ x ∈ before, ¬ s.Wants cycleTick x) → s.Wants cycleTick c →
      s.Begins t cycleTick c rest ∧ t.dock.cycles = s.dock.cycles)
    ∧ ((∀ x ∈ channels, ¬ s.Wants cycleTick x) →
        t.dock.cycle = none ∧ t.dock.sent = [] ∧ t.dock.cycles = s.dock.cycles + 1
          ∧ t.dock.outgoing = s.dock.outgoing ∧ t.dock.waiting = s.dock.waiting)

/-- From `s` to `t` a fault is taken: c rises and the coil is off; the pen is LATCHED with its request withdrawn under Retry
Limit Mode 1 from the fifth fault on, or waits for the time its retry set gives (R126, R127). -/
def State.FaultTaken (f : PenFault) (s t : State) : Prop :=
  let c := min 255 (s.pen.faults + 1)
  let latches : Prop := s.param .retryLimitMode = 1 ∧ 5 ≤ c
  let size := if s.pen.laterSet then s.param .laterSetRetries else s.param .firstSetRetries
  t.pen.faults = c ∧ t.pen.faultRecord = some f
    ∧ t.pen.duty = 0 ∧ t.pen.target = 0 ∧ t.pen.goodRun = none
    ∧ .pen t.pen.state (.fault f) c ∈ t.host.events
    ∧ (latches → t.pen.state = .latched ∧ t.supply.requests.pen = 0)
    ∧ (¬ latches → t.pen.state = .retryWait ∧ t.supply.requests.pen = s.supply.requests.pen)
    ∧ (¬ latches → s.pen.used < size →
        t.pen.used = s.pen.used + 1 ∧ t.pen.laterSet = s.pen.laterSet
          ∧ t.pen.retryTimer = some { start := t.tick, duration := s.param .retryWait })
    ∧ (¬ latches → size ≤ s.pen.used →
        t.pen.used = 1 ∧ t.pen.laterSet = true
          ∧ t.pen.retryTimer
              = some { start := t.tick, duration := s.param .retryWait * longMultiplier (s.param .longMultiplier) })

/-- From `s` to `t` the pen is TOPPED: coil off, request withdrawn, the rest timer started (R131, R132). -/
def State.TopsOff (s t : State) : Prop :=
  t.pen.state = .topped ∧ t.pen.duty = 0 ∧ t.pen.target = 0 ∧ t.pen.goodRun = none ∧ t.supply.requests.pen = 0
    ∧ t.pen.faults = s.pen.faults ∧ .pen .topped .full s.pen.faults ∈ t.host.events
    ∧ t.pen.restTimer = some { start := t.tick, duration := s.param .restTime * 1024 }

/-- From `s` to `t` a CHARGING pen is PAUSED for a gate: coil off, the gate the reason (R115, R116, R120). -/
def State.PausesAt (g : Gate) (s t : State) : Prop :=
  t.pen.state = .paused ∧ t.pen.leading = some g ∧ t.pen.duty = 0 ∧ t.pen.target = 0 ∧ t.pen.goodRun = none
    ∧ .pen .paused (.gate g) s.pen.faults ∈ t.host.events

/-- Hf16 after a resolved computation of H: H itself with no value before, else a step of the wrapped distance by the gain
2^k, rounded (R52, R53). -/
def FilterStepped (k : Nat) (h : Angle) (old new : Option (BitVec 16)) : Prop :=
  (old = none → new = some (BitVec.ofNat 16 (16 * h.toNat)))
    ∧ ∀ f, old = some f →
        ∃ d : Int, -32768 ≤ d ∧ d ≤ 32767 ∧ (16 * (h.toNat : Int) - (f.toNat : Int) - d) % 65536 = 0
          ∧ new
              = some (BitVec.ofInt 16
                  (if k = 0 then 16 * (h.toNat : Int) else (f.toNat : Int) + (d + (2 ^ (k - 1) : Nat)) / (2 ^ k : Nat)))

/-- An orientation is the one of an allowed set nearest the held O, the lower ROT number on a tie, or the first allowed one
while O was never computed (R85). -/
def NearestAllowed (set : AllowedSet) (heldO : Option Angle) (k : Orientation) : Prop :=
  inSet set k = true
    ∧ (∀ o, heldO = some o → ∀ j, inSet set j = true →
        centreDistance o k < centreDistance o j
          ∨ (centreDistance o k = centreDistance o j ∧ k.code.toNat ≤ j.code.toNat))
    ∧ (heldO = none → ∀ j, inSet set j = true → k.code.toNat ≤ j.code.toNat)

/-- A classification adopts row n at once: from UNKNOWN the first row that matches, from another posture a new candidate row
of another posture with dwell 0 (R70, R72). -/
def State.AdoptsAtOnce (fed : State) (n : Nat) : Prop :=
  fed.posture.attached = true ∧ fed.firstMatch = some n
    ∧ (fed.posture.posture = .unknown
        ∨ (fed.keeps = false ∧ fed.rowPosture n ≠ fed.posture.posture ∧ fed.posture.candidate ≠ some n
            ∧ (fed.postureRow n).dwell = 0))

/-- `t` is as a classification leaves `fed`, the state with the new input held: nothing while not attached; a row adopted at
once with the effects of R74; otherwise no change of posture and no POSTURE event, the row and the candidate as R71 and R72
say (R70 to R74). -/
def State.Classified (fed t : State) : Prop :=
  let p := fed.posture
  let still (b : PostureBlock) : Prop :=
    t.posture = b ∧ t.advisor.heldPosture = fed.advisor.heldPosture
      ∧ ∀ q hf r, .posture q hf r ∈ t.host.events → .posture q hf r ∈ fed.host.events
  let settled : Prop := p.attached = true ∧ p.posture ≠ .unknown
  (∀ n, fed.AdoptsAtOnce n →
      t.posture = { p with posture := fed.rowPosture n, row := some n, candidate := none, dwell := none }
        ∧ .posture (fed.rowPosture n) p.heldHf (some n) ∈ t.host.events
        ∧ t.orient.posture = fed.rowPosture n ∧ t.advisor.heldPosture = fed.rowPosture n
        ∧ t.advisor.lastActivity = fed.tick)
    ∧ (p.attached = false → still p)
    ∧ (p.attached = true → p.posture = .unknown → fed.firstMatch = none → still p)
    ∧ (settled → fed.keeps = true ∨ fed.firstMatch = none → still { p with candidate := none, dwell := none })
    ∧ (∀ n, settled → fed.keeps = false → fed.firstMatch = some n → fed.rowPosture n = p.posture →
        still { p with row := some n, candidate := none, dwell := none })
    ∧ (∀ n, settled → fed.keeps = false → fed.firstMatch = some n → fed.rowPosture n ≠ p.posture →
        (p.candidate = some n → still p)
          ∧ (p.candidate ≠ some n → 0 < (fed.postureRow n).dwell →
              still
                { p with
                  candidate := some n, dwell := some { start := fed.tick, duration := (fed.postureRow n).dwell } }))

/-- `r` is what an orientation update makes of the tracker of `s`: a flat one with no O, or one with a new O (R80, R81). -/
def State.OrientationTaken (s : State) (update : Option Angle) (r : OrientBlock) : Prop :=
  (update = none → r = { s.orient with heldFlat := true, candidate := none, dwell := none })
    ∧ ∀ o, update = some o →
        let held : OrientBlock := { s.orient with heldO := some o, heldFlat := false }
        let turns (q : Orientation) : Prop := q ≠ s.orient.current ∧ inSet s.allowedSet q = true
        (s.orient.locked = true → r = held)
          ∧ (s.orient.locked = false → (∀ q, s.qualifying o = some q → ¬ turns q) →
              r = { held with candidate := none, dwell := none })
          ∧ (∀ q, s.orient.locked = false → s.qualifying o = some q → turns q →
              (s.orient.candidate = some q → r = held)
                ∧ (s.orient.candidate ≠ some q → 0 < s.param .rotationDwell →
                    r = { held with
                          candidate := some q
                          dwell := some { start := s.tick, duration := s.param .rotationDwell } })
                ∧ (s.orient.candidate ≠ some q → s.param .rotationDwell = 0 →
                    r = { held with current := q, candidate := none, dwell := none }))

/-- The tracker of `t` is as `r` after it has taken posture p: forced to the nearest allowed orientation, or its current one
kept and a candidate that p does not allow cleared (R84, R85). -/
def State.TrackerFollows (t : State) (r : OrientBlock) (p : Posture) : Prop :=
  let set := r.table.get p
  let allowed : Prop := set = 0 ∨ inSet set r.current = true
  let took : OrientBlock := { r with posture := p }
  (allowed → (∀ c, r.candidate = some c → inSet set c = true) → t.orient = took)
    ∧ (∀ c, allowed → r.candidate = some c → inSet set c = false →
        t.orient = { took with candidate := none, dwell := none })
    ∧ (¬ allowed →
        NearestAllowed set r.heldO t.orient.current
          ∧ t.orient = { took with current := t.orient.current, candidate := none, dwell := none }
          ∧ .orientation t.orient.current r.locked .forced ∈ t.host.events)

/-- From `s` to `t` a hinge result is taken, the tracker standing at `r` by then: the attitude and Hf of the result are held
and classified, and the tracker follows a posture adopted at once (R56, R65, R70). -/
def State.HingeTaken (s t : State) (r : OrientBlock) : Prop :=
  let fed : State := { s with posture := { s.posture with heldHf := t.hf, attitude := t.angle.attitude } }
  fed.Classified t
    ∧ ((∀ n, ¬ fed.AdoptsAtOnce n) → t.orient = r)
    ∧ ∀ n, fed.AdoptsAtOnce n → t.TrackerFollows r (fed.rowPosture n)

/-- A SLEEP row ready to advise: enabled with its conditions true, armed, its inactivity met (R150). -/
def State.Ready (s : State) (n : Nat) : Prop :=
  n ∈ rowNumbers8 ∧ (s.policyRow n).wakes = false ∧ s.policyHolds (s.policyRow n) = true ∧ s.armedAt n = true
    ∧ (s.policyRow n).inactivity ≤ (s.tick - s.advisor.lastActivity).toNat

/-- A SLEEP row that waits for its inactivity: enabled with its conditions true and armed (R150). -/
def State.Awaits (s : State) (n : Nat) : Prop :=
  n ∈ rowNumbers8 ∧ (s.policyRow n).wakes = false ∧ s.policyHolds (s.policyRow n) = true ∧ s.armedAt n = true

/-- From `s` to `t` a sleep evaluation finds no row ready: each SLEEP row whose conditions fail is armed, and the inactivity
timer is set for the earliest tick at which a waiting row is ready, counted from the last activity, or stopped with no such
row (R150). -/
def State.EvaluatedIdle (s t : State) : Prop :=
  (∀ n ∈ rowNumbers8, t.armedAt n = true
      ↔ s.armedAt n = true ∨ ((s.policyRow n).wakes = false ∧ s.policyHolds (s.policyRow n) = false))
    ∧ (∀ n, s.Awaits n → (∀ m, s.Awaits m → (s.policyRow n).inactivity ≤ (s.policyRow m).inactivity) →
        ∃ timer, t.advisor.idleTimer = some timer ∧ timer.start = s.tick
          ∧ (s.tick - s.advisor.lastActivity).toNat + timer.duration = (s.policyRow n).inactivity)
    ∧ ((∀ m, ¬ s.Awaits m) → t.advisor.idleTimer = none)

/-- A WAKE row that accepts a cause: enabled with its conditions true, the cause in its set (R153). -/
def State.Accepts (s : State) (c : WakeCause) (n : Nat) : Prop :=
  n ∈ rowNumbers8 ∧ (s.policyRow n).wakes = true ∧ (s.policyRow n).causes.getLsbD c.number = true
    ∧ s.policyHolds (s.policyRow n) = true

/-- From `s` to `t` a wake cause taken in ASLEEP is decided: the first row that accepts it makes the platform WAKING with a
WAKE event, and with no such row the platform stays ASLEEP (R153). -/
def State.WakeDecided (s t : State) (c : WakeCause) : Prop :=
  (∀ n, s.Accepts c n → (∀ m, m < n → ¬ s.Accepts c m) →
      t.advisor.platform = .waking ∧ .wake c n ∈ t.host.events)
    ∧ ((∀ m, ¬ s.Accepts c m) → t.advisor.platform = .asleep ∧ ∀ n, .wake c n ∈ t.host.events → .wake c n ∈ s.host.events)

/-- The codes of a command frame's payload pass check 2 of R170, those it is long enough to hold: a table id of 0 to 6, a copy
of 0 or 1, a platform state of 0 or 1. -/
def FrameCodesPass (kind : Byte) (payload : List Byte) : Prop :=
  (kind = 2 ∨ kind = 3 ∨ kind = 4 → ∀ table, payload[1]? = some table → table.toNat ≤ 6)
    ∧ (kind = 3 → ∀ copy, payload[2]? = some copy → copy.toNat ≤ 1)
    ∧ (kind = 12 → ∀ platform, payload[1]? = some platform → platform.toNat ≤ 1)

/-- The length of a command frame's payload is that of its kind's arguments, for TABLE_WRITE the one that its count of
entries of its table needs (check 3 of R170, section 11.2). -/
def FrameLengthFits (kind : Byte) (payload : List Byte) : Prop :=
  (kind = 1 ∨ kind = 5 ∨ kind = 8 ∨ kind = 9 ∨ kind = 10 ∨ kind = 13 → payload.length = 1)
    ∧ (kind = 4 ∨ kind = 6 ∨ kind = 7 ∨ kind = 12 → payload.length = 2)
    ∧ (kind = 11 → payload.length = 3) ∧ (kind = 3 → payload.length = 5)
    ∧ (kind = 2 → ∃ table, TableId.ofCode (byteAt payload 1) = some table
        ∧ payload.length = 4 + (byteAt payload 3).toNat * table.entrySize)

/-- The traversal in flight comes to an entry that acts on this visit: enabled, not visited before in the traversal, its
counter coming to 0 (R22, R24, R25). -/
def State.ActsAt (s : State) (w : Traversal) : Prop :=
  s.route.walking = some w ∧ (s.routeEntry w.entry).enabled = true ∧ w.entry ∉ w.visited
    ∧ advancedCounter (s.routeEntry w.entry).decimation (s.routeRuntime w.entry).counter = 0

/-- The next visit performs a FEED to a target not fed before in the traversal (R28, R29). -/
def State.Feeds (s : State) (w : Traversal) (target : Target) : Prop :=
  s.ActsAt w ∧ (s.routeEntry w.entry).feed = some target ∧ target ∉ w.fed

/-- The next visit performs a TEST and nothing else, and the traversal goes on to entry n (R27, R31). -/
def State.TestsOnly (s : State) (w : Traversal) (n : Nat) : Prop :=
  s.ActsAt w ∧ w.entry < s.route.runtime.length ∧ w.visits + 1 < 16 ∧ (s.routeEntry w.entry).next = some n
    ∧ (s.routeEntry w.entry).feed = none ∧ (s.routeEntry w.entry).test = true ∧ (s.routeEntry w.entry).forward = false

/-- The next visit performs a FORWARD and nothing else, and the traversal goes on to entry n (R27, R35). -/
def State.ForwardsOnly (s : State) (w : Traversal) (n : Nat) : Prop :=
  s.ActsAt w ∧ w.entry < s.route.runtime.length ∧ w.visits + 1 < 16 ∧ (s.routeEntry w.entry).next = some n
    ∧ (s.routeEntry w.entry).feed = none ∧ (s.routeEntry w.entry).test = false ∧ (s.routeEntry w.entry).forward = true

/-- A traversal after one more visit, on its way to entry n, with the targets it has fed. -/
def Traversal.goneOn (w : Traversal) (n : Nat) (fed : List Target) : Traversal :=
  { record := w.record, entry := n, visits := w.visits + 1, visited := addMember w.visited w.entry, fed := fed }

/-! ## Invariants -/

/-- The Intake FIFO holds up to 16 records (R17), the Sample Queue with what is in flight up to 48 (R35, R167), and the
order of arrival each source once (R2). -/
def State.QueuesBounded (s : State) : Prop := s.intake.fifo.length ≤ 16 ∧ s.sampleCount ≤ 48 ∧ s.ComingOnce

/-- The Key Queue with what is in flight holds up to 16 reports, and room is kept for what may still join it: one entry while
the last report held a key, two while a report of the base is awaited or a pressed settle report is remembered (R97, R107
to R109). -/
def State.KeysBounded (s : State) : Prop :=
  s.keyCount ≤ 16 ∧ (s.dock.lastPressed = true → s.keyCount ≤ 15)
    ∧ (∀ c, s.dock.cycle = some c → c.channel = .keys → c.discarded = false → s.keyCount ≤ 14)
    ∧ (∀ k, s.dock.remembered = some k → k.pressed ≠ [] → s.keyCount ≤ 14)
    ∧ (s.dock.state = .attached → s.dock.remembered = none)

/-- The remembered settle report finds room even beside a report of the base that is awaited: 13 reports at most where both
stand (R108, notes/assumptions/34). -/
def State.ReplayFits (s : State) : Prop :=
  ∀ c k, s.dock.cycle = some c → c.channel = .keys → c.discarded = false → s.dock.remembered = some k → k.pressed ≠ [] →
    s.keyCount ≤ 13

/-- The kinds of a list of events, in order. -/
def eventKinds (list : List Event) : List Nat := list.map Event.kind

/-- The Event List holds at most one pending entry of each kind, and so does an EVENT frame in flight (R168). -/
def State.OneEntryPerKind (s : State) : Prop :=
  (eventKinds s.host.events).Nodup ∧
    ∀ t content, s.host.transaction = some t → t.frame = .events content → (eventKinds content).Nodup

/-- B is the budget in force, and the grants are its allocation to the standing requests (R137, R139). -/
def State.Allocated (s : State) : Prop :=
  s.supply.budget = s.budgetInForce ∧ s.supply.grants = divideBudget s.supply.budget s.supply.requests

/-- What one block holds of another is what the other block has: the Sleep Advisor's copies (R145), the tracker's posture
(R78), and the part power decided from them (R161). -/
def State.CopiesAgree (s : State) : Prop :=
  s.advisor.heldPosture = s.posture.posture ∧ s.orient.posture = s.posture.posture
    ∧ s.advisor.heldDock = s.dock.state
    ∧ s.advisor.penPresent = decide (s.pen.state ≠ .absent)
    ∧ s.advisor.penCharging = decide (s.pen.state = .charging)
    ∧ s.advisor.latchLocked = decide (s.latch.state = .locked)
    ∧ s.advisor.power = s.choosePower

/-- The coil is driven only while the pen is CHARGING: in every other state the duty and the target are 0 and no
good-run timer runs (R115). -/
def State.CoilGuarded (s : State) : Prop :=
  s.pen.state ≠ .charging → s.pen.duty = 0 ∧ s.pen.target = 0 ∧ s.pen.goodRun = none

end Sys2Proof.Machine
end

