-- ==== Sys2Proof/Certificates/Slice0/Obligations.lean ====
section
/-! DEFINITION. The statements for the provers, one `Obligations.<Name> : Prop` each, in the order of OBLIGATIONS.json. -/

open Sys2Proof Sys2Proof.Machine

/-! ## The step and the resets -/

/-- A step takes the command at the front of the queue and executes it with the rest of the queue waiting. Every
command is answered by a next state, whatever the state it meets, and leaves the waiting commands as they are. The
queue of waiting commands is the model's own (notes/assumptions/1), and so is the answer to an event that cannot occur
(notes/assumptions/5). -/
def Obligations.StepTakesTheFrontCommand : Prop :=
  (∀ (c : Instr) (rest : List Instr) (s : State),
      step { s with pending := c :: rest } = exec c { s with pending := rest })
    ∧ ∀ (c : Instr) (s : State), ∃ t, exec c s = .next t ∧ t.pending = s.pending

/-- POWER_ON_RESET and RESET_PART leave the reset state of every block. The soft reset keeps the tick count, and its
STARTED event says SOFT (R1, R19, R177 and the reset rules of the blocks). What the manual gives no reset value for, and
the model's own fields, are the model's choice (notes/assumptions/30), and so is that a reset ends a transaction in
progress and that RESET_PART's own row delivers it (notes/assumptions/14). -/
def Obligations.ResetsLeaveTheResetState : Prop :=
  (∀ s : State, exec .powerOnReset s = .next { State.reset with pending := s.pending })
    ∧ (∀ (tag : Byte) (s : State),
        exec (.resetPart tag) s = .next { State.afterReset s.tick .soft with pending := s.pending })
    ∧ State.reset = State.afterReset 0 .powerOn
    ∧ ∀ (now : Tick) (why : StartReason), ∃ r : State, r = State.afterReset now why
        ∧ r.tick = now ∧ r.host.events = [.started why] ∧ r.host.slot = none ∧ r.host.samples = []
        ∧ r.host.transaction = none ∧ r.dock.keys = []
        ∧ r.intake.fifo = [] ∧ (∀ src, r.intake.gaps.get src = false)
        ∧ (∀ l, r.lines.get l = { debounced := none, pending := none })
        ∧ (∀ p, r.settleMark p = true) ∧ (∀ b, r.poll.health.get b = { health := .ok, failures := 0 })
        ∧ r.poll.waiting = [] ∧ r.poll.onBus = none ∧ r.poll.coming = []
        ∧ r.route.walking = none ∧ r.route.hold = false
        ∧ (∀ e ∈ r.route.runtime, e = { counter := 0, test := .unknown })
        ∧ r.angle.lid = none ∧ r.angle.base = none ∧ r.angle.unresolved = some .stale ∧ r.angle.h = 0
        ∧ r.angle.filter = none ∧ r.angle.attitude = .none ∧ r.angle.o = none ∧ r.angle.flat = false
        ∧ r.posture.posture = .slate ∧ r.posture.row = none ∧ r.posture.candidate = none
        ∧ r.posture.hallClosed = none ∧ r.posture.hallFolded = none ∧ r.posture.attached = false
        ∧ r.orient.current = .rot0 ∧ r.orient.candidate = none ∧ r.orient.locked = false
        ∧ r.dock.state = .detached ∧ r.dock.identity = none ∧ r.latch.state = .locked
        ∧ r.pen.state = .absent ∧ r.pen.duty = 0 ∧ r.pen.inhibit = false ∧ r.pen.faults = 0
        ∧ r.supply.budget = 150
        ∧ r.supply.requests = { latch := 0, base := 0, pen := 0, extra := 0 }
        ∧ r.supply.grants = { latch := 0, base := 0, pen := 0, extra := 0 }
        ∧ r.advisor.platform = .awake ∧ r.advisor.power = .run ∧ r.advisor.forcing = false
        ∧ r.advisor.lastActivity = now
        ∧ r.batch.bankA.role = .free ∧ r.batch.bankB.role = .free

/-- The state after a power-on reset meets the invariants that every command keeps. -/
def Obligations.ResetStateMeetsTheInvariants : Prop :=
  State.reset.QueuesBounded ∧ State.reset.KeysBounded ∧ State.reset.OneEntryPerKind ∧ State.reset.Allocated
    ∧ State.reset.CopiesAgree ∧ State.reset.CoilGuarded

/-! ## TICK -/

/-- A TICK advances the count by one, modulo 2^32, and writes no more than the sample ports, the Dock Link and the
control period touch; without a control period it leaves pen, supply, advisor and events alone (R1, R121). What was still
on its way to Intake arrives before, with the old count as its stamp: each sample in its order, as far as the FIFO has
room, with a settle mark it consumes cleared, and the gap mark of a source set that finds none (R2, R6, R17, R18). The
order of the parts of one boundary and the arrival in travel are the model's choices (notes/assumptions/11 and 13). -/
def Obligations.TickAdvancesTheCount : Prop :=
  (∀ (levels : LineLevels) (readings : ConverterReadings) (arrival : List Source) (s : State),
      exec (.tick levels readings arrival) s = exec (.tick levels readings arrival) (landRest s)
        ∧ ∃ t, exec (.tick levels readings arrival) s = .next t ∧ t.tick = s.tick + 1
          ∧ SameBut [.tick, .lines, .poll, .fifo, .gaps, .dockLink, .supply, .pen, .advisor, .events, .pulse] s t
          ∧ (s.NoPeriod → SameBut [.tick, .lines, .poll, .fifo, .gaps, .dockLink, .pulse] s t))
    ∧ ∀ s : State, s.ComingOnce →
        ∃ u, landRest s = u ∧ u.poll.coming = [] ∧ s.Receives (s.poll.coming.filterMap s.landing) u
          ∧ SameBut [.poll, .fifo, .gaps] s u

/-- What a TICK does to one line, and the sample a level brings when it takes effect (R15, R16). With at most nine
records in the FIFO every sample of the boundary finds room. The sample arrives at once, or is on its way while the order
the command gives names a Sensor Bus source or BASA ahead of it; that order, and its place ahead of the control period, are
the model's choice (notes/assumptions/11 and 13). -/
def Obligations.LinesAreDebounced : Prop :=
  ∀ (levels : LineLevels) (readings : ConverterReadings) (arrival : List Source) (s : State) (l : Line),
    (landRest s).intake.fifo.length ≤ 9 →
    ∃ t, exec (.tick levels readings arrival) s = .next t ∧
      let now := s.tick + 1
      let level := levelOf levels l
      let old := s.lines.get l
      let before := (landRest s).recordsOf l.source
      let values : Values := .one (if level then 1 else 0)
      let silent : Prop := t.recordsOf l.source = before ∧ ∀ c ∈ t.poll.coming, c.source ≠ l.source
      let taken : Prop :=
        t.lines.get l = { debounced := some level, pending := none }
          ∧ (waitsForPort arrival l.source = false →
              t.recordsOf l.source
                  = before ++ [{ source := l.source, timestamp := now, unsettled := false, values := values }]
                ∧ ∀ c ∈ t.poll.coming, c.source ≠ l.source)
          ∧ (waitsForPort arrival l.source = true →
              t.recordsOf l.source = before
                ∧ { source := l.source, values := some values, afterMark := true } ∈ t.poll.coming)
      (old.debounced = some level → t.lines.get l = { debounced := some level, pending := none } ∧ silent)
        ∧ (∀ p, old.debounced ≠ some level → old.pending = some p → p.level = level →
            (p.hold ≤ (now - p.start).toNat → taken)
              ∧ ((now - p.start).toNat < p.hold → t.lines.get l = old ∧ silent))
        ∧ (old.debounced ≠ some level → (∀ p, old.pending = some p → p.level ≠ level) →
            (s.param l.hold = 0 → taken)
              ∧ (0 < s.param l.hold →
                  t.lines.get l
                      = { debounced := old.debounced
                          pending := some { level := level, start := now, hold := s.param l.hold } }
                    ∧ silent))

/-- A converter channel that comes due is read at the boundary: its clamped value goes to Intake, UNSETTLED as its
settle mark stands, and the next due tick is taken. PCEL is read only while the pen is CHARGING (R3, R5 to R7). A control
period at the same boundary that ends CHARGING may set settle marks and schedules anew; the record stands all the same.
The order of the parts of the boundary and of the arrivals is the model's choice (notes/assumptions/11 and 13). -/
def Obligations.ConverterReadsArrive : Prop :=
  ∀ (levels : LineLevels) (readings : ConverterReadings) (arrival : List Source) (s : State) (p : Polled),
    p = .coil ∨ p = .pcel ∨ p = .ctmp → (landRest s).intake.fifo.length ≤ 9 →
    ∃ t, exec (.tick levels readings arrival) s = .next t ∧
      let value : Int :=
        match p with
        | .coil => max 0 (min 1023 readings.coil)
        | .pcel => max 0 (min 5000 readings.pcel)
        | _ => max (-400) (min 1250 readings.ctmp)
      let values : Values := .one (BitVec.ofInt 16 value)
      let due : Prop := (s.poll.schedule.get p).next = some (s.tick + 1)
      let read : Prop := due ∧ (p = .pcel → s.pen.state = .charging)
      let quiet : Prop := s.NoPeriod ∨ t.pen.state = .charging
      let before := (landRest s).recordsOf p.source
      let mark := (landRest s).settleMark p
      (read → waitsForPort arrival p.source = false →
          t.recordsOf p.source
              = before ++ [{ source := p.source, timestamp := s.tick + 1, unsettled := mark, values := values }]
            ∧ (quiet → t.settleMark p = false))
        ∧ (read → waitsForPort arrival p.source = true →
            t.recordsOf p.source = before
              ∧ (∃ c ∈ t.poll.coming, c.source = p.source ∧ c.values = some values ∧ (quiet → c.afterMark = true))
              ∧ (quiet → t.settleMark p = mark))
        ∧ (¬ read → t.recordsOf p.source = before ∧ (quiet → t.settleMark p = mark))
        ∧ (due → quiet → (t.poll.schedule.get p).next = nextPoll (s.period p) (s.tick + 1))
        ∧ (¬ due → quiet → (t.poll.schedule.get p).next = (s.poll.schedule.get p).next)

/-- A source that comes due while its previous poll still waits drops that poll: the gap mark is set, the new poll
stands behind every poll due earlier and before those of the same tick with a higher source number, and health,
failure count and settle mark stay (R9, R10). The order of the parts of the boundary is the model's choice
(notes/assumptions/11), and so is that its polls are issued before a bus timeout of that boundary frees the bus
(notes/assumptions/35). -/
def Obligations.PollOverrunDropsTheWaitingPoll : Prop :=
  ∀ (levels : LineLevels) (readings : ConverterReadings) (arrival : List Source) (s : State) (b : Bus),
    (s.poll.schedule.get b.polled).next = some (s.tick + 1) → (∃ w ∈ s.poll.waiting, w.source = b) →
    ∃ t, exec (.tick levels readings arrival) s = .next t
      ∧ t.intake.gaps.get b.source = true
      ∧ t.poll.health.get b = s.poll.health.get b
      ∧ (s.PeriodQuiet t →
          (∃ before after,
              t.poll.waiting
                  = before
                    ++ { source := b, due := s.tick + 1, afterMark := (landRest s).settleMark b.polled } :: after
                ∧ (∀ w ∈ before, w.source ≠ b)
                ∧ (∀ w ∈ after, w.due = s.tick + 1 ∧ headEntry b.source < headEntry w.source.source))
            ∧ t.settleMark b.polled = (landRest s).settleMark b.polled
            ∧ (t.poll.schedule.get b.polled).next = nextPoll (s.period b.polled) (s.tick + 1))

/-- A dock cycle. A TICK that finds the dock linked, the wire free and a cycle due begins the first exchange whose
condition holds, in the order of channels 0, 3, 1, 2, or counts a cycle with none; without a link, in a skipped cycle and
between the cycles of Doze the dock stays as it is. The end of an exchange leads on to the next of the channels still to
come, shown for a NAK, which is a good exchange (R93 to R98). An exchange sends its POLL with the expected toggle, channel 3
its pending message with the send toggle, or the first waiting one of LIGHTS, GRANT and CADENCE. The order of the parts of
the boundary, and the list of frames sent, are the model's (notes/assumptions/11 and 28). -/
def Obligations.TickOpensADockCycle : Prop :=
  (∀ (levels : LineLevels) (readings : ConverterReadings) (arrival : List Source) (s : State),
      ∃ t, exec (.tick levels readings arrival) s = .next t
        ∧ (s.PeriodQuiet t →
            let linked : Prop := s.dock.state = .identifying ∨ s.dock.state = .settling ∨ s.dock.state = .attached
            let due : Prop := s.advisor.power = .run ∨ (s.tick + 1).toNat % 8 = 0
            (linked → due → s.dock.cycle = none →
                (landRest s).CycleGoesOn t (s.tick + 1) [.control, .output, .keys, .motion])
              ∧ (¬ linked ∨ ¬ due ∨ s.dock.cycle ≠ none → t.dock = s.dock)))
    ∧ ∀ (s : State) (c : Cycle) (frame : List Byte),
        s.dock.cycle = some c → c.discarded = false → judgeReply c.channel frame = .nak →
        s.dock.state = .identifying ∨ s.dock.state = .settling ∨ s.dock.state = .attached →
        (c.channel = .motion → c.rest = []) →
        ∃ t, exec (.dockReply frame) s = .next t ∧ t.dock.silence = 0 ∧ t.dock.toggles = s.dock.toggles
          ∧ s.CycleGoesOn t c.tick c.rest ∧ SameBut [.dockLink, .pulse] s t

/-- A control period with nothing wrong moves the target and the duty: the request follows the curve, a grant that no longer
covers the target restarts from 0, otherwise the target ramps toward the lesser of curve and grant and the duty steps by
the error. A first current above OC Limit, a coupling and a taper condition that have not stood long enough are only
remembered (R121 to R126, R131). That the control period is the last part of the boundary is the model's choice
(notes/assumptions/11). -/
def Obligations.ControlPeriodRegulatesTheCoil : Prop :=
  ∀ (levels : LineLevels) (readings : ConverterReadings) (arrival : List Source) (s : State) (i : Stamped),
    let now := s.tick + 1
    let exceeds : Prop := (s.param .ocLimit : Int) < i.value.toInt
    let uncoupled : Prop := s.param .couplingDuty ≤ s.pen.duty ∧ i.value.toInt < s.param .couplingFloor
    let tapers : Prop :=
      (∃ v, s.pen.cell = some v ∧ (s.param .fullVoltage : Int) ≤ v.toInt) ∧ i.value.toInt < s.param .taperCurrent
    s.PeriodDue i → s.gateClosed .inhibit = false → s.gateClosed .sleep = false →
    ¬ (exceeds ∧ s.pen.overLimit = true) →
    (uncoupled → (now - s.pen.couplingStart.getD now).toNat < s.param .couplingTime) →
    (tapers → (now - s.pen.taperStart.getD now).toNat < s.param .fullDwell) →
    ∃ t, exec (.tick levels readings arrival) s = .next t ∧
      let c := curveTarget s.pen.curve s.pen.cell
      let g := 10 * t.supply.grants.pen
      let up := s.param .rampUp
      let down := if s.param .rampDownHalf = 0 then up else max 1 (up / 2)
      let l := min c g
      let old := s.pen.target
      let target := if old < l then min l (old + up) else if l < old then max l (old - down) else old
      let step : Int :=
        max (-(s.param .stepLimit : Int))
          (min (s.param .stepLimit : Int) (((target : Int) - i.value.toInt) / (2 ^ s.param .gainShift : Nat)))
      t.pen.state = .charging ∧ t.pen.curveTarget = c
        ∧ t.supply.requests = { s.supply.requests with pen := penUnits c }
        ∧ (s.supply.requests.pen = penUnits c → t.supply = s.supply)
        ∧ (s.supply.requests.pen ≠ penUnits c →
            t.supply.grants = divideBudget s.supply.budget t.supply.requests ∧ t.supply.budget = s.supply.budget)
        ∧ (g < old → t.pen.target = 0 ∧ t.pen.duty = 0)
        ∧ (old ≤ g → t.pen.target = target
            ∧ (t.pen.duty : Int) = max 0 (min (s.param .dutyMax : Int) ((s.pen.duty : Int) + step)))
        ∧ (exceeds ↔ t.pen.overLimit = true)
        ∧ (uncoupled → t.pen.couplingStart = some (s.pen.couplingStart.getD now))
        ∧ (¬ uncoupled → t.pen.couplingStart = none)
        ∧ (tapers → t.pen.taperStart = some (s.pen.taperStart.getD now))
        ∧ (¬ tapers → t.pen.taperStart = none)
        ∧ SameBut [.tick, .lines, .poll, .fifo, .gaps, .dockLink, .supply, .pen, .events, .pulse] s t
        ∧ (s.supply.requests.pen = penUnits c → SameBut [.tick, .lines, .poll, .fifo, .gaps, .dockLink, .pen, .pulse] s t)

/-- What ends a charging run at a control period. The second period in a row with a current above OC Limit is an OVERCURRENT
fault, and a duty that has met too small a current for Coupling Time is a COUPLING fault: the coil is off, c rises, and the
pen is LATCHED under Retry Limit Mode 1 from the fifth fault on, or waits for the time its retry set gives. A full cell
whose current has tapered for Full Dwell tops off. A stale or absent current feed closes the MONITOR gate and a grant below
5 units is the BUDGET gate: each pauses the pen with the leading gate (R120, R121, R126, R127, R131). That the control
period is the last part of the boundary is the model's choice (notes/assumptions/11). -/
def Obligations.OvercurrentStartsARetryWait : Prop :=
  ∀ (levels : LineLevels) (readings : ConverterReadings) (arrival : List Source) (s : State),
    ∃ t, exec (.tick levels readings arrival) s = .next t ∧
      let now := s.tick + 1
      let exceeds (i : Stamped) : Prop := (s.param .ocLimit : Int) < i.value.toInt
      let uncoupled (i : Stamped) : Prop :=
        s.param .couplingDuty ≤ s.pen.duty ∧ i.value.toInt < s.param .couplingFloor
      let stood (start : Option Tick) (time : Nat) : Prop := time ≤ (now - start.getD now).toNat
      (∀ i, s.PeriodDue i → exceeds i → s.pen.overLimit = true → s.FaultTaken .overcurrent t)
        ∧ (∀ i, s.PeriodDue i → ¬ (exceeds i ∧ s.pen.overLimit = true) → uncoupled i →
            stood s.pen.couplingStart (s.param .couplingTime) → s.FaultTaken .coupling t)
        ∧ (∀ i v, s.PeriodDue i → ¬ (exceeds i ∧ s.pen.overLimit = true) →
            ¬ (uncoupled i ∧ stood s.pen.couplingStart (s.param .couplingTime)) →
            s.pen.cell = some v → (s.param .fullVoltage : Int) ≤ v.toInt → i.value.toInt < s.param .taperCurrent →
            stood s.pen.taperStart (s.param .fullDwell) → s.TopsOff t)
        ∧ (s.pen.state = .charging → now.toNat % 16 = 0 →
            (∀ i, s.pen.current = some i → 32 ≤ (now - i.timestamp).toNat) →
            t.pen.monitorClosed = true ∧ t.supply = s.supply ∧ ∃ g, t.leadingGate = some g ∧ s.PausesAt g t)
        ∧ (∀ i, s.pen.state = .charging → now.toNat % 16 = 0 → s.pen.current = some i →
            (now - i.timestamp).toNat < 32 → s.supply.grants.pen < 5 →
            t.pen.monitorClosed = s.pen.monitorClosed ∧ t.supply = s.supply
              ∧ ∃ g, t.leadingGate = some g ∧ s.PausesAt g t)
        ∧ SameBut [.tick, .lines, .poll, .fifo, .gaps, .dockLink, .supply, .pen, .advisor, .events, .pulse] s t

/-! ## The Sensor Bus -/

/-- BUS_POLL_START starts the poll at the head of the wait list when the bus is free, and nothing else changes (R9).
That the command does nothing where no poll can start is the model's choice (notes/assumptions/5). -/
def Obligations.BusPollStartTakesTheHead : Prop :=
  ∀ s : State,
    (∀ w rest, s.poll.onBus = none → s.poll.waiting = w :: rest →
      exec .busPollStart s
        = .next
            ({ s with
               poll :=
                 { s.poll with
                   waiting := rest
                   onBus := some { source := w.source, started := s.tick, afterMark := w.afterMark } } } :
              State).lineKept)
    ∧ (s.poll.onBus ≠ none ∨ s.poll.waiting = [] → exec .busPollStart s = .next s.lineKept)

/-- A poll that succeeds frees the bus and sends its sample: through the mount transform for LIDA, clamped for ALS,
UNSETTLED when it came due after a standing settle mark or recovers a FAILED source, which it then turns OK with a SOURCE
event and the period of its cadence. At a full FIFO the sample is lost and the gap mark set. Where the order of arrival
keeps a place for the sample, what stands ahead of it arrives before and what follows, up to the next place kept, after
(R2, R3, R6, R11, R12, R14, R17). That order is the model's own (notes/assumptions/13); a poll past its fifth boundary may
still end this way (notes/assumptions/31). -/
def Obligations.PollSuccessDeliversItsSample : Prop :=
  (∀ (code : Nat) (x y z : Value), code ≤ 47 →
      let axes : Value × Value × Value :=
        match code / 8 with
        | 0 => (x, y, z)
        | 1 => (x, z, y)
        | 2 => (y, x, z)
        | 3 => (y, z, x)
        | 4 => (z, x, y)
        | _ => (z, y, x)
      let signed (bit : Nat) (v : Value) : Value :=
        if code / bit % 2 = 0 then v else if v.toInt = -32768 then 32767 else BitVec.ofInt 16 (-v.toInt)
      mountTransform code x y z = .three (signed 1 axes.1) (signed 2 axes.2.1) (signed 4 axes.2.2))
    ∧ ∀ (s : State) (p : BusPoll) (reading : SensorReading),
        s.poll.onBus = some p →
        ∃ t, exec (.pollSuccess reading) s = .next t ∧
          let b := p.source
          let failed : Bool := decide ((s.poll.health.get b).health = .failed)
          let marked : Bool := failed || (s.settleMark b.polled && p.afterMark)
          let values : Values :=
            match b with
            | .lida => mountTransform (s.param .lidMount) reading.x reading.y reading.z
            | .lidg => .three reading.x reading.y reading.z
            | .als => .one (BitVec.ofInt 16 (max 0 (min 32767 reading.lux)))
          let own : Sample := { source := b.source, timestamp := s.tick, unsettled := marked, values := values }
          let kept : Prop := ∃ c ∈ s.poll.coming, c.source = b.source ∧ c.values = none
          t.poll.onBus = none ∧ t.poll.waiting = s.poll.waiting
            ∧ t.poll.health = s.poll.health.set b { health := .ok, failures := 0 }
            ∧ (¬ kept → t.poll.coming = s.poll.coming ∧ s.Receives [own] t)
            ∧ (∀ ahead place behind,
                s.poll.coming = ahead ++ place :: behind → place.source = b.source → place.values = none → s.ComingOnce →
                t.poll.coming = behind.dropWhile (fun c => c.values.isSome)
                  ∧ s.Receives
                      (ahead.filterMap s.landing
                        ++ own :: (behind.takeWhile (fun c => c.values.isSome)).filterMap s.landing) t)
            ∧ (failed = false → t.host.events = s.host.events
                ∧ (t.poll.schedule.get b.polled).next = (s.poll.schedule.get b.polled).next)
            ∧ (failed = true → t.host.events = addEvent s.host.events (.source [(b, .ok)])
                ∧ (t.poll.schedule.get b.polled).next
                    = nextPoll (cadencePeriod (s.poll.schedule.get b.polled).code) s.tick)
            ∧ SameBut [.poll, .fifo, .gaps, .events, .pulse] s t

/-- A poll that is not acknowledged, or that reaches its fifth tick boundary, ends as a failure: the gap mark is set
and the bus freed. The third failure in a row turns the source FAILED with a SOURCE event, withdraws its waiting poll
and puts it on a period of 1024 ticks; a FAILED source stays as it is (R11). That NO_ACKNOWLEDGE ends a poll also past its
fifth boundary is the model's choice (notes/assumptions/31). -/
def Obligations.PollFailuresLeadToFailed : Prop :=
  ∀ (s : State) (p : BusPoll) (c : Instr),
    s.poll.onBus = some p → c = .noAcknowledge ∨ (c = .busTimeout ∧ 5 ≤ (s.tick - p.started).toNat) →
    ∃ t, exec c s = .next t ∧
      let b := p.source
      let old := s.poll.health.get b
      t.poll.onBus = none ∧ t.intake.gaps = s.intake.gaps.set b.source true
        ∧ (old.health = .failed → t.poll.health = s.poll.health ∧ t.poll.waiting = s.poll.waiting
            ∧ t.host.events = s.host.events)
        ∧ (old.health = .ok → old.failures < 2 →
            t.poll.health = s.poll.health.set b { health := .ok, failures := old.failures + 1 }
              ∧ t.poll.waiting = s.poll.waiting ∧ t.host.events = s.host.events)
        ∧ (old.health = .ok → old.failures = 2 →
            t.poll.health = s.poll.health.set b { health := .failed, failures := 3 }
              ∧ t.poll.waiting = s.poll.waiting.filter (fun w => w.source ≠ b)
              ∧ t.host.events = addEvent s.host.events (.source [(b, .failed)])
              ∧ (t.poll.schedule.get b.polled).next
                  = nextPoll (if (s.poll.schedule.get b.polled).code = 0 then 0 else 1024) s.tick)
        ∧ SameBut [.poll, .gaps, .events, .pulse] s t

/-! ## The Route Engine -/

/-- TRAVERSAL_BEGIN: an IDLE engine with no commit held takes the head record and visits the head entry of its source.
The traversal goes on to the entry's next, or ends there and the record behind is taken at once. WALKING, under a hold
or with the FIFO empty nothing changes (R23, R24). That the record behind is taken without its first visit, and that
the command does nothing where no traversal can begin, are the model's choices (notes/assumptions/12 and 5). -/
def Obligations.TraversalBeginVisitsTheHeadEntry : Prop :=
  ∀ s : State,
    (∀ (r : Sample) (rest : List Sample),
      s.route.walking = none → s.route.hold = false → s.intake.fifo = r :: rest →
      ∃ t, exec .traversalBegin s = .next t ∧
        let head := headEntry r.source
        let e := s.routeEntry head
        (∀ n, e.next = some n →
            t.intake.fifo = rest
              ∧ ∃ fed, t.route.walking
                  = some { record := r, entry := n, visits := 1, visited := [head], fed := fed })
          ∧ (e.next = none →
              t.intake.fifo = rest.tail ∧ t.route.walking = rest.head?.map startTraversal)
          ∧ (e.enabled = false → t.route.runtime = s.route.runtime)
          ∧ (e.enabled = true → head < s.route.runtime.length →
              (t.routeRuntime head).counter = ((s.routeRuntime head).counter + 1) % e.decimation)
          ∧ t.route.table = s.route.table ∧ t.route.hold = false
          ∧ SameBut [.fifo, .routeWalking, .routeRuntime, .samples, .batch, .dockState, .dockKeys, .gaps, .angle, .posture,
              .orient, .latch, .supply, .pen, .poll, .dockLink, .advisor, .events, .pulse] s t)
    ∧ (s.route.walking ≠ none ∨ s.route.hold = true ∨ s.intake.fifo = [] →
        exec .traversalBegin s = .next s.lineKept)

/-- A visit before the sixteenth whose entry has a next link leads the traversal there with its visits counted; the entry's
counter advances on the first visit of an enabled entry and at no other time (R22, R24 to R26). -/
def Obligations.RouteVisitFollowsTheNextLink : Prop :=
  ∀ (s : State) (w : Traversal) (n : Nat),
    s.route.walking = some w → (s.routeEntry w.entry).next = some n → w.visits + 1 < 16 →
    ∃ t, exec .routeVisit s = .next t ∧
      let e := s.routeEntry w.entry
      let first : Prop := e.enabled = true ∧ w.entry ∉ w.visited
      (∃ fed, t.route.walking = some (w.goneOn n fed) ∧ ∀ target ∈ w.fed, target ∈ fed)
        ∧ (first → w.entry < s.route.runtime.length →
            (t.routeRuntime w.entry).counter = ((s.routeRuntime w.entry).counter + 1) % e.decimation)
        ∧ (∀ k, k ≠ w.entry → t.routeRuntime k = s.routeRuntime k)
        ∧ (¬ first → t.route.runtime = s.route.runtime)
        ∧ SameBut [.routeWalking, .routeRuntime, .samples, .batch, .dockState, .dockKeys, .gaps, .angle, .posture, .orient,
            .latch, .supply, .pen, .poll, .dockLink, .advisor, .events, .pulse] s t

/-- A visit that acts on nothing changes nothing but the traversal, and the counter of an enabled entry visited for the
first time: disabled entries, repeated visits and visits thinned out by decimation (R21, R22, R25). -/
def Obligations.SilentVisitsOnlyWalkOn : Prop :=
  ∀ (s : State) (w : Traversal) (n : Nat),
    s.route.walking = some w → (s.routeEntry w.entry).next = some n → w.visits + 1 < 16 →
    ((s.routeEntry w.entry).enabled = false ∨ w.entry ∈ w.visited →
        exec .routeVisit s
          = .next ({ s with route := { s.route with walking := some (w.goneOn n w.fed) } } : State).lineKept)
      ∧ (∀ k, (s.routeEntry w.entry).enabled = true → w.entry ∉ w.visited →
          ((s.routeRuntime w.entry).counter + 1) % (s.routeEntry w.entry).decimation = k + 1 →
          exec .routeVisit s
            = .next
                ({ s with
                   route :=
                     { s.route with
                       walking := some (w.goneOn n w.fed)
                       runtime :=
                         s.route.runtime.set w.entry
                           { counter := k + 1, test := (s.routeRuntime w.entry).test } } } : State).lineKept)

/-- A traversal ends at an entry with next none and at its sixteenth visit, which with a next link is a CHAIN_OVERRUN
of that entry. A held commit is then applied, and the next record is taken at once (R23, R26, R40, R41). That the next
record is taken without its first visit is the model's choice (notes/assumptions/12). -/
def Obligations.RouteVisitEndsTheTraversal : Prop :=
  ∀ (s : State) (w : Traversal),
    s.route.walking = some w → (s.routeEntry w.entry).next = none ∨ 16 ≤ w.visits + 1 →
    ∃ t, exec .routeVisit s = .next t
      ∧ t.intake.fifo = s.intake.fifo.tail ∧ t.route.walking = s.intake.fifo.head?.map startTraversal
      ∧ t.route.hold = false
      ∧ ((s.routeEntry w.entry).next ≠ none →
          ∃ entries, .chainOverrun entries ∈ t.host.events ∧ w.entry ∈ entries)
      ∧ (s.route.hold = false → t.route.table = s.route.table)
      ∧ (s.route.hold = true →
          t.route.table = s.staging.route.map readRouteEntry
            ∧ t.route.runtime = List.replicate 48 { counter := 0, test := .unknown }
            ∧ ∃ tables, .tableCommitted tables ∈ t.host.events ∧ .route ∈ tables)
      ∧ SameBut [.fifo, .routeTable, .routeHold, .routeWalking, .routeRuntime, .samples, .batch, .dockState, .dockKeys,
          .gaps, .angle, .posture, .orient, .latch, .supply, .pen, .poll, .dockLink, .advisor, .events, .pulse] s t

/-- The number a TEST compares. With no such number the TEST is not performed: test state and THRESHOLD stay and no motion
is reported (R31). -/
def Obligations.TestComparesTheSelectedNumber : Prop :=
  (∀ v, testNumber .value0 (.one v) = some v.toInt)
    ∧ (∀ x y z, testNumber .value0 (.three x y z) = some x.toInt
        ∧ testNumber .value1 (.three x y z) = some y.toInt ∧ testNumber .value2 (.three x y z) = some z.toInt)
    ∧ (∀ v, testNumber .mag (.one v) = some ((min 32767 v.toInt.natAbs : Nat) : Int))
    ∧ (∀ x y z, testNumber .mag (.three x y z) = some ((min 32767 (x.toInt.natAbs + y.toInt.natAbs + z.toInt.natAbs) : Nat) : Int))
    ∧ (∀ v, testNumber .value1 (.one v) = none ∧ testNumber .value2 (.one v) = none)
    ∧ ∀ (s : State) (w : Traversal) (n : Nat),
        s.TestsOnly w n → testNumber (s.routeEntry w.entry).select w.record.values = none →
        ∃ t, exec .routeVisit s = .next t ∧ (t.routeRuntime w.entry).test = (s.routeRuntime w.entry).test
          ∧ SameBut [.routeWalking, .routeRuntime, .pulse] s t

/-- A performed TEST sets the test state by the bounds; a change to OUTSIDE and one from OUTSIDE to INSIDE join
THRESHOLD, and with WAKE a change to OUTSIDE of a settled record is motion, which is activity (R32 to R34). Sets in
events keep the order of joining (notes/assumptions/16). -/
def Obligations.TestReportsItsChanges : Prop :=
  ∀ (s : State) (w : Traversal) (n : Nat) (v : Int),
    s.TestsOnly w n → testNumber (s.routeEntry w.entry).select w.record.values = some v →
    ∃ t, exec .routeVisit s = .next t ∧
      let e := s.routeEntry w.entry
      let old := (s.routeRuntime w.entry).test
      let new := (t.routeRuntime w.entry).test
      let reported : Prop := (new = .outside ∧ old ≠ .outside) ∨ (old = .outside ∧ new = .inside)
      let motion : Prop := e.wake = true ∧ new = .outside ∧ old ≠ .outside ∧ w.record.unsettled = false
      (e.low.toInt ≤ v ∧ v ≤ e.high.toInt → new = .inside)
        ∧ (v < e.low.toInt ∨ e.high.toInt < v → new = .outside)
        ∧ (reported → ∃ pairs, .threshold pairs ∈ t.host.events ∧ (w.entry, new) ∈ pairs)
        ∧ (¬ motion → t.host.events
            = if (new = .outside ∧ old ≠ .outside) ∨ (old = .outside ∧ new = .inside)
              then addEvent s.host.events (.threshold [(w.entry, new)]) else s.host.events)
        ∧ (¬ motion → SameBut [.routeWalking, .routeRuntime, .events, .pulse] s t)
        ∧ (motion → t.advisor.lastActivity = s.tick)
        ∧ SameBut [.routeWalking, .routeRuntime, .events, .advisor, .poll, .dockLink, .pulse] s t

/-- Where a FORWARD sends its copy: to the Sample Queue while the host is up, with the gap mark on it and cleared, or lost
with the mark set when the queue holds 48; nowhere while the host sleeps and the entry is not batch allowed (R35,
R36). -/
def Obligations.ForwardGoesByPlatformState : Prop :=
  ∀ (s : State) (w : Traversal) (n : Nat),
    s.ForwardsOnly w n →
    ∃ t, exec .routeVisit s = .next t ∧
      let r := w.record
      let up : Prop := s.advisor.platform = .awake ∨ s.advisor.platform = .advised
      (up → s.sampleCount < 48 →
          t.host.samples
              = s.host.samples
                ++ [{ source := r.source, entry := w.entry, gap := s.intake.gaps.get r.source,
                      unsettled := r.unsettled, timestamp := r.timestamp, values := r.values }]
            ∧ t.intake.gaps = s.intake.gaps.set r.source false
            ∧ SameBut [.routeWalking, .routeRuntime, .samples, .gaps, .pulse] s t)
        ∧ (up → 48 ≤ s.sampleCount →
            t.intake.gaps = s.intake.gaps.set r.source true
              ∧ SameBut [.routeWalking, .routeRuntime, .gaps, .pulse] s t)
        ∧ (¬ up → (s.routeEntry w.entry).batchAllowed = false →
            SameBut [.routeWalking, .routeRuntime, .pulse] s t)
        ∧ (¬ up → (s.routeEntry w.entry).batchAllowed = true →
            SameBut [.routeWalking, .routeRuntime, .gaps, .batch, .poll, .dockLink, .advisor, .events, .pulse] s t)

/-- Where a bank takes a copy offered while the host sleeps: the FILL bank, READY with a BATCH event at its 64th record; a
FREE bank otherwise, A before B; with neither, the older bank is emptied for it under KEEP_NEWEST, or the copy is lost and
the newer bank marked under KEEP_OLDEST (R157, R158). -/
def Obligations.BatchBanksTakeForwardedCopies : Prop :=
  ∀ (s : State) (w : Traversal) (n : Nat) (i : BankId),
    s.ForwardsOnly w n → (s.routeEntry w.entry).batchAllowed = true →
    s.advisor.platform = .asleep ∨ s.advisor.platform = .waking →
    ∃ t, exec .routeVisit s = .next t ∧
      let r := w.record
      let copy : Forwarded :=
        { source := r.source, entry := w.entry, gap := s.intake.gaps.get r.source, unsettled := r.unsettled,
          timestamp := r.timestamp, values := r.values }
      (s.batch.filling = some i → (s.batch.bank i).records.length < 63 →
          t.batch.bank i = { s.batch.bank i with records := (s.batch.bank i).records ++ [copy] }
            ∧ t.intake.gaps = s.intake.gaps.set r.source false)
        ∧ (s.batch.filling = some i → (s.batch.bank i).records.length = 63 →
            t.batch.bank i = { s.batch.bank i with role := .ready, records := (s.batch.bank i).records ++ [copy] }
              ∧ .batch i .ready ∈ t.host.events)
        ∧ (s.batch.filling = none → s.batch.freeOne = some i →
            t.batch.bank i = { role := .fill, records := [copy], gapBefore := false, gapAfter := false }
              ∧ t.batch.order.getLast? = some i)
        ∧ (s.batch.filling = none → s.batch.freeOne = none → s.param .batchOverflow = 1 →
            s.batch.order.head? = some i →
            t.batch.bank i = { role := .fill, records := [copy], gapBefore := true, gapAfter := false }
              ∧ t.batch.order.getLast? = some i)
        ∧ (s.batch.filling = none → s.batch.freeOne = none → s.param .batchOverflow = 0 →
            s.batch.order.getLast? = some i →
            t.batch.bank i = { s.batch.bank i with gapAfter := true }
              ∧ t.intake.gaps = s.intake.gaps
              ∧ t.host.events = addEvent s.host.events (.batch i .overflow))

/-! ## The Angle Engine -/

/-- VECTOR_AGE_DISCARD: a stored vector 65536 ticks old is discarded and nothing is computed. The base's takes the attitude
to NONE; the lid's leaves O and the flat flag; resolved flag, H and Hf16 stay. A discarded input is found absent, and the
next computation that judges it is STALE (R46). -/
def Obligations.AgedVectorsAreDiscarded : Prop :=
  ∀ s : State, ∃ t, exec .vectorAgeDiscard s = .next t ∧
    let aged (v : Option Vector3) : Prop := ∃ x, v = some x ∧ 65536 ≤ (s.tick - x.timestamp).toNat
    (aged s.angle.base → t.angle.base = none ∧ t.angle.attitude = .none ∧ t.hingeOutcome t.angle.base = .error .stale)
      ∧ (¬ aged s.angle.base → t.angle.base = s.angle.base ∧ t.angle.attitude = s.angle.attitude)
      ∧ (aged s.angle.lid → t.angle.lid = none ∧ t.hingeOutcome t.angle.lid = .error .stale)
      ∧ (¬ aged s.angle.lid → t.angle.lid = s.angle.lid)
      ∧ t.angle.o = s.angle.o ∧ t.angle.flat = s.angle.flat
      ∧ t.angle.unresolved = s.angle.unresolved ∧ t.angle.h = s.angle.h ∧ t.angle.filter = s.angle.filter
      ∧ SameBut [.angle, .pulse] s t

/-- A vector turned half round turns the stage's angle half round, whatever quadrant and octant it lies in (R47, R48). -/
def Obligations.ReversedVectorTurnsTheStageHalfway : Prop :=
  ∀ a b : Value, a ≠ 0 → b ≠ 0 → a ≠ 0x8000 → b ≠ 0x8000 → stage (-a) (-b) = stage a b + 2048

/-- What an ANGLE_LID and an ANGLE_BASE feed do to the Angle Engine: the vector is stored, O or the flat flag follows the
flat floor of a lid vector, and the hinge computation judges the other vector's staleness, then the tilt floor, and resolves
H as the difference of the two stages with the filter stepped toward it the short way round; the attitude follows the base
vector. What it hands on: of a lid feed an orientation update, flat or with the new O, to the tracker first, then of every
feed the hinge result, whose attitude and Hf the Posture Classifier holds and classifies while attached; a posture adopted at
once finds the tracker holding the O of the same lid vector. An UNSETTLED record is declined and hands on nothing (R45, R49
to R56, R65, R70 to R72, R80, R81, R84, R85). Where a forced orientation's event stands is the model's choice
(notes/assumptions/19). -/
def Obligations.LidFeedUpdatesTheAngles : Prop :=
  (∀ (s : State) (w : Traversal) (x y z : Value),
      s.Feeds w .angleLid → w.record.values = .three x y z →
      ∃ t, exec .routeVisit s = .next t ∧
        let tilts (v : Vector3) : Prop := s.param .tiltFloor ≤ v.y.toInt.natAbs + v.z.toInt.natAbs
        let lid : Vector3 := { x := x, y := y, z := z, timestamp := w.record.timestamp }
        let flat : Prop := x.toInt.natAbs + y.toInt.natAbs < s.param .flatFloor
        (w.record.unsettled = true → t.angle = s.angle ∧ t.orient = s.orient ∧ t.posture = s.posture)
          ∧ (w.record.unsettled = false →
              (∃ r : OrientBlock,
                  (flat → s.OrientationTaken none r) ∧ (¬ flat → s.OrientationTaken (some (stage x y)) r)
                    ∧ s.HingeTaken t r
                    ∧ (r.current ≠ s.orient.current → t.advisor.lastActivity = s.tick
                        ∧ (t.orient = r → .orientation r.current false .rotated ∈ t.host.events)))
                ∧ t.angle.lid = some lid ∧ t.angle.base = s.angle.base
                ∧ (flat → t.angle.flat = true ∧ t.angle.o = s.angle.o)
                ∧ (¬ flat → t.angle.flat = false ∧ t.angle.o = some (stage x y))
                ∧ (s.angle.base = none → t.angle.unresolved = some .stale ∧ t.angle.attitude = .none)
                ∧ (∀ b, s.angle.base = some b → s.param .staleLimit < (s.tick - b.timestamp).toNat →
                    t.angle.unresolved = some .stale)
                ∧ (∀ b, s.angle.base = some b → (s.tick - b.timestamp).toNat ≤ s.param .staleLimit →
                    ¬ (tilts b ∧ tilts lid) → t.angle.unresolved = some .axis)
                ∧ (∀ b, s.angle.base = some b → (s.tick - b.timestamp).toNat ≤ s.param .staleLimit → tilts b →
                    tilts lid →
                    t.angle.unresolved = none ∧ t.angle.h = stage y z - stage b.y b.z
                      ∧ FilterStepped (s.param .filterShift) t.angle.h s.angle.filter t.angle.filter)
                ∧ (t.angle.unresolved ≠ none → t.angle.h = s.angle.h ∧ t.angle.filter = s.angle.filter)
                ∧ (∀ b, s.angle.base = some b →
                    t.angle.attitude
                      = if (s.param .faceFloor : Int) ≤ b.z.toInt then .faceUp
                        else if b.z.toInt ≤ -(s.param .faceFloor : Int) then .faceDown else .edge)))
    ∧ ∀ (s : State) (w : Traversal) (x y z : Value),
        s.Feeds w .angleBase → w.record.values = .three x y z →
        ∃ t, exec .routeVisit s = .next t ∧
          let tilts (v : Vector3) : Prop := s.param .tiltFloor ≤ v.y.toInt.natAbs + v.z.toInt.natAbs
          let base : Vector3 := { x := x, y := y, z := z, timestamp := w.record.timestamp }
          (w.record.unsettled = true → t.angle = s.angle ∧ t.orient = s.orient ∧ t.posture = s.posture)
            ∧ (w.record.unsettled = false →
                s.HingeTaken t s.orient
                  ∧ t.angle.base = some base ∧ t.angle.lid = s.angle.lid ∧ t.angle.flat = s.angle.flat
                  ∧ t.angle.o = s.angle.o
                  ∧ (s.angle.lid = none → t.angle.unresolved = some .stale)
                  ∧ (∀ l, s.angle.lid = some l → s.param .staleLimit < (s.tick - l.timestamp).toNat →
                      t.angle.unresolved = some .stale)
                  ∧ (∀ l, s.angle.lid = some l → (s.tick - l.timestamp).toNat ≤ s.param .staleLimit →
                      ¬ (tilts base ∧ tilts l) → t.angle.unresolved = some .axis)
                  ∧ (∀ l, s.angle.lid = some l → (s.tick - l.timestamp).toNat ≤ s.param .staleLimit → tilts base →
                      tilts l →
                      t.angle.unresolved = none ∧ t.angle.h = stage l.y l.z - stage y z
                        ∧ FilterStepped (s.param .filterShift) t.angle.h s.angle.filter t.angle.filter)
                  ∧ (t.angle.unresolved ≠ none → t.angle.h = s.angle.h ∧ t.angle.filter = s.angle.filter)
                  ∧ t.angle.attitude
                      = if (s.param .faceFloor : Int) ≤ z.toInt then .faceUp
                        else if z.toInt ≤ -(s.param .faceFloor : Int) then .faceDown else .edge)

/-! ## Posture and orientation -/

/-- POSTURE_DWELL_EXPIRY: a candidate row that the classification still finds first becomes the posture with its row,
is reported, handed to the tracker and the advisor, and counts as activity; a current row that matches again with its
range widened keeps its posture and the candidate is dropped (R71, R73, R74). A timer counts as expired from its
expiry tick on (notes/assumptions/7). -/
def Obligations.PostureDwellExpiryAdoptsTheCandidate : Prop :=
  ∀ s : State,
    s.due s.posture.dwell = true → s.posture.attached = true → s.posture.posture ≠ .unknown →
    ∃ t, exec .postureDwellExpiry s = .next t
      ∧ (∀ row, s.posture.row = some row → s.rowMatches true row = true →
          t.posture = { s.posture with candidate := none, dwell := none } ∧ SameBut [.posture, .pulse] s t)
      ∧ (∀ n, (∀ row, s.posture.row = some row → s.rowMatches true row = false) →
          s.posture.candidate = some n → s.firstMatch = some n → s.rowPosture n ≠ s.posture.posture →
          t.posture
              = { s.posture with posture := s.rowPosture n, row := some n, candidate := none, dwell := none }
            ∧ .posture (s.rowPosture n) s.posture.heldHf (some n) ∈ t.host.events
            ∧ t.orient.posture = s.rowPosture n ∧ t.advisor.heldPosture = s.rowPosture n
            ∧ t.advisor.lastActivity = s.tick)
      ∧ SameBut [.posture, .orient, .poll, .dockLink, .advisor, .events, .pulse] s t

/-- When a row of the Posture Table matches: its plain range, wrapped through the 4095/0 seam when low is above high, or
the range widened by its hysteresis, stopping at the ends unless it is wrapped; the hall condition alone while Hf has no
value; and the attitude and hall conditions, with a level not yet taken failing every hall condition but ANY (R66 to
R69). -/
def Obligations.PostureRowsMatchByTheirConditions : Prop :=
  ∀ (s : State) (widened : Bool) (n : Nat),
    s.rowMatches widened n = true ↔
      let r := s.postureRow n
      let h : Int := if widened then r.hysteresis else 0
      r.enabled = true
        ∧ (s.posture.heldHf = none → r.hall = .closed ∨ r.hall = .folded)
        ∧ (∀ hf, s.posture.heldHf = some hf →
            (r.low ≤ r.high → max 0 ((r.low : Int) - h) ≤ hf.toNat ∧ (hf.toNat : Int) ≤ min 4095 ((r.high : Int) + h))
              ∧ (r.high < r.low → (r.low : Int) - h ≤ hf.toNat ∨ (hf.toNat : Int) ≤ (r.high : Int) + h))
        ∧ (r.attitude = .any ∨ (r.attitude = .faceUp ∧ s.posture.attitude = .faceUp)
            ∨ (r.attitude = .faceDown ∧ s.posture.attitude = .faceDown)
            ∨ (r.attitude = .edge ∧ s.posture.attitude = .edge))
        ∧ (r.hall = .any ∨ (r.hall = .closed ∧ s.posture.hallClosed = some true)
            ∨ (r.hall = .folded ∧ s.posture.hallFolded = some true)
            ∨ (r.hall = .opened ∧ s.posture.hallClosed = some false ∧ s.posture.hallFolded = some false))

/-- A HALL_CLOSED and a HALL_FOLDED feed set their level and classify at once while attached. From UNKNOWN the first matching
row is adopted without dwell, and with none the posture stays UNKNOWN. From another posture a row that still matches keeps it
and clears the candidate, as does the lack of a matching row; a first match naming the present posture takes over as current
row without an event, a standing candidate runs on, and a new row of another posture becomes the candidate with its dwell
started, or with dwell 0 is adopted in the same classification with the effects of R74 (R64, R70 to R74). -/
def Obligations.HallFeedClassifiesAtOnce : Prop :=
  (∀ (s : State) (w : Traversal), s.Feeds w .hallClosed →
      ∃ t, exec .routeVisit s = .next t ∧
        let level := decide (w.record.values.first ≠ 0)
        t.posture.hallClosed = some level ∧ t.posture.hallFolded = s.posture.hallFolded
          ∧ State.Classified { s with posture := { s.posture with hallClosed := some level } } t)
    ∧ ∀ (s : State) (w : Traversal), s.Feeds w .hallFolded →
        ∃ t, exec .routeVisit s = .next t ∧
          let level := decide (w.record.values.first ≠ 0)
          t.posture.hallFolded = some level ∧ t.posture.hallClosed = s.posture.hallClosed
            ∧ State.Classified { s with posture := { s.posture with hallFolded := some level } } t

/-- ROTATION_DWELL_EXPIRY: the candidate becomes the current orientation with an ORIENTATION event, reason ROTATED,
and counts as activity (R82, R87). A timer counts as expired from its expiry tick on (notes/assumptions/7). -/
def Obligations.RotationDwellExpiryAdoptsTheCandidate : Prop :=
  ∀ (s : State) (k : Orientation),
    s.due s.orient.dwell = true → s.orient.candidate = some k →
    ∃ t, exec .rotationDwellExpiry s = .next t
      ∧ t.orient = { s.orient with current := k, candidate := none, dwell := none }
      ∧ .orientation k s.orient.locked .rotated ∈ t.host.events
      ∧ t.advisor.lastActivity = s.tick
      ∧ SameBut [.orient, .poll, .dockLink, .advisor, .events, .pulse] s t

/-- A Rotation Margin of 1 or more keeps the regions apart: no angle lies in region for two orientations, and the distance
is that of the short way round (R79). -/
def Obligations.OrientationRegionsAreDisjoint : Prop :=
  ∀ (s : State) (o : Angle),
    (∀ k : Orientation, ∃ d : Int, -2048 ≤ d ∧ d ≤ 2047 ∧ ((o.toNat : Int) - (k.centre : Int) - d) % 4096 = 0
        ∧ centreDistance o k = d.natAbs
        ∧ (k ∈ s.inRegion o ↔ (d.natAbs : Int) ≤ 512 - (s.param .rotationMargin : Int)))
      ∧ (1 ≤ s.param .rotationMargin → ∀ j k : Orientation, j ∈ s.inRegion o → k ∈ s.inRegion o → j = k)

/-- A posture adopted at its dwell's end takes the screen along: a current orientation outside the new posture's set
is forced to the allowed one nearest the held O, the lower ROT number on a tie, or the first allowed one while O was
never computed; an allowed one, and every one under an empty set, stays (R84, R85). A timer counts as expired from its
expiry tick on (notes/assumptions/7). -/
def Obligations.AdoptedPostureForcesAnAllowedOrientation : Prop :=
  ∀ (s : State) (n : Nat),
    s.due s.posture.dwell = true → s.posture.attached = true → s.posture.posture ≠ .unknown → s.keeps = false →
    s.posture.candidate = some n → s.firstMatch = some n → s.rowPosture n ≠ s.posture.posture →
    ∃ t, exec .postureDwellExpiry s = .next t ∧
      let set := s.orient.table.get (s.rowPosture n)
      (set = 0 ∨ inSet set s.orient.current = true → t.orient.current = s.orient.current)
        ∧ (set ≠ 0 → inSet set s.orient.current = false →
            NearestAllowed set s.orient.heldO t.orient.current
              ∧ .orientation t.orient.current s.orient.locked .forced ∈ t.host.events
              ∧ t.orient.candidate = none ∧ t.orient.dwell = none)

/-- ROTATION_LOCK is answered ACK. Locking clears the candidate and keeps the orientation; unlocking judges the held O
again unless the lid lies flat or O was never computed; a repeated setting changes nothing (R86). The delivery of the
transaction that carried the command is part of it (notes/assumptions/14). -/
def Obligations.RotationLockHoldsTheOrientation : Prop :=
  ∀ (tag : Byte) (on : Bool) (s : State), ∃ t,
    exec (.rotationLock tag on) s = .next t
      ∧ t.host.slot = some { tag := tag, kind := 6, body := .ack }
      ∧ t.orient.locked = on
      ∧ (s.orient.locked = on → t.orient = s.orient)
      ∧ (on = true → s.orient.locked = false →
          t.orient = { s.orient with locked := true, candidate := none, dwell := none })
      ∧ (∀ o q, on = false → s.orient.locked = true → s.orient.heldO = some o → s.orient.heldFlat = false →
          s.qualifying o = some q → q ≠ s.orient.current → inSet s.allowedSet q = true →
          s.orient.candidate = none → 0 < s.param .rotationDwell →
          t.orient
            = { s.orient with
                locked := false, candidate := some q
                dwell := some { start := s.tick, duration := s.param .rotationDwell } })
      ∧ (on = false → s.orient.locked = true → s.orient.heldO = none ∨ s.orient.heldFlat = true →
          t.orient = { s.orient with locked := false })
      ∧ SameBut [.orient, .poll, .dockLink, .advisor, .events, .slot, .pulse] (deliverAny s) t

/-! ## The keyboard dock -/

/-- A key report accepted in ATTACHED joins the Key Queue with its tick, turns the channel's toggle and is activity and, in
ASLEEP, a KEYS wake cause; in SETTLING it is acknowledged and remembered in place of the one before. One with the other
toggle is a duplicate, acknowledged and dropped. All are good exchanges (R93, R98, R107, R108, R153). -/
def Obligations.KeyReportsAreQueuedOnce : Prop :=
  ∀ (s : State) (c : Cycle) (frame : List Byte) (toggle : Bool) (k : KeySet),
    s.dock.cycle = some c → c.discarded = false → c.channel = .keys → s.linked = true →
    judgeReply .keys frame = .data toggle (.keys k) →
    ∃ t, exec (.dockReply frame) s = .next t
      ∧ t.dock.silence = 0 ∧ t.dock.sent.head? = some (ackFrame .keys toggle)
      ∧ (toggle = s.dock.toggles.get .keys → t.dock.toggles = s.dock.toggles.set .keys (!toggle))
      ∧ (toggle = s.dock.toggles.get .keys → s.dock.state = .attached →
          t.dock.keys
              = s.dock.keys ++ [{ pressed := k.pressed, fn := k.fn, synthetic := false, queued := s.tick }]
            ∧ t.dock.lastPressed = decide (k.pressed ≠ []) ∧ t.dock.remembered = s.dock.remembered
            ∧ t.advisor.lastActivity = s.tick
            ∧ (s.advisor.platform = .asleep → s.WakeDecided t .keys)
            ∧ SameBut [.dockKeys, .dockLink, .poll, .advisor, .events, .pulse] s t)
      ∧ (toggle = s.dock.toggles.get .keys → s.dock.state = .settling →
          t.dock.remembered = some k ∧ t.dock.keys = s.dock.keys ∧ t.dock.lastPressed = s.dock.lastPressed
            ∧ SameBut [.dockKeys, .dockLink, .pulse] s t)
      ∧ (toggle ≠ s.dock.toggles.get .keys →
          t.dock.toggles = s.dock.toggles ∧ SameBut [.dockLink, .pulse] s t)

/-- What an accepted message of channels 0 and 2 does. An IDENT in IDENTIFYING takes the dock to SETTLING with the identity
and its baseline as BASE request, the cycle count at 0, which the end of the IDENT's own cycle counts up, no extra draw held,
a GRANT of the resulting total and a CADENCE queued for channel 3, whose exchange takes the GRANT at once where it comes next,
channel 2 running with BASA's settle mark set if the base has the accelerometer, and the settle timer started; with an Attach
Settle of 0 the dock is ATTACHED at once. A POWER sets the extra draw held, up to the identity's limit, and in
ATTACHED requests it. A BUTTON is a release request while the host is up, which where it is refused does nothing, and a wake
cause in ASLEEP. A motion message is a BASA sample through the mount transform, which arrives in its turn, and every channel
2 exchange moves the next due tick on (R2, R8, R14, R17, R90, R92, R93, R97, R101, R102, R110, R153). The order of arrival is
the model's own (notes/assumptions/13). -/
def Obligations.IdentBeginsSettling : Prop :=
  (∀ (s : State) (c : Cycle) (frame : List Byte) (i : Identity),
      s.dock.cycle = some c → c.discarded = false → c.channel = .control → s.dock.state = .identifying →
      judgeReply .control frame = .data (s.dock.toggles.get .control) (.ident i) →
      ∃ t, exec (.dockReply frame) s = .next t
        ∧ t.dock.identity = some i ∧ t.dock.identifyTimer = none ∧ t.supply.requests.base = i.baseline
        ∧ t.dock.motionRunning = i.accelerometer ∧ t.dock.silence = 0
        ∧ t.dock.toggles.get .control = !s.dock.toggles.get .control
        ∧ t.dock.sent.head? = some (ackFrame .control (s.dock.toggles.get .control))
        ∧ t.dock.extraHeld = 0 ∧ t.dock.motionNext = nextPoll (cadencePeriod t.dock.cadence) s.tick
        ∧ (t.dock.cycle = none → t.dock.cycles = 1) ∧ (t.dock.cycle ≠ none → t.dock.cycles = 0)
        ∧ (let total := t.supply.grants.base + t.supply.grants.extra
           let queued : Waiting := { s.dock.waiting with grant := some total, cadence := some t.dock.cadence }
           (s.dock.halted = false → .output ∉ c.rest →
               t.dock.waiting = queued ∧ t.dock.outgoing = s.dock.outgoing)
             ∧ (s.dock.halted = false → c.rest.head? = some .output → s.dock.outgoing = none →
                 s.dock.waiting.lights = none →
                 t.dock.waiting = { queued with grant := none } ∧ t.dock.outgoing = some (.grant total)
                   ∧ t.dock.sent
                      = [ackFrame .control (s.dock.toggles.get .control),
                         outputFrame (s.dock.toggles.get .output) (.grant total)]
                   ∧ ∃ k, t.dock.cycle = some k ∧ k.channel = .output ∧ k.rest = c.rest.tail ∧ k.tick = c.tick)
             ∧ (s.dock.halted = true →
                 t.dock.waiting = s.dock.waiting ∧ t.dock.outgoing = s.dock.outgoing))
        ∧ (0 < s.param .attachSettle →
            t.dock.state = .settling
              ∧ (i.accelerometer = true → t.dock.cadence ≠ 0 → t.settleMark .basa = true)
              ∧ t.dock.settleTimer = some { start := s.tick, duration := s.param .attachSettle }
              ∧ .dock .settling .none (some i) ∈ t.host.events ∧ t.advisor.heldDock = .settling)
        ∧ (s.param .attachSettle = 0 → t.dock.state = .attached ∧ t.posture.posture = .unknown)
        ∧ SameBut [.dockState, .dockKeys, .angle, .posture, .orient, .supply, .pen, .poll, .dockLink, .advisor, .events,
            .pulse] s t)
    ∧ (∀ (s : State) (c : Cycle) (frame : List Byte) (units : Nat),
        s.dock.cycle = some c → c.discarded = false → c.channel = .control → s.linked = true →
        judgeReply .control frame = .data (s.dock.toggles.get .control) (.power units) →
        ∃ t, exec (.dockReply frame) s = .next t ∧ t.dock.silence = 0
          ∧ t.dock.sent.head? = some (ackFrame .control (s.dock.toggles.get .control))
          ∧ (∀ i, s.dock.identity = some i →
              t.dock.extraHeld = min units i.extraLimit
                ∧ (s.dock.state = .attached →
                    t.supply.requests = { s.supply.requests with extra := min units i.extraLimit }))
          ∧ (s.dock.state = .settling → SameBut [.dockState, .dockLink, .pulse] s t)
          ∧ SameBut [.dockState, .dockLink, .supply, .pen, .poll, .advisor, .events, .pulse] s t)
    ∧ (∀ (s : State) (c : Cycle) (frame : List Byte),
        s.dock.cycle = some c → c.discarded = false → c.channel = .control → s.linked = true →
        judgeReply .control frame = .data (s.dock.toggles.get .control) .button →
        ∃ t, exec (.dockReply frame) s = .next t ∧ t.dock.silence = 0 ∧
          let up : Prop := s.advisor.platform = .awake ∨ s.advisor.platform = .advised
          let granted : Prop :=
            s.dock.state = .attached ∧ s.latch.state = .locked ∧ s.param .latchDraw ≤ s.supply.budget
          (up → granted →
              t.latch = { s.latch with state := .preparing, preparation := some { start := s.tick, duration := 32 } }
                ∧ t.supply.requests = { s.supply.requests with latch := s.param .latchDraw }
                ∧ t.advisor.lastActivity = s.tick
                ∧ SameBut [.latch, .supply, .pen, .poll, .dockLink, .advisor, .events, .pulse] s t)
            ∧ (up → ¬ granted → SameBut [.dockLink, .pulse] s t)
            ∧ (s.advisor.platform = .asleep →
                s.WakeDecided t .button ∧ t.advisor.lastActivity = s.advisor.lastActivity
                  ∧ SameBut [.poll, .dockLink, .advisor, .events, .pulse] s t)
            ∧ (s.advisor.platform = .waking → SameBut [.dockLink, .pulse] s t))
    ∧ ∀ (s : State) (c : Cycle) (frame : List Byte) (toggle : Bool) (x y z : Value),
        s.dock.cycle = some c → c.discarded = false → c.channel = .motion →
        judgeReply .motion frame = .data toggle (.motion x y z) →
        ∃ t, exec (.dockReply frame) s = .next t ∧ t.dock.silence = 0
          ∧ t.dock.sent.head? = some (ackFrame .motion toggle)
          ∧ t.dock.motionNext = nextPoll (cadencePeriod s.dock.cadence) c.tick
          ∧ (toggle = s.dock.toggles.get .motion →
              let own : Sample :=
                { source := .basa, timestamp := s.tick, unsettled := s.settleMark .basa && c.afterMark
                  values := mountTransform (s.param .baseMount) x y z }
              t.dock.toggles = s.dock.toggles.set .motion (!toggle)
                ∧ ((∀ k ∈ s.poll.coming, k.source = .basa → k.values ≠ none) →
                    t.poll.coming = s.poll.coming ∧ s.Receives [own] t)
                ∧ (∀ ahead place behind,
                    s.poll.coming = ahead ++ place :: behind → place.source = .basa → place.values = none → s.ComingOnce →
                    t.poll.coming = behind.dropWhile (fun k => k.values.isSome)
                      ∧ s.Receives
                          (ahead.filterMap s.landing
                            ++ own :: (behind.takeWhile (fun k => k.values.isSome)).filterMap s.landing) t))
          ∧ (toggle ≠ s.dock.toggles.get .motion →
              t.dock.toggles = s.dock.toggles ∧ SameBut [.dockLink, .pulse] s t)
          ∧ SameBut [.fifo, .gaps, .poll, .dockLink, .pulse] s t

/-- REPLY_TIMEOUT and BYTE_TIMEOUT add one to the Silence Count. Below Silence Limit the dock stays; at the limit it
goes to DETACHED with reason SILENCE, or RELEASE when a release was in progress, and the base's draw, identity and
posture go with it. On channel 3 an ACK delivers the pending message and turns the send toggle, a NAK and a failure keep
message and toggle, and a STALL halts the channel, its messages dropped, with the Silence Count as it was (R89, R94, R98,
R104, R105, R112). What becomes of the exchange on the wire, and when the loss is reported, follow notes/assumptions/18
and 21. -/
def Obligations.SilentExchangesLeadToDetached : Prop :=
  (∀ (s : State) (c : Cycle) (command : Instr),
      command = .replyTimeout ∨ command = .byteTimeout → s.dock.cycle = some c → c.discarded = false →
      ∃ t, exec command s = .next t
        ∧ (s.dock.silence + 1 < s.param .silenceLimit →
            t.dock.silence = s.dock.silence + 1 ∧ SameBut [.dockLink, .pulse] s t)
        ∧ (s.param .silenceLimit ≤ s.dock.silence + 1 → s.linkActive = true →
            t.dock.state = .detached ∧ t.dock.identity = none ∧ t.latch.state = .locked
              ∧ .dock .detached (if s.latch.state = .locked then .silence else .release) none ∈ t.host.events
              ∧ (s.latch.state ≠ .locked → .latch .released ∈ t.host.events)
              ∧ (s.linked = true → t.supply.requests.base = 0 ∧ t.supply.requests.extra = 0 ∧ t.angle.base = none)
              ∧ (s.dock.state = .attached → t.posture.posture = .slate ∧ t.posture.attached = false)
              ∧ t.advisor.lastActivity = s.tick)
        ∧ SameBut [.dockState, .dockKeys, .gaps, .angle, .posture, .orient, .latch, .supply, .pen, .poll, .dockLink,
            .advisor, .events, .pulse] s t)
    ∧ ∀ (s : State) (c : Cycle) (frame : List Byte),
        s.dock.cycle = some c → c.discarded = false → c.channel = .output → .output ∉ c.rest →
        ∃ t, exec (.dockReply frame) s = .next t
          ∧ (judgeReply .output frame = .ack →
              t.dock.outgoing = none ∧ t.dock.waiting = s.dock.waiting ∧ t.dock.silence = 0
                ∧ t.dock.toggles = s.dock.toggles.set .output (!s.dock.toggles.get .output)
                ∧ SameBut [.dockLink, .pulse] s t)
          ∧ (judgeReply .output frame = .nak →
              t.dock.outgoing = s.dock.outgoing ∧ t.dock.waiting = s.dock.waiting ∧ t.dock.silence = 0
                ∧ t.dock.toggles = s.dock.toggles ∧ SameBut [.dockLink, .pulse] s t)
          ∧ (judgeReply .output frame = .stall →
              t.dock.halted = true ∧ t.dock.outgoing = none ∧ t.dock.waiting = waitingEmpty
                ∧ t.dock.silence = s.dock.silence ∧ t.dock.toggles = s.dock.toggles ∧ SameBut [.dockLink, .pulse] s t)
          ∧ (judgeReply .output frame = .failure → s.dock.silence + 1 < s.param .silenceLimit →
              t.dock.outgoing = s.dock.outgoing ∧ t.dock.waiting = s.dock.waiting
                ∧ t.dock.silence = s.dock.silence + 1 ∧ t.dock.toggles = s.dock.toggles
                ∧ SameBut [.dockLink, .pulse] s t)

/-- A STALL on channel 0 in IDENTIFYING is a failed attempt: a new pulse while fewer than three have been made, else
DOCK_FAULT. A STALL on channel 0, 1 or 2 in SETTLING or ATTACHED resets the base up to three times and then faults the dock.
Either ends the cycle: no further exchange of it begins. The departure drops the base's requests, its vector and the waiting output, marks BASA's gap, ends a release as
CANCELLED, releases a held key and returns the posture to SLATE (R93, R101, R104, R106, R109). What becomes of the exchange
on the wire follows notes/assumptions/21. -/
def Obligations.StallsReattachOrFault : Prop :=
  (∀ (s : State) (c : Cycle) (frame : List Byte),
      s.dock.cycle = some c → c.discarded = false → c.channel ≠ .output → judgeReply c.channel frame = .stall →
      s.linked = true →
      ∃ t, exec (.dockReply frame) s = .next t
        ∧ (s.dock.reattaches < 3 →
            t.dock.state = .resetting ∧ t.dock.reattaches = s.dock.reattaches + 1 ∧ t.dock.attempts = 1
              ∧ .dock .resetting .stall s.dock.identity ∈ t.host.events)
        ∧ (3 ≤ s.dock.reattaches →
            t.dock.state = .dockFault ∧ .dock .dockFault .stall s.dock.identity ∈ t.host.events)
        ∧ t.supply.requests.base = 0 ∧ t.supply.requests.extra = 0 ∧ t.latch.state = .locked
        ∧ (s.latch.state ≠ .locked → t.supply.requests.latch = 0 ∧ .latch .cancelled ∈ t.host.events)
        ∧ t.dock.cycle = none ∧ t.dock.sent = [] ∧ t.dock.silence = s.dock.silence
        ∧ t.angle.base = none ∧ t.angle.attitude = .none
        ∧ t.intake.gaps = s.intake.gaps.set .basa true
        ∧ t.dock.motionRunning = false ∧ t.dock.outgoing = none ∧ t.dock.waiting = waitingEmpty
        ∧ (s.dock.state = .settling → t.dock.keys = s.dock.keys ∧ t.posture = s.posture)
        ∧ (s.dock.state = .attached →
            t.posture.posture = .slate ∧ t.posture.attached = false
              ∧ t.dock.keys
                  = if s.dock.lastPressed
                    then s.dock.keys ++ [{ pressed := [], fn := false, synthetic := true, queued := s.tick }]
                    else s.dock.keys)
        ∧ SameBut [.dockState, .dockKeys, .gaps, .angle, .posture, .orient, .latch, .supply, .pen, .poll, .dockLink, .advisor,
            .events, .pulse] s t)
    ∧ ∀ (s : State) (c : Cycle) (frame : List Byte),
        s.dock.cycle = some c → c.discarded = false → c.channel = .control → judgeReply .control frame = .stall →
        s.dock.state = .identifying →
        ∃ t, exec (.dockReply frame) s = .next t
          ∧ (s.dock.attempts < 3 →
              t.dock.state = .resetting ∧ t.dock.attempts = s.dock.attempts + 1
                ∧ .dock .resetting .noIdent s.dock.identity ∈ t.host.events)
          ∧ (3 ≤ s.dock.attempts →
              t.dock.state = .dockFault ∧ .dock .dockFault .noIdent s.dock.identity ∈ t.host.events)
          ∧ t.dock.identifyTimer = none ∧ t.dock.cycle = none ∧ t.dock.sent = [] ∧ t.dock.silence = s.dock.silence
          ∧ SameBut [.dockState, .dockLink, .poll, .advisor, .events, .pulse] s t

/-- How an attachment begins, identifies and loses its sense: DOCK_SENSE of 1 in DETACHED starts the first reset pulse; its
end opens IDENTIFYING with toggles, Silence Count and halt reset and 100 ticks to identify; the timer's expiry drives a new
pulse or, after the third attempt, faults the dock. DOCK_SENSE of 0 in any other state than DETACHED takes the dock there
with reason SENSE, or RELEASE when a release was in progress, an exchange on the wire finished without effect and the base's
draw, vector and posture gone; elsewhere a feed does nothing (R100, R101, R104, R105, R112). A timer counts as expired from
its expiry tick on (notes/assumptions/7); the order of the loss follows notes/assumptions/18 and 21. -/
def Obligations.AttachmentsBeginWithAResetPulse : Prop :=
  (∀ (s : State) (w : Traversal),
      s.Feeds w .dockSense →
      ∃ t, exec .routeVisit s = .next t
        ∧ (w.record.values.first ≠ 0 → s.dock.state = .detached →
            t.dock.state = .resetting ∧ t.dock.attempts = 1 ∧ t.dock.reattaches = 0 ∧ t.advisor.heldDock = .resetting
              ∧ .dock .resetting .sense s.dock.identity ∈ t.host.events)
        ∧ (w.record.values.first = 0 → s.dock.state ≠ .detached →
            t.dock.state = .detached ∧ t.dock.identity = none ∧ t.latch.state = .locked
              ∧ t.advisor.heldDock = .detached
              ∧ .dock .detached (if s.latch.state = .locked then .sense else .release) none ∈ t.host.events
              ∧ (s.latch.state ≠ .locked → .latch .released ∈ t.host.events ∧ t.supply.requests.latch = 0)
              ∧ t.dock.cycle.map (fun c => (c.tick, c.channel, c.rest, c.discarded))
                  = s.dock.cycle.map (fun c => (c.tick, c.channel, c.rest, true))
              ∧ (s.linked = true →
                  t.supply.requests.base = 0 ∧ t.supply.requests.extra = 0 ∧ t.angle.base = none
                    ∧ t.angle.attitude = .none ∧ t.dock.motionRunning = false ∧ t.dock.outgoing = none
                    ∧ t.dock.waiting = waitingEmpty)
              ∧ (s.dock.state = .settling → t.dock.keys = s.dock.keys)
              ∧ (s.dock.state = .attached →
                  t.posture.posture = .slate ∧ t.posture.attached = false
                    ∧ t.dock.keys
                        = if s.dock.lastPressed
                          then s.dock.keys ++ [{ pressed := [], fn := false, synthetic := true, queued := s.tick }]
                          else s.dock.keys)
              ∧ t.advisor.lastActivity = s.tick)
        ∧ ((w.record.values.first ≠ 0 ↔ s.dock.state ≠ .detached) →
            Block.dockState.same s t ∧ Block.dockKeys.same s t ∧ t.latch = s.latch ∧ t.angle = s.angle
              ∧ t.posture = s.posture ∧ t.supply = s.supply))
    ∧ (∀ s : State, s.dock.state = .resetting →
        ∃ t, exec .resetPulseEnd s = .next t
          ∧ t.dock.state = .identifying
          ∧ t.dock.toggles = PerChannel.all false ∧ t.dock.silence = 0 ∧ t.dock.halted = false
          ∧ t.dock.remembered = none
          ∧ t.dock.identifyTimer = some { start := s.tick, duration := 100 }
          ∧ .dock .identifying .none s.dock.identity ∈ t.host.events
          ∧ SameBut [.dockState, .dockKeys, .dockLink, .poll, .advisor, .events, .pulse] s t)
    ∧ ∀ s : State, s.due s.dock.identifyTimer = true → s.dock.state = .identifying →
        ∃ t, exec .identifyTimerExpiry s = .next t
          ∧ t.dock.identifyTimer = none
          ∧ (s.dock.attempts < 3 →
              t.dock.state = .resetting ∧ t.dock.attempts = s.dock.attempts + 1
                ∧ .dock .resetting .noIdent s.dock.identity ∈ t.host.events)
          ∧ (3 ≤ s.dock.attempts →
              t.dock.state = .dockFault ∧ .dock .dockFault .noIdent s.dock.identity ∈ t.host.events)
          ∧ SameBut [.dockState, .dockLink, .poll, .advisor, .events, .pulse] s t

/-- SETTLE_TIMER_EXPIRY: the dock enters ATTACHED. Hf16 loses its value, the posture becomes UNKNOWN, a key held in
the settle report is queued, the held extra draw is requested, and the entry counts as activity (R57, R63, R103,
R108). A timer counts as expired from its expiry tick on (notes/assumptions/7). -/
def Obligations.SettleTimerExpiryAttaches : Prop :=
  ∀ s : State, s.due s.dock.settleTimer = true → s.dock.state = .settling →
    ∃ t, exec .settleTimerExpiry s = .next t
      ∧ t.dock.state = .attached ∧ t.dock.settleTimer = none
      ∧ .dock .attached .none s.dock.identity ∈ t.host.events
      ∧ t.angle = { s.angle with filter := none }
      ∧ t.posture
          = { s.posture with
              posture := .unknown, row := none, candidate := none, dwell := none, heldHf := none, attached := true }
      ∧ .posture .unknown none none ∈ t.host.events
      ∧ t.dock.remembered = none
      ∧ (∀ k, s.dock.remembered = some k → k.pressed ≠ [] →
          t.dock.keys
            = s.dock.keys ++ [{ pressed := k.pressed, fn := k.fn, synthetic := false, queued := s.tick }])
      ∧ ((∀ k, s.dock.remembered = some k → k.pressed = []) → t.dock.keys = s.dock.keys)
      ∧ t.supply.requests = { s.supply.requests with extra := s.dock.extraHeld }
      ∧ t.advisor.heldDock = .attached ∧ t.advisor.lastActivity = s.tick
      ∧ SameBut [.dockState, .dockKeys, .angle, .posture, .orient, .supply, .pen, .poll, .dockLink, .advisor, .events,
          .pulse] s t

/-- DETACH is refused unless the dock is ATTACHED, the latch LOCKED and the budget covers Latch Draw, in that order,
and a refusal changes nothing; accepted, the latch prepares for 32 ticks with its request placed, and it is activity
(R110). The delivery of the transaction that carried the command is part of it (notes/assumptions/14). -/
def Obligations.DetachRequestsARelease : Prop :=
  ∀ (tag : Byte) (s : State), ∃ t, exec (.detach tag) s = .next t ∧
    let answers (body : ResponseBody) : Prop := t.host.slot = some { tag := tag, kind := 9, body := body }
    let onlyAnswers : Prop := SameBut [.slot, .pulse] (deliverAny s) t
    (s.dock.state ≠ .attached → answers (.refused .badState) ∧ onlyAnswers)
      ∧ (s.dock.state = .attached → s.latch.state ≠ .locked → answers (.refused .busy) ∧ onlyAnswers)
      ∧ (s.dock.state = .attached → s.latch.state = .locked → s.supply.budget < s.param .latchDraw →
          answers (.refused .noBudget) ∧ onlyAnswers)
      ∧ (s.dock.state = .attached → s.latch.state = .locked → s.param .latchDraw ≤ s.supply.budget →
          answers .ack
            ∧ t.latch
                = { s.latch with state := .preparing, preparation := some { start := s.tick, duration := 32 } }
            ∧ t.supply.requests = { s.supply.requests with latch := s.param .latchDraw }
            ∧ t.advisor.latchLocked = false ∧ t.advisor.lastActivity = s.tick
            ∧ SameBut [.latch, .supply, .pen, .poll, .dockLink, .advisor, .events, .slot, .pulse] (deliverAny s) t)

/-- PREPARATION_TIMER_EXPIRY energises the coil: the latch is OPEN with its window timer running, whatever grant it has,
and nothing else changes. The coil is energised in OPEN only, so each end of a release and both resets turn it off
(R111). -/
def Obligations.PreparationTimerOpensTheLatch : Prop :=
  (∀ (s : State) (d : Nat), s.latch.preparation = some { start := s.tick - BitVec.ofNat 32 d, duration := d } →
      d < 4294967296 → s.latch.state = .preparing →
      exec .preparationTimerExpiry s
        = .next
            ({ s with
               latch :=
                 { state := .opened, preparation := none
                   window := some { start := s.tick, duration := s.param .releaseWindow } } } : State).lineKept)
    ∧ (∀ s : State, s.latchCoil = true ↔ s.latch.state = .opened)
    ∧ (∀ (outcome : LatchOutcome) (s : State), (endRelease outcome s).latchCoil = false)
    ∧ ∀ (now : Tick) (why : StartReason), (State.afterReset now why).latchCoil = false

/-- The ends of a release that leave the base attached: RELEASE_WINDOW_EXPIRY in OPEN is TIMED_OUT, DETACH_CANCEL is
CANCELLED and answered ACK, also with the latch LOCKED, when it does nothing more. Each end locks the latch, stops its
timers, withdraws its request and raises LATCH (R112). A timer counts as expired from its expiry tick on
(notes/assumptions/7); the delivery of the transaction that carried DETACH_CANCEL is part of it (notes/assumptions/14). -/
def Obligations.ReleasesEndWithTheirOutcome : Prop :=
  (∀ s : State, s.due s.latch.window = true → s.latch.state = .opened →
      ∃ t, exec .releaseWindowExpiry s = .next t
        ∧ t.latch = { state := .locked, preparation := none, window := none }
        ∧ t.supply.requests = { s.supply.requests with latch := 0 }
        ∧ .latch .timedOut ∈ t.host.events ∧ t.advisor.latchLocked = true
        ∧ SameBut [.latch, .supply, .pen, .poll, .dockLink, .advisor, .events, .pulse] s t)
    ∧ ∀ (tag : Byte) (s : State), ∃ t, exec (.detachCancel tag) s = .next t
        ∧ t.host.slot = some { tag := tag, kind := 10, body := .ack }
        ∧ (s.latch.state ≠ .locked →
            t.latch = { state := .locked, preparation := none, window := none }
              ∧ t.supply.requests = { s.supply.requests with latch := 0 }
              ∧ .latch .cancelled ∈ t.host.events ∧ t.advisor.latchLocked = true)
        ∧ (s.latch.state = .locked → SameBut [.slot, .pulse] (deliverAny s) t)
        ∧ SameBut [.latch, .supply, .pen, .poll, .dockLink, .advisor, .events, .slot, .pulse] (deliverAny s) t

/-! ## Pen charging and the supply budget -/

/-- What the pen's feeds do. A PEN_PRESENCE of 1 in ABSENT starts with a clean fault record and the request for i0, then
charges or pauses as the gates say; a 0 takes the pen to ABSENT with the coil off and the request withdrawn. A
CHARGE_CURRENT is stored and opens a closed MONITOR gate, a CHARGE_CELL is taken while CHARGING and after a rest may top off
at once, a CHARGE_TEMP above OT Limit while CHARGING is an OVERTEMP fault; an UNSETTLED record is declined by these three
(R117 to R119, R126, R127, R132). Whether the removal's event carries the old count or 0 is open, and the removal is stated
for both (notes/assumptions/4). -/
def Obligations.PresenceFeedsInsertAndRemoveThePen : Prop :=
  (∀ (s : State) (w : Traversal),
      s.Feeds w .penPresence →
      ∃ t, exec .routeVisit s = .next t
        ∧ (w.record.values.first ≠ 0 → s.pen.state = .absent →
            t.pen.faults = 0 ∧ t.pen.faultRecord = none ∧ t.pen.used = 0 ∧ t.pen.laterSet = false
              ∧ t.supply.requests.pen = penUnits s.firstCurrent
              ∧ (t.leadingGate = none → t.pen.state = .charging ∧ .pen .charging .inserted 0 ∈ t.host.events
                  ∧ t.pen.goodRun = some { start := s.tick, duration := 2048 })
              ∧ (∀ g, t.leadingGate = some g → t.pen.state = .paused ∧ t.pen.leading = some g
                  ∧ .pen .paused (.gate g) 0 ∈ t.host.events)
              ∧ t.advisor.penPresent = true ∧ t.advisor.lastActivity = s.tick)
        ∧ (s.CoilGuarded → w.record.values.first = 0 → s.pen.state ≠ .absent →
            t.pen.state = .absent ∧ t.pen.duty = 0 ∧ t.pen.target = 0 ∧ t.pen.faults = 0 ∧ t.pen.faultRecord = none
              ∧ t.pen.retryTimer = none ∧ t.pen.restTimer = none ∧ t.supply.requests.pen = 0
              ∧ (∃ c, (c = 0 ∨ c = s.pen.faults) ∧ .pen .absent .removed c ∈ t.host.events)
              ∧ t.advisor.penPresent = false ∧ t.advisor.lastActivity = s.tick)
        ∧ ((w.record.values.first ≠ 0 ↔ s.pen.state ≠ .absent) → t.pen = s.pen))
    ∧ (∀ (s : State) (w : Traversal),
        s.Feeds w .chargeCurrent →
        ∃ t, exec .routeVisit s = .next t ∧
          let fed : PenBlock :=
            { s.pen with current := some { value := w.record.values.first, timestamp := w.record.timestamp } }
          t.supply = s.supply
            ∧ (w.record.unsettled = true → t.pen = s.pen)
            ∧ (w.record.unsettled = false → t.pen.current = fed.current ∧ t.pen.monitorClosed = false)
            ∧ (w.record.unsettled = false → s.pen.monitorClosed = false → t.pen = fed)
            ∧ (w.record.unsettled = false → s.pen.monitorClosed = true → s.pen.state = .paused →
                (s.gateClosed .inhibit = false → s.gateClosed .budget = false → s.gateClosed .sleep = false →
                    t.pen.state = .charging ∧ .pen .charging .resumed s.pen.faults ∈ t.host.events)
                  ∧ (∀ g, t.leadingGate = some g → t.pen.state = .paused ∧ t.pen.leading = some g)))
    ∧ (∀ (s : State) (w : Traversal),
        s.Feeds w .chargeCell →
        ∃ t, exec .routeVisit s = .next t ∧
          let v := w.record.values.first
          let full : Prop := s.pen.restCheck = true ∧ (s.param .fullVoltage : Int) ≤ v.toInt
          (w.record.unsettled = true ∨ s.pen.state ≠ .charging → t.pen = s.pen ∧ t.supply = s.supply)
            ∧ (w.record.unsettled = false → s.pen.state = .charging → ¬ full →
                t.pen = { s.pen with cell := some v, restCheck := false } ∧ t.supply = s.supply)
            ∧ (w.record.unsettled = false → s.pen.state = .charging → full → s.TopsOff t ∧ t.pen.restCheck = false))
    ∧ ∀ (s : State) (w : Traversal),
        s.Feeds w .chargeTemp →
        ∃ t, exec .routeVisit s = .next t ∧
          let v := w.record.values.first
          let hot : Prop := s.pen.state = .charging ∧ (s.param .otLimit : Int) < v.toInt
          (w.record.unsettled = true → t.pen = s.pen ∧ t.supply = s.supply)
            ∧ (w.record.unsettled = false → t.pen.temperature = some v)
            ∧ (w.record.unsettled = false → ¬ hot →
                t.pen = { s.pen with temperature := some v } ∧ t.supply = s.supply)
            ∧ (w.record.unsettled = false → hot → s.FaultTaken .overtemp t)

/-- The three pen timers, and which gate leads. The retry wait starts again for a coil still hot after OVERTEMP and otherwise
leads to the gates; the end of a rest sets the rest check and leads to the gates with the request for i0; the good-run timer
forgives the faults counted, without an event. The leading gate is the first closed one of INHIBIT, BUDGET, SLEEP and MONITOR
(R120, R128, R129, R132). A timer counts as expired from its expiry tick on (notes/assumptions/7). -/
def Obligations.PenTimersLeadBackToTheGates : Prop :=
  (∀ s : State, s.due s.pen.retryTimer = true → s.pen.state = .retryWait →
      ∃ t, exec .retryWaitExpiry s = .next t ∧
        let hot : Prop :=
          s.pen.faultRecord = some .overtemp
            ∧ ∃ v, s.pen.temperature = some v ∧ (s.param .otLimit : Int) - 50 ≤ v.toInt
        (hot → t.pen = { s.pen with retryTimer := some { start := s.tick, duration := s.param .retryWait } }
            ∧ SameBut [.pen, .pulse] s t)
          ∧ (¬ hot → s.leadingGate = none →
              t.pen.state = .charging ∧ t.pen.duty = 0 ∧ t.pen.target = 0
                ∧ t.pen.goodRun = some { start := s.tick, duration := 2048 }
                ∧ .pen .charging .retried s.pen.faults ∈ t.host.events)
          ∧ (¬ hot → ∀ g, s.leadingGate = some g →
              t.pen.state = .paused ∧ t.pen.leading = some g ∧ .pen .paused (.gate g) s.pen.faults ∈ t.host.events)
          ∧ t.supply = s.supply ∧ t.pen.faults = s.pen.faults
          ∧ SameBut [.pen, .poll, .dockLink, .advisor, .events, .pulse] s t)
    ∧ (∀ s : State, s.due s.pen.restTimer = true → s.pen.state = .topped →
        ∃ t, exec .restTimerExpiry s = .next t
          ∧ t.pen.restCheck = true ∧ t.pen.restTimer = none
          ∧ t.supply.requests = { s.supply.requests with pen := penUnits s.firstCurrent }
          ∧ (t.leadingGate = none → t.pen.state = .charging ∧ .pen .charging .rested s.pen.faults ∈ t.host.events)
          ∧ (∀ g, t.leadingGate = some g →
              t.pen.state = .paused ∧ t.pen.leading = some g ∧ .pen .paused (.gate g) s.pen.faults ∈ t.host.events)
          ∧ SameBut [.supply, .pen, .poll, .dockLink, .advisor, .events, .pulse] s t)
    ∧ (∀ s : State, s.due s.pen.goodRun = true →
        exec .goodRunTimerExpiry s
          = .next
              ({ s with pen := { s.pen with faults := 0, laterSet := false, used := 0, goodRun := none } } :
                State).lineKept)
    ∧ ∀ s : State,
        let inhibit : Prop := s.pen.inhibit = true
        let budget : Prop := s.supply.grants.pen < 5
        let sleep : Prop :=
          (s.advisor.platform = .asleep ∨ s.advisor.platform = .waking) ∧ s.param .chargeInSleep = 0
        let monitor : Prop := s.pen.monitorClosed = true
        (s.leadingGate = some .inhibit ↔ inhibit)
          ∧ (s.leadingGate = some .budget ↔ ¬ inhibit ∧ budget)
          ∧ (s.leadingGate = some .sleep ↔ ¬ inhibit ∧ ¬ budget ∧ sleep)
          ∧ (s.leadingGate = some .monitor ↔ ¬ inhibit ∧ ¬ budget ∧ ¬ sleep ∧ monitor)
          ∧ (s.leadingGate = none ↔ ¬ inhibit ∧ ¬ budget ∧ ¬ sleep ∧ ¬ monitor)

/-- CLEAR_FAULT and CHARGE_INHIBIT are answered ACK. The first takes a LATCHED pen back to the gates with its faults
forgiven and does nothing in another state; the second pauses a CHARGING pen at once, and its clearing resumes a
PAUSED pen whose other gates are open (R120, R130). The delivery of the transaction that carried the command is part
of it (notes/assumptions/14). -/
def Obligations.HostClearsAndInhibitsThePen : Prop :=
  (∀ (tag : Byte) (s : State), ∃ t, exec (.clearFault tag) s = .next t
      ∧ t.host.slot = some { tag := tag, kind := 8, body := .ack }
      ∧ (s.pen.state ≠ .latched → SameBut [.slot, .pulse] (deliverAny s) t)
      ∧ (s.pen.state = .latched →
          t.pen.faults = 0 ∧ t.pen.laterSet = false ∧ t.pen.used = 0 ∧ t.pen.faultRecord = none
            ∧ t.supply.requests = { s.supply.requests with pen := penUnits s.firstCurrent }
            ∧ (t.leadingGate = none → t.pen.state = .charging ∧ .pen .charging .cleared 0 ∈ t.host.events)
            ∧ (∀ g, t.leadingGate = some g → t.pen.state = .paused ∧ .pen .paused (.gate g) 0 ∈ t.host.events))
      ∧ SameBut [.supply, .pen, .poll, .dockLink, .advisor, .events, .slot, .pulse] (deliverAny s) t)
    ∧ ∀ (tag : Byte) (on : Bool) (s : State), ∃ t, exec (.chargeInhibit tag on) s = .next t
        ∧ t.host.slot = some { tag := tag, kind := 7, body := .ack }
        ∧ t.pen.inhibit = on
        ∧ (s.pen.inhibit = on → SameBut [.slot, .pulse] (deliverAny s) t)
        ∧ (on = true → s.pen.inhibit = false → s.pen.state = .charging → s.PausesAt .inhibit t)
        ∧ (on = false → s.pen.inhibit = true → s.pen.state = .paused → s.gateClosed .budget = false →
            s.gateClosed .sleep = false → s.gateClosed .monitor = false →
            t.pen.state = .charging ∧ .pen .charging .resumed s.pen.faults ∈ t.host.events)
        ∧ SameBut [.pen, .poll, .dockLink, .advisor, .events, .slot, .pulse] (deliverAny s) t

/-- An allocation serves LATCH, BASE, PEN and EXTRA in that order, each with the lesser of its request and what remains: no
grant above its request, their sum within the budget, the lowest consumer cut first. It changes no request and not the
budget, and hands its result on. The grants take their new values. A changed set of grants is a BUDGET event with all four, in
the place of one pending. A changed PEN grant re-reads the gates: a PAUSED pen charges again when no gate is closed, or
reports a new leading gate; a CHARGING pen goes on till its control period, the other states stay. A changed sum of BASE and
EXTRA is a GRANT waiting for channel 3, discarded without a link or with the channel halted. The entry to SETTLING queues the
resulting sum whether it changed or not, and a departure leaves channel 3 empty (R139, R140). -/
def Obligations.AllocationServesInPriorityOrder : Prop :=
  (∀ (b : Nat) (r : Shares), ∃ g, divideBudget b r = g
      ∧ g.latch = min r.latch b ∧ g.base = min r.base (b - g.latch) ∧ g.pen = min r.pen (b - g.latch - g.base)
      ∧ g.extra = min r.extra (b - g.latch - g.base - g.pen)
      ∧ g.latch + g.base + g.pen + g.extra ≤ b
      ∧ (r.latch + r.base + r.pen + r.extra ≤ b → g = r)
      ∧ (g.latch < r.latch → g.base = 0 ∧ g.pen = 0 ∧ g.extra = 0)
      ∧ (g.base < r.base → g.pen = 0 ∧ g.extra = 0) ∧ (g.pen < r.pen → g.extra = 0))
    ∧ (∀ s : State, ∃ t, allocate s = t ∧
        let old := s.supply.grants
        let new := divideBudget s.supply.budget s.supply.requests
        t.supply = { s.supply with grants := new }
          ∧ (new = old → t = s)
          ∧ (new ≠ old →
              .budget new ∈ t.host.events ∧ eventKinds s.host.events <+: eventKinds t.host.events
                ∧ (s.OneEntryPerKind → ∀ g, .budget g ∈ t.host.events → g = new))
          ∧ (new.pen = old.pen → t.pen = s.pen)
          ∧ (new.pen ≠ old.pen →
              (s.pen.state = .paused → t.leadingGate = none →
                  t.pen.state = .charging ∧ t.pen.duty = 0 ∧ .pen .charging .resumed s.pen.faults ∈ t.host.events)
                ∧ (∀ g, s.pen.state = .paused → t.leadingGate = some g →
                    t.pen = { s.pen with leading := some g }
                      ∧ (s.pen.leading ≠ some g → .pen .paused (.gate g) s.pen.faults ∈ t.host.events))
                ∧ (s.pen.state = .charging → s.gateClosed .inhibit = false → s.gateClosed .sleep = false → t.pen = s.pen)
                ∧ (s.pen.state ≠ .paused → s.pen.state ≠ .charging → t.pen = s.pen))
          ∧ (new.base + new.extra ≠ old.base + old.extra → s.linked = true → s.dock.halted = false →
              t.dock.waiting.grant = some (new.base + new.extra) ∧ t.dock.waiting.lights = s.dock.waiting.lights)
          ∧ (new.base + new.extra = old.base + old.extra → t.dock.waiting.grant = s.dock.waiting.grant)
          ∧ (s.linked = false ∨ s.dock.halted = true → t.dock.waiting = s.dock.waiting)
          ∧ SameBut [.supply, .pen, .poll, .dockLink, .advisor, .events] s t)
    ∧ (∀ (i : Identity) (s : State), s.dock.halted = false →
        (enterSettling i s).dock.waiting.grant
          = some ((enterSettling i s).supply.grants.base + (enterSettling i s).supply.grants.extra))
    ∧ ∀ (dest : DockState) (why : DockReason) (s : State),
        dest = .detached ∨ dest = .resetting ∨ dest = .dockFault →
        (depart dest why s).dock.waiting = waitingEmpty ∧ (depart dest why s).dock.outgoing = none

/-! ## Sleep advice and platform state -/

/-- Advice and wake. The inactivity timer's expiry evaluates the SLEEP rows, re-armed where their conditions fail: the first
armed row whose conditions hold and whose inactivity is met gives advice. With no such row the inactivity timer is set for the
earliest tick at which an armed row whose conditions hold is ready, or stopped. The advice timer's expiry in ADVISED is TIMED_OUT
and returns to AWAKE, and with no other row to advise the row stays disarmed. In ASLEEP a wake cause is decided by the first
WAKE row that accepts it, shown for every cause and for the motion of an ACTIVITY feed, which is activity in every state; an
UNSETTLED record is declined (R30, R147, R148, R150 to R153). A timer counts as expired from its expiry tick on
(notes/assumptions/7). -/
def Obligations.AdviceIsGivenAndTimesOut : Prop :=
  (∀ s : State, s.due s.advisor.idleTimer = true → s.advisor.platform = .awake →
      ∃ t, exec .inactivityTimerExpiry s = .next t
        ∧ (∀ n, s.Ready n → (∀ m, m < n → ¬ s.Ready m) →
            t.advisor.platform = .advised ∧ t.advisor.advising = some n ∧ t.armedAt n = false
              ∧ t.advisor.idleTimer = none
              ∧ t.advisor.adviceTimer = some { start := s.tick, duration := s.param .sleepAnswerTime }
              ∧ t.host.events = addEvent s.host.events (.sleepAdvice .advise n))
        ∧ ((∀ m, ¬ s.Ready m) →
            t.advisor.platform = .awake ∧ t.host.events = s.host.events ∧ s.EvaluatedIdle t)
        ∧ SameBut [.advisor, .events, .pulse] s t)
    ∧ (∀ (s : State) (n : Nat),
        s.due s.advisor.adviceTimer = true → s.advisor.platform = .advised → s.advisor.advising = some n →
        ∃ t, exec .adviceTimerExpiry s = .next t
          ∧ ((∀ m, ¬ s.Ready m) →
              t.advisor.platform = .awake ∧ t.advisor.advising = none ∧ t.advisor.adviceTimer = none
                ∧ t.host.events = addEvent s.host.events (.sleepAdvice .timedOut n) ∧ s.EvaluatedIdle t
                ∧ (n ∈ rowNumbers8 → s.policyHolds (s.policyRow n) = true → t.armedAt n = s.armedAt n))
          ∧ SameBut [.advisor, .events, .pulse] s t)
    ∧ (∀ (s : State) (r : PolicyRow),
        s.policyHolds r = true ↔
          r.enabled = true ∧ r.postures.getLsbD s.advisor.heldPosture.code.toNat = true
            ∧ (r.dock = .attached → s.advisor.heldDock = .attached) ∧ (r.dock = .detached → s.advisor.heldDock ≠ .attached)
            ∧ (r.pen = .present → s.advisor.penPresent = true) ∧ (r.pen = .absent → s.advisor.penPresent = false))
    ∧ (∀ (s : State) (cause : WakeCause),
        (s.advisor.platform = .asleep →
            s.WakeDecided (takeCause cause s) cause
              ∧ ((∀ m, ¬ s.Accepts cause m) → takeCause cause s = s)
              ∧ SameBut [.poll, .dockLink, .advisor, .events] s (takeCause cause s))
          ∧ (s.advisor.platform ≠ .asleep → takeCause cause s = s))
    ∧ ∀ (s : State) (w : Traversal),
        s.Feeds w .activity → (s.routeEntry w.entry).test = false → (s.routeEntry w.entry).forward = false →
        ∃ t, exec .routeVisit s = .next t
          ∧ (w.record.unsettled = true → t.advisor = s.advisor)
          ∧ (w.record.unsettled = false → t.advisor.lastActivity = s.tick)
          ∧ (w.record.unsettled = false → s.advisor.platform = .asleep → s.WakeDecided t .motion)

/-- SET_PLATFORM_STATE is answered ACK and sets or clears the attention forcing. SLEEPING takes the platform to
ASLEEP: no advice stands, the Sleep Budget is in force, a DRAIN bank is READY again, the part power is chosen anew. AWAKE
takes it to AWAKE, or on to ADVISED by the evaluation that follows, with the Budget Total in force, a FILL bank READY, or
FREE when empty, and the part in Run. A platform already there changes nothing else (R137, R146, R155, R159 to R161). The
order of the hand-on is the model's reading (notes/assumptions/24); the delivery of the transaction that carried the command
is part of it (notes/assumptions/14). -/
def Obligations.PlatformStateIsHandedOn : Prop :=
  ∀ (tag : Byte) (dest : HostState) (s : State), ∃ t,
    exec (.setPlatformState tag dest) s = .next t ∧
      let old := deliverAny s
      t.host.slot = some { tag := tag, kind := 12, body := .ack }
      ∧ (dest = .sleeping → s.advisor.platform = .asleep →
          t.advisor = { s.advisor with forcing := true } ∧ SameBut [.advisor, .slot, .pulse] old t)
      ∧ (dest = .awake → s.advisor.platform = .awake →
          t.advisor = { s.advisor with forcing := false } ∧ SameBut [.advisor, .slot, .pulse] old t)
      ∧ (dest = .sleeping → s.advisor.platform ≠ .asleep →
          t.advisor.platform = .asleep ∧ t.advisor.forcing = true ∧ t.advisor.advising = none
            ∧ t.advisor.adviceTimer = none ∧ t.advisor.idleTimer = none
            ∧ t.supply.budget = s.param .sleepBudget
            ∧ t.batch.order = old.batch.order
            ∧ (∀ i, (old.batch.bank i).role = .drain → t.batch.bank i = { old.batch.bank i with role := .ready })
            ∧ (∀ i, (old.batch.bank i).role ≠ .drain → t.batch.bank i = old.batch.bank i)
            ∧ t.advisor.power = t.choosePower
            ∧ (s.pen.state = .charging → s.param .chargeInSleep = 0 → t.pen.state = .paused ∧ t.pen.duty = 0))
      ∧ (dest = .awake → s.advisor.platform ≠ .awake →
          (t.advisor.platform = .awake ∨ t.advisor.platform = .advised) ∧ t.advisor.forcing = false
            ∧ t.supply.budget = s.param .budgetTotal
            ∧ (∀ i, (old.batch.bank i).role = .fill → (old.batch.bank i).records ≠ [] →
                t.batch.bank i = { old.batch.bank i with role := .ready })
            ∧ (∀ i, (old.batch.bank i).role = .fill → (old.batch.bank i).records = [] →
                t.batch.bank i = { role := .free, records := [], gapBefore := false, gapAfter := false })
            ∧ (∀ i, (old.batch.bank i).role ≠ .fill → t.batch.bank i = old.batch.bank i)
            ∧ t.advisor.power = .run)
      ∧ SameBut [.advisor, .supply, .pen, .poll, .dockLink, .events, .slot, .batch, .pulse] old t

/-! ## The Host Link -/

/-- The attention line after every command. In LEVEL mode, by Attention Mode 0 or the forcing, it is asserted exactly
while a holding is non-empty. In EDGE mode it shows a pulse: one is driven when the mode is entered with a holding
non-empty or when a holding fills, one being driven goes on, and ATTN_PULSE_END ends it, changing nothing else (R154,
R155). That a pulse is judged once for a whole command is the model's choice (notes/assumptions/15). -/
def Obligations.AttentionLineFollowsTheHoldings : Prop :=
  (∀ s : State, s.attention
      = if s.advisor.forcing = true ∨ s.param .attentionMode = 0 then s.holdings.any else s.host.pulse)
    ∧ (∀ s : State, exec .attnPulseEnd s = .next { s with host := { s.host with pulse := false } })
    ∧ ∀ (c : Instr) (s : State), ∃ t, exec c s = .next t
        ∧ (t.levelMode = true → t.host.pulse = false)
        ∧ (t.levelMode = false → s.levelMode = true → t.host.pulse = t.holdings.any)
        ∧ (t.levelMode = false → s.levelMode = false → s.holdings.filled t.holdings = true → t.host.pulse = true)
        ∧ (t.levelMode = false → s.levelMode = false → s.holdings.filled t.holdings = false → c ≠ .attnPulseEnd →
            t.host.pulse = s.host.pulse)

/-- CHIP_SELECT_FALL selects the first holding with content, in the order response, events, keys, samples, batch, and
puts as many whole items from its head in flight as 256 bytes hold; the header flags show what the four holdings still
hold. With chip select low already nothing changes. The host clocks out the 3-byte header, the payload, and fill bytes of 0
from there on (R163, R165, R166, section 11.2). That the command does nothing with chip select low already is the model's
choice (notes/assumptions/5), and so is the length byte of an IDLE header, 0 (notes/assumptions/38). -/
def Obligations.ChipSelectFallSelectsInOrder : Prop :=
  (∀ (x : Transaction) (count : Nat),
      (x.clockedOut count).length = count
        ∧ ∀ k, k < count →
          (x.clockedOut count)[k]?
            = some
                (if k = 0 then x.frame.kind
                 else if k = 1 then BitVec.ofNat 8 x.frame.payload.length
                 else if k = 2 then flagByte x.flagEvents x.flagKeys x.flagSamples x.flagBatch false
                 else x.frame.payload.getD (k - 3) 0))
    ∧ ∀ s : State,
        (s.host.transaction ≠ none → exec .chipSelectFall s = .next s.lineKept)
        ∧ (s.host.transaction = none →
            ∃ t x, exec .chipSelectFall s = .next t ∧ t.host.transaction = some x
              ∧ x.flagEvents = !t.host.events.isEmpty ∧ x.flagKeys = !t.dock.keys.isEmpty
              ∧ x.flagSamples = !t.host.samples.isEmpty ∧ x.flagBatch = t.holdings.batch
              ∧ (∀ r, s.host.slot = some r →
                  x.frame = .response r ∧ SameBut [.transaction, .pulse] s t)
              ∧ (s.host.slot = none → s.host.events ≠ [] →
                  ∃ content rest, s.host.events = content ++ rest ∧ x.frame = .events content ∧ t.host.events = rest
                    ∧ (content.map (fun e => e.bytes.length)).sum ≤ 256
                    ∧ (∀ e ∈ rest.head?, 256 < (content.map (fun e => e.bytes.length)).sum + e.bytes.length)
                    ∧ SameBut [.events, .transaction, .pulse] s t)
              ∧ (s.host.slot = none → s.host.events = [] → s.dock.keys ≠ [] →
                  ∃ content rest, s.dock.keys = content ++ rest ∧ x.frame = .keys content ∧ t.dock.keys = rest
                    ∧ (content.map (fun k => (keyReportBytes k).length)).sum ≤ 256
                    ∧ (∀ k ∈ rest.head?, 256 < (content.map (fun k => (keyReportBytes k).length)).sum + (keyReportBytes k).length)
                    ∧ SameBut [.dockKeys, .transaction, .pulse] s t)
              ∧ (s.host.slot = none → s.host.events = [] → s.dock.keys = [] → s.host.samples ≠ [] →
                  ∃ content rest, s.host.samples = content ++ rest ∧ x.frame = .samples content ∧ t.host.samples = rest
                    ∧ (content.map (fun r => (forwardedBytes r).length)).sum ≤ 256
                    ∧ (∀ r ∈ rest.head?, 256 < (content.map (fun r => (forwardedBytes r).length)).sum + (forwardedBytes r).length)
                    ∧ SameBut [.samples, .transaction, .pulse] s t)
              ∧ (∀ i, s.host.slot = none → s.host.events = [] → s.dock.keys = [] → s.host.samples = [] →
                  s.advisor.platform = .awake ∨ s.advisor.platform = .advised → s.batch.selected = some i →
                  ∃ content rest, (s.batch.bank i).records = content ++ rest
                    ∧ x.frame = .batch i (s.batch.bank i).gapBefore (s.batch.bank i).gapAfter content
                    ∧ t.batch.bank i = { s.batch.bank i with role := .drain, records := rest }
                    ∧ (content.map (fun r => (forwardedBytes r).length)).sum ≤ 254
                    ∧ (∀ r ∈ rest.head?, 254 < (content.map (fun r => (forwardedBytes r).length)).sum + (forwardedBytes r).length)
                    ∧ SameBut [.batch, .transaction, .pulse] s t)
              ∧ (s.host.slot = none → s.host.events = [] → s.dock.keys = [] → s.host.samples = [] →
                  s.batch.selected = none ∨ s.advisor.platform = .asleep ∨ s.advisor.platform = .waking →
                  x.frame = .idle ∧ SameBut [.transaction, .pulse] s t))

/-- A transaction broken off gives back all it took: after a fall and a rise that clocked too little for the upstream
frame or for a whole downstream frame, the block is as before, but for a bank that has become DRAIN and keeps its
records in order (R164, R167, R168). Chip select counts whole bytes (notes/assumptions/27). -/
def Obligations.BrokenTransactionsGiveBackTheirContent : Prop :=
  ∀ (s t : State) (x : Transaction) (clocked : List Byte),
    (eventKinds s.host.events).Nodup → s.host.transaction = none → exec .chipSelectFall s = .next t →
    t.host.transaction = some x →
    clocked.length < x.bytes.length ∨ downstreamDone clocked = false →
    ∃ u, exec (.chipSelectRise clocked) t = .next u
      ∧ SameBut [.batch, .pulse] s u
      ∧ ∀ i, (u.batch.bank i).records = (s.batch.bank i).records
          ∧ (u.batch.bank i).gapBefore = (s.batch.bank i).gapBefore
          ∧ (u.batch.bank i).gapAfter = (s.batch.bank i).gapAfter
          ∧ (u.batch.bank i = s.batch.bank i ∨ (u.batch.bank i).role = .drain)

/-- A complete transaction takes the command that its downstream frame spells: the rise is the command's own row of the table,
and so is that of every frame that passes the checks of kind, codes and length, an on/off argument in any byte. A frame of a
kind that names no command is answered UNKNOWN_KIND, one with a table id, copy or platform state outside its range BAD_INDEX,
else one whose length is not that of its arguments BAD_LENGTH; an IDLE frame leaves only the delivery (R163, R164, R170). That
a frame too short to hold a code is BAD_LENGTH is an inference (DEDUCED, notes/assumptions/6). That a host command's own row
includes the delivery of its transaction is the model's choice (notes/assumptions/14), as is the byte as unit
(notes/assumptions/27). -/
def Obligations.CompleteTransactionsTakeTheirCommand : Prop :=
  ∀ (s : State) (x : Transaction), s.host.transaction = some x →
    (∀ (c : HostCommand) (fill : List Byte),
        c.wellFormed = true → x.bytes.length ≤ (c.frameBytes ++ fill).length →
        exec (.chipSelectRise (c.frameBytes ++ fill)) s = exec c.toInstr s)
      ∧ (∀ (kind flags : Byte) (payload fill : List Byte),
          13 < kind.toNat → 1 ≤ payload.length → payload.length ≤ 256 →
          x.bytes.length ≤ 3 + payload.length + fill.length →
          ∃ t, exec (.chipSelectRise (kind :: BitVec.ofNat 8 payload.length :: flags :: (payload ++ fill))) s = .next t
            ∧ t.host.slot = some { tag := payload.getD 0 0, kind := kind, body := .refused .unknownKind }
            ∧ SameBut [.slot, .pulse] (deliverAny s) t)
      ∧ (∀ (kind flags : Byte) (payload fill : List Byte),
          1 ≤ kind.toNat → kind.toNat ≤ 13 → 1 ≤ payload.length → payload.length ≤ 256 →
          x.bytes.length ≤ 3 + payload.length + fill.length →
          ∃ t, exec (.chipSelectRise (kind :: BitVec.ofNat 8 payload.length :: flags :: (payload ++ fill))) s = .next t ∧
            let refusedWith (code : RefusalCode) : Prop :=
              t.host.slot = some { tag := payload.getD 0 0, kind := kind, body := .refused code }
                ∧ SameBut [.slot, .pulse] (deliverAny s) t
            (¬ FrameCodesPass kind payload → refusedWith .badIndex)
              ∧ (FrameCodesPass kind payload → ¬ FrameLengthFits kind payload → refusedWith .badLength)
              ∧ (FrameCodesPass kind payload → FrameLengthFits kind payload →
                  ∃ c : HostCommand, c.kind = kind ∧ c.tag = payload.getD 0 0 ∧ exec c.toInstr s = .next t))
      ∧ (∀ (length flags : Byte) (fill : List Byte),
          x.bytes.length ≤ 3 + fill.length →
          ∃ t, exec (.chipSelectRise (0 :: length :: flags :: fill)) s = .next t
            ∧ t.host.transaction = none
            ∧ ((∃ r, x.frame = .response r) → t.host.slot = none)
            ∧ (∀ i before after content, x.frame = .batch i before after content → (s.batch.bank i).records = [] →
                (t.batch.bank i).role = .free)
            ∧ SameBut [.pulse] (deliverAny s) t)

/-- The downstream frame of a host command is read back as that command, with every argument at every value: no bit of the
encoding is dropped (section 11.2, R170). -/
def Obligations.HostFramesDecodeToTheirCommand : Prop :=
  ∀ c : HostCommand, c.wellFormed = true →
    decodeFrame c.kind c.payload = .ok c ∧ c.frameBytes.length = 3 + c.payload.length
      ∧ payloadLength (byteAt c.frameBytes 1) = c.payload.length

/-- The commands that ask and are answered: NOP with ACK, READ_STATE with the state as it stands, TABLE_READ with the
entries of the copy named or BAD_INDEX. None of them changes anything but the Response Slot. Each is taken after the delivery
of the transaction that carried it, which empties the slot of a delivered response, frees a bank whose last record went and
changes nothing else (R159, R164, R170, R172, R176). That this delivery is part of a command's own row is the model's choice
(notes/assumptions/14); what bit 1 of offset 10 shows while the hinge is resolved is open (notes/assumptions/32). -/
def Obligations.QueriesAreAnswered : Prop :=
  (∀ (tag : Byte) (s : State), ∃ t, exec (.nop tag) s = .next t
      ∧ t.host.slot = some { tag := tag, kind := 1, body := .ack }
      ∧ SameBut [.slot, .pulse] (deliverAny s) t)
    ∧ (∀ (tag : Byte) (s : State), ∃ t, exec (.readState tag) s = .next t
        ∧ t.host.slot = some { tag := tag, kind := 5, body := .state (deliverAny s).snapshot }
        ∧ SameBut [.slot, .pulse] (deliverAny s) t)
    ∧ (∀ s : State, ∃ v, s.snapshot = v
        ∧ v.tick = s.tick ∧ v.h = s.angle.h ∧ v.hf = s.angle.filter.map reportedAngle ∧ v.o = s.angle.o
        ∧ v.unresolved = s.angle.unresolved ∧ v.flat = s.angle.flat ∧ v.attitude = s.angle.attitude
        ∧ v.posture = s.posture.posture ∧ v.candidate = s.posture.candidate.map s.rowPosture
        ∧ v.orientation = s.orient.current ∧ v.locked = s.orient.locked
        ∧ v.pen = s.pen.state ∧ v.duty = s.pen.duty ∧ v.target = s.pen.target
        ∧ (s.pen.current = none → v.current = 0) ∧ (∀ i, s.pen.current = some i → v.current = i.value)
        ∧ v.dock = s.dock.state ∧ v.latch = s.latch.state ∧ v.grants = s.supply.grants ∧ v.budget = s.supply.budget
        ∧ v.platform = s.advisor.platform ∧ v.power = s.advisor.power ∧ v.fifo = s.intake.fifo.length
        ∧ v.keys = s.keyCount ∧ v.samples = s.sampleCount ∧ v.events = s.host.events.length
        ∧ v.roleA = s.batch.bankA.role ∧ v.countA = s.batch.bankA.records.length
        ∧ v.roleB = s.batch.bankB.role ∧ v.countB = s.batch.bankB.records.length ∧ v.bytes.length = 41)
    ∧ (∀ s : State,
        (s.host.transaction = none → deliverAny s = s)
          ∧ ∀ x, s.host.transaction = some x → ∃ u, deliverAny s = u ∧ u.host.transaction = none
              ∧ ((∃ r, x.frame = .response r) → u.host.slot = none)
              ∧ ((∀ r, x.frame ≠ .response r) → u.host.slot = s.host.slot)
              ∧ (∀ i before after content, x.frame = .batch i before after content → (s.batch.bank i).records = [] →
                  u.batch.bank i = { role := .free, records := [], gapBefore := false, gapAfter := false }
                    ∧ (∀ j, j ≠ i → u.batch.bank j = s.batch.bank j)
                    ∧ u.batch.order = s.batch.order.filter (fun j => j ≠ i))
              ∧ ((∀ i before after content, x.frame = .batch i before after content → (s.batch.bank i).records ≠ []) →
                  u.batch = s.batch)
              ∧ SameBut [.slot, .transaction, .batch] s u)
    ∧ ∀ (tag : Byte) (table : TableId) (copy : Copy) (first count : Byte) (s : State),
        ∃ t, exec (.tableRead tag table copy first count) s = .next t
          ∧ (count = 0 ∨ table.capacity < first.toNat + count.toNat ∨ 249 < count.toNat * table.entrySize →
              t.host.slot = some { tag := tag, kind := 3, body := .refused .badIndex })
          ∧ (count ≠ 0 → first.toNat + count.toNat ≤ table.capacity → count.toNat * table.entrySize ≤ 249 →
              t.host.slot
                = some
                    { tag := tag, kind := 3
                      body :=
                        .tableData table copy first count
                          (((s.tableCopy table copy).drop first.toNat).take count.toNat).flatten })
          ∧ SameBut [.slot, .pulse] (deliverAny s) t

/-- TABLE_WRITE stores its entries in the staging copy exactly as written, from the first index on, and leaves the
others and every active copy alone; it is refused with BAD_INDEX out of range and BUSY for the Route Table under a
hold (R171). The delivery of the transaction that carried the command is part of it (notes/assumptions/14). -/
def Obligations.TableWritesReachTheStagingCopy : Prop :=
  ∀ (tag : Byte) (table : TableId) (first count : Byte) (entries : List Byte) (s : State),
    entries.length = count.toNat * table.entrySize → (s.staging.get table).length = table.capacity →
    ∃ t, exec (.tableWrite tag table first count entries) s = .next t ∧
      let answers (body : ResponseBody) : Prop := t.host.slot = some { tag := tag, kind := 2, body := body }
      let held : Prop := table = .route ∧ s.route.hold = true
      let fits : Prop := count ≠ 0 ∧ first.toNat + count.toNat ≤ table.capacity
      (¬ fits → answers (.refused .badIndex) ∧ t.staging = s.staging)
        ∧ (fits → held → answers (.refused .busy) ∧ t.staging = s.staging)
        ∧ (fits → ¬ held →
            answers .ack ∧ (t.staging.get table).length = table.capacity
              ∧ (∀ k, k < count.toNat →
                  (t.staging.get table)[first.toNat + k]?
                    = some ((entries.drop (k * table.entrySize)).take table.entrySize))
              ∧ (∀ k, k < first.toNat ∨ first.toNat + count.toNat ≤ k →
                  (t.staging.get table)[k]? = (s.staging.get table)[k]?)
              ∧ (∀ other, other ≠ table → t.staging.get other = s.staging.get other))
        ∧ SameBut [.staging, .slot, .pulse] (deliverAny s) t

/-- TABLE_COMMIT hands the staging copy to its owner, which answers ACK with the count of entries it adjusted. A valid Route
Table is applied while the engine is IDLE and held while it is WALKING, and is BUSY under a hold; an invalid one, a Posture
Table without an enabled row and a Charge Curve that does not ascend are BAD_TABLE and change nothing. A Poll Table commit
recomputes every cadence, an Orientation Table may force an orientation, a Sleep Policy Table arms its rows and evaluates or
re-tests, and a Parameter Table brings each value within its range, re-allocates the budget and re-reads the SLEEP gate. The
staging copy stays as written (R4 to R6, R38 to R42, R75, R83 to R85, R133, R134, R137 to R139, R149, R173, R175, R178). The
delivery of the transaction that carried the command is part of it (notes/assumptions/14); a Poll Table entry counts once
(notes/assumptions/2), BAD_NEXT is found before BAD_BOUNDS in one entry (notes/assumptions/17), and the allocation comes
before the SLEEP gate (notes/assumptions/33). -/
def Obligations.TableCommitsApplyTheStagingCopy : Prop :=
  ∀ (tag : Byte) (table : TableId) (s : State), ∃ t,
    exec (.tableCommit tag table) s = .next t ∧ t.staging = s.staging ∧
      let answers (body : ResponseBody) : Prop := t.host.slot = some { tag := tag, kind := 4, body := body }
      let onlyAnswers : Prop := SameBut [.slot, .pulse] (deliverAny s) t
      let num (e : RawEntry) (k : Nat) : Nat := (byteAt e k).toNat
      let up : Prop := s.advisor.platform = .awake ∨ s.advisor.platform = .advised
      let routeClamped :=
        (s.staging.route.filter (fun e => num e 1 = 0 || num e 1 > 16 || num e 2 > 10 || num e 3 > 3)).length
      let postureClamped :=
        (s.staging.posture.filter (fun e => num e 1 = 0 || num e 1 > 6 || num e 6 > 3 || num e 7 > 3
          || wordAt e 2 > 4095 || wordAt e 4 > 4095 || wordAt e 8 > 16384 || wordAt e 10 > 512)).length
      (table = .route → s.route.hold = true → answers (.refused .busy) ∧ onlyAnswers)
        ∧ (∀ index why, table = .route → s.route.hold = false → routeFault s.staging.route = some (index, why) →
            answers (.badTable index why) ∧ onlyAnswers)
        ∧ (table = .route → s.route.hold = false → routeFault s.staging.route = none → s.route.walking = none →
            t.route.table = s.staging.route.map readRouteEntry
              ∧ t.route.runtime = List.replicate 48 { counter := 0, test := .unknown }
              ∧ t.route.hold = false ∧ answers (.committed false routeClamped))
        ∧ (table = .route → s.route.hold = false → routeFault s.staging.route = none → s.route.walking ≠ none →
            t.route = { s.route with hold := true } ∧ answers (.committed true routeClamped))
        ∧ (table = .poll →
            answers (.committed false (s.staging.poll.filter (fun e => num e 0 > 8 || num e 1 > 8)).length)
              ∧ (∀ (k : Nat) (p : Polled), allPolled[k]? = some p →
                  t.poll.table.get p
                    = { run := min 8 (num (s.staging.poll.getD k []) 0)
                        doze := min 8 (num (s.staging.poll.getD k []) 1) })
              ∧ (∀ p, (t.poll.schedule.get p).code
                  = if s.advisor.power = .run ∨ (s.pen.state = .charging ∧ (p = .coil ∨ p = .pcel ∨ p = .ctmp))
                    then (t.poll.table.get p).run else (t.poll.table.get p).doze)
              ∧ (∀ p, t.period p = s.period p →
                  (t.poll.schedule.get p).next = (s.poll.schedule.get p).next ∧ t.settleMark p = s.settleMark p)
              ∧ (∀ p, t.period p ≠ s.period p →
                  (t.poll.schedule.get p).next = nextPoll (t.period p) s.tick ∧ t.settleMark p = true)
              ∧ ((t.poll.schedule.get .basa).code ≠ (s.poll.schedule.get .basa).code →
                  t.dock.cadence = (t.poll.schedule.get .basa).code))
        ∧ (table = .posture → (∃ e ∈ s.staging.posture, (readPostureRow e).enabled = true) →
            answers (.committed false postureClamped)
              ∧ t.posture
                = { s.posture with
                    table := s.staging.posture.map readPostureRow, candidate := none, dwell := none })
        ∧ (table = .posture → (∀ e ∈ s.staging.posture, (readPostureRow e).enabled = false) →
            answers (.badTable 0 .noRow) ∧ onlyAnswers)
        ∧ (table = .orient →
            answers (.committed false 0) ∧ t.orient.table = readOrientTable s.staging.orient ∧ t.orient.candidate = none
              ∧ t.orient.dwell = none ∧
              let set := (readOrientTable s.staging.orient).get s.orient.posture
              (set = 0 ∨ inSet set s.orient.current = true → t.orient.current = s.orient.current ∧ t.advisor = s.advisor)
                ∧ (set ≠ 0 → inSet set s.orient.current = false →
                    NearestAllowed set s.orient.heldO t.orient.current
                      ∧ .orientation t.orient.current s.orient.locked .forced ∈ t.host.events
                      ∧ t.advisor.lastActivity = s.tick))
        ∧ (table = .curve → (∀ k, k + 1 < s.staging.curve.length →
              wordAt (s.staging.curve.getD k []) 0 < wordAt (s.staging.curve.getD (k + 1) []) 0) →
            answers (.committed false (s.staging.curve.filter (fun e => wordAt e 2 > 800)).length)
              ∧ t.pen = { s.pen with curve := s.staging.curve.map readBreakpoint })
        ∧ (∀ k, table = .curve → k + 1 < s.staging.curve.length →
            wordAt (s.staging.curve.getD (k + 1) []) 0 ≤ wordAt (s.staging.curve.getD k []) 0 →
            (∀ j, j < k → wordAt (s.staging.curve.getD j []) 0 < wordAt (s.staging.curve.getD (j + 1) []) 0) →
            answers (.badTable (k + 1) .notAscending) ∧ onlyAnswers)
        ∧ (table = .policy →
            answers (.committed false (s.staging.policy.filter (fun e => longAt e 4 > 16777216)).length)
              ∧ t.advisor.table = s.staging.policy.map readPolicyRow ∧
              let armed : State :=
                { s with
                  advisor :=
                    { s.advisor with
                      table := s.staging.policy.map readPolicyRow
                      armed := rowNumbers8.map (fun n => decide (s.advisor.advising ≠ some n)) } }
              (¬ up → t.advisor = armed.advisor)
                ∧ (∀ n, s.advisor.platform = .awake → armed.Ready n → (∀ m, m < n → ¬ armed.Ready m) →
                    t.advisor.platform = .advised ∧ t.advisor.advising = some n
                      ∧ t.host.events = addEvent s.host.events (.sleepAdvice .advise n))
                ∧ (s.advisor.platform = .awake → (∀ m, ¬ armed.Ready m) →
                    t.advisor.platform = .awake ∧ t.host.events = s.host.events)
                ∧ (∀ n, s.advisor.platform = .advised → s.advisor.advising = some n →
                    (armed.policyHolds (armed.policyRow n) = true → t.advisor = armed.advisor)
                      ∧ (armed.policyHolds (armed.policyRow n) = false → (∀ m, ¬ armed.Ready m) →
                          t.advisor.platform = .awake ∧ t.advisor.advising = none
                            ∧ t.host.events = addEvent s.host.events (.sleepAdvice .withdrawn n))))
        ∧ (table = .param → s.staging.param.length = 41 →
            answers
                (.committed false
                  ((paramRanges.zip s.staging.param).filter
                    (fun p => wordAt p.2 0 < p.1.1 || p.1.2.1 < wordAt p.2 0)).length)
              ∧ (∀ p : Param, ∃ low high default, paramRanges[p.index]? = some (low, high, default)
                  ∧ t.param p = max low (min high (wordAt (s.staging.param.getD p.index []) 0)))
              ∧ (up → t.supply.budget = t.param .budgetTotal) ∧ (¬ up → t.supply.budget = t.param .sleepBudget)
              ∧ (s.latch.state = .locked → t.supply.requests = s.supply.requests)
              ∧ (s.latch.state ≠ .locked → t.supply.requests = { s.supply.requests with latch := t.param .latchDraw })
              ∧ (s.Allocated → t.supply.grants = divideBudget t.supply.budget t.supply.requests)
              ∧ (s.pen.state = .charging → ¬ up → s.param .chargeInSleep ≠ 0 → t.param .chargeInSleep = 0 →
                  ∃ g, t.leadingGate = some g ∧ s.PausesAt g t)
              ∧ (s.pen.state = .paused → ¬ up → s.param .chargeInSleep = 0 → t.param .chargeInSleep ≠ 0 →
                  (t.leadingGate = none →
                      t.pen.state = .charging ∧ .pen .charging .resumed s.pen.faults ∈ t.host.events)
                    ∧ (∀ g, t.leadingGate = some g → t.pen.state = .paused ∧ t.pen.leading = some g)))
        ∧ SameBut [.routeTable, .routeRuntime, .routeHold, .poll, .posture, .orient, .params, .supply, .pen, .dockLink,
            .advisor, .events, .slot, .pulse] (deliverAny s) t

/-- DOCK_OUTPUT is refused with BAD_STATE unless the dock is ATTACHED; there it is answered ACK and its LIGHTS message
replaces a waiting one, or is discarded while channel 3 is halted (R92, R95). The delivery of the transaction that
carried the command is part of it (notes/assumptions/14). -/
def Obligations.DockOutputQueuesTheLights : Prop :=
  ∀ (tag backlight indicators : Byte) (s : State), ∃ t,
    exec (.dockOutput tag backlight indicators) s = .next t ∧
      let answers (body : ResponseBody) : Prop := t.host.slot = some { tag := tag, kind := 11, body := body }
      (s.dock.state ≠ .attached → answers (.refused .badState) ∧ SameBut [.slot, .pulse] (deliverAny s) t)
        ∧ (s.dock.state = .attached → s.dock.halted = false →
            answers .ack
              ∧ t.dock = { s.dock with waiting := { s.dock.waiting with lights := some (backlight, indicators) } }
              ∧ SameBut [.dockLink, .slot, .pulse] (deliverAny s) t)
        ∧ (s.dock.state = .attached → s.dock.halted = true →
            answers .ack ∧ SameBut [.slot, .pulse] (deliverAny s) t)

/-! ## Invariants of every command -/

/-- Every step keeps the Intake FIFO within 16 records, the Sample Queue, with what is in flight, within 48, and the order of
arrival without a source named twice (R2, R17, R35). It keeps the Key Queue, with what is in flight, within 16 reports, and
the room that a release of a stuck key, a report awaited and a remembered settle report need (R97, R107 to R109); the one
exception, a settle timer that expires with 14 reports while a report is both remembered and awaited, is ruled out as a
premise and named in notes/assumptions/34. -/
def Obligations.StepsKeepTheQueuesBounded : Prop :=
  (∀ s t : State, s.QueuesBounded → step s = .next t → t.QueuesBounded)
    ∧ ∀ s t : State, s.KeysBounded → (∀ rest, s.pending = .settleTimerExpiry :: rest → s.ReplayFits) →
        step s = .next t → t.KeysBounded

/-- Every step keeps at most one pending event of each kind (R168). -/
def Obligations.StepsKeepOneEntryPerKind : Prop :=
  ∀ s t : State, s.OneEntryPerKind → step s = .next t → t.OneEntryPerKind

/-- Every step keeps the budget in force that of platform state and parameters, and the grants its allocation to the
standing requests (R137 to R139). -/
def Obligations.StepsKeepTheBudgetAllocated : Prop :=
  ∀ s t : State, s.Allocated → step s = .next t → t.Allocated

/-- Every step keeps what the Sleep Advisor and the Orientation Tracker hold of the other blocks equal to what those blocks
have, and the part power what they make of it (R78, R145, R161). -/
def Obligations.StepsKeepTheCopiesInAgreement : Prop :=
  ∀ s t : State, s.CopiesAgree → step s = .next t → t.CopiesAgree

/-- Every step keeps the pen's coil off outside CHARGING (R115). -/
def Obligations.StepsKeepTheCoilGuarded : Prop :=
  ∀ s t : State, s.CoilGuarded → step s = .next t → t.CoilGuarded
end

