-- ==== Sys2Proof/Laws/State.lean ====
section
/-! SUPPORT. What each named update of the state writes, field by field: one lemma per field per update, each true by rfl. -/

namespace Sys2Proof.Machine

variable (s : State)


/-! ### raise -/

@[simp] theorem raise_tick (e : Event) : (raise e s).tick = s.tick := rfl
@[simp] theorem raise_params (e : Event) : (raise e s).params = s.params := rfl
@[simp] theorem raise_staging (e : Event) : (raise e s).staging = s.staging := rfl
@[simp] theorem raise_poll (e : Event) : (raise e s).poll = s.poll := rfl
@[simp] theorem raise_lines (e : Event) : (raise e s).lines = s.lines := rfl
@[simp] theorem raise_intake (e : Event) : (raise e s).intake = s.intake := rfl
@[simp] theorem raise_route (e : Event) : (raise e s).route = s.route := rfl
@[simp] theorem raise_angle (e : Event) : (raise e s).angle = s.angle := rfl
@[simp] theorem raise_posture (e : Event) : (raise e s).posture = s.posture := rfl
@[simp] theorem raise_orient (e : Event) : (raise e s).orient = s.orient := rfl
@[simp] theorem raise_dock (e : Event) : (raise e s).dock = s.dock := rfl
@[simp] theorem raise_latch (e : Event) : (raise e s).latch = s.latch := rfl
@[simp] theorem raise_pen (e : Event) : (raise e s).pen = s.pen := rfl
@[simp] theorem raise_supply (e : Event) : (raise e s).supply = s.supply := rfl
@[simp] theorem raise_advisor (e : Event) : (raise e s).advisor = s.advisor := rfl
@[simp] theorem raise_batch (e : Event) : (raise e s).batch = s.batch := rfl
@[simp] theorem raise_host_slot (e : Event) : (raise e s).host.slot = s.host.slot := rfl
@[simp] theorem raise_host_events (e : Event) : (raise e s).host.events = addEvent s.host.events e := rfl
@[simp] theorem raise_host_samples (e : Event) : (raise e s).host.samples = s.host.samples := rfl
@[simp] theorem raise_host_transaction (e : Event) : (raise e s).host.transaction = s.host.transaction := rfl
@[simp] theorem raise_host_pulse (e : Event) : (raise e s).host.pulse = s.host.pulse := rfl
@[simp] theorem raise_pending (e : Event) : (raise e s).pending = s.pending := rfl

/-! ### setGap -/

@[simp] theorem setGap_tick (src : Source) : (setGap src s).tick = s.tick := rfl
@[simp] theorem setGap_params (src : Source) : (setGap src s).params = s.params := rfl
@[simp] theorem setGap_staging (src : Source) : (setGap src s).staging = s.staging := rfl
@[simp] theorem setGap_poll (src : Source) : (setGap src s).poll = s.poll := rfl
@[simp] theorem setGap_lines (src : Source) : (setGap src s).lines = s.lines := rfl
@[simp] theorem setGap_intake_fifo (src : Source) : (setGap src s).intake.fifo = s.intake.fifo := rfl
@[simp] theorem setGap_intake_gaps (src : Source) : (setGap src s).intake.gaps = s.intake.gaps.set src true := rfl
@[simp] theorem setGap_route (src : Source) : (setGap src s).route = s.route := rfl
@[simp] theorem setGap_angle (src : Source) : (setGap src s).angle = s.angle := rfl
@[simp] theorem setGap_posture (src : Source) : (setGap src s).posture = s.posture := rfl
@[simp] theorem setGap_orient (src : Source) : (setGap src s).orient = s.orient := rfl
@[simp] theorem setGap_dock (src : Source) : (setGap src s).dock = s.dock := rfl
@[simp] theorem setGap_latch (src : Source) : (setGap src s).latch = s.latch := rfl
@[simp] theorem setGap_pen (src : Source) : (setGap src s).pen = s.pen := rfl
@[simp] theorem setGap_supply (src : Source) : (setGap src s).supply = s.supply := rfl
@[simp] theorem setGap_advisor (src : Source) : (setGap src s).advisor = s.advisor := rfl
@[simp] theorem setGap_batch (src : Source) : (setGap src s).batch = s.batch := rfl
@[simp] theorem setGap_host (src : Source) : (setGap src s).host = s.host := rfl
@[simp] theorem setGap_pending (src : Source) : (setGap src s).pending = s.pending := rfl

/-! ### clearGap -/

@[simp] theorem clearGap_tick (src : Source) : (clearGap src s).tick = s.tick := rfl
@[simp] theorem clearGap_params (src : Source) : (clearGap src s).params = s.params := rfl
@[simp] theorem clearGap_staging (src : Source) : (clearGap src s).staging = s.staging := rfl
@[simp] theorem clearGap_poll (src : Source) : (clearGap src s).poll = s.poll := rfl
@[simp] theorem clearGap_lines (src : Source) : (clearGap src s).lines = s.lines := rfl
@[simp] theorem clearGap_intake_fifo (src : Source) : (clearGap src s).intake.fifo = s.intake.fifo := rfl
@[simp] theorem clearGap_intake_gaps (src : Source) : (clearGap src s).intake.gaps = s.intake.gaps.set src false := rfl
@[simp] theorem clearGap_route (src : Source) : (clearGap src s).route = s.route := rfl
@[simp] theorem clearGap_angle (src : Source) : (clearGap src s).angle = s.angle := rfl
@[simp] theorem clearGap_posture (src : Source) : (clearGap src s).posture = s.posture := rfl
@[simp] theorem clearGap_orient (src : Source) : (clearGap src s).orient = s.orient := rfl
@[simp] theorem clearGap_dock (src : Source) : (clearGap src s).dock = s.dock := rfl
@[simp] theorem clearGap_latch (src : Source) : (clearGap src s).latch = s.latch := rfl
@[simp] theorem clearGap_pen (src : Source) : (clearGap src s).pen = s.pen := rfl
@[simp] theorem clearGap_supply (src : Source) : (clearGap src s).supply = s.supply := rfl
@[simp] theorem clearGap_advisor (src : Source) : (clearGap src s).advisor = s.advisor := rfl
@[simp] theorem clearGap_batch (src : Source) : (clearGap src s).batch = s.batch := rfl
@[simp] theorem clearGap_host (src : Source) : (clearGap src s).host = s.host := rfl
@[simp] theorem clearGap_pending (src : Source) : (clearGap src s).pending = s.pending := rfl

/-! ### writeSettle -/

@[simp] theorem writeSettle_tick (p : Polled) (mark : Bool) : (writeSettle p mark s).tick = s.tick := rfl
@[simp] theorem writeSettle_params (p : Polled) (mark : Bool) : (writeSettle p mark s).params = s.params := rfl
@[simp] theorem writeSettle_staging (p : Polled) (mark : Bool) : (writeSettle p mark s).staging = s.staging := rfl
@[simp] theorem writeSettle_poll_table (p : Polled) (mark : Bool) : (writeSettle p mark s).poll.table = s.poll.table := rfl
@[simp] theorem writeSettle_poll_schedule (p : Polled) (mark : Bool) : (writeSettle p mark s).poll.schedule = s.poll.schedule.set p { s.poll.schedule.get p with settle := mark } := rfl
@[simp] theorem writeSettle_poll_health (p : Polled) (mark : Bool) : (writeSettle p mark s).poll.health = s.poll.health := rfl
@[simp] theorem writeSettle_poll_waiting (p : Polled) (mark : Bool) : (writeSettle p mark s).poll.waiting = s.poll.waiting := rfl
@[simp] theorem writeSettle_poll_onBus (p : Polled) (mark : Bool) : (writeSettle p mark s).poll.onBus = s.poll.onBus := rfl
@[simp] theorem writeSettle_poll_coming (p : Polled) (mark : Bool) : (writeSettle p mark s).poll.coming = s.poll.coming := rfl
@[simp] theorem writeSettle_lines (p : Polled) (mark : Bool) : (writeSettle p mark s).lines = s.lines := rfl
@[simp] theorem writeSettle_intake (p : Polled) (mark : Bool) : (writeSettle p mark s).intake = s.intake := rfl
@[simp] theorem writeSettle_route (p : Polled) (mark : Bool) : (writeSettle p mark s).route = s.route := rfl
@[simp] theorem writeSettle_angle (p : Polled) (mark : Bool) : (writeSettle p mark s).angle = s.angle := rfl
@[simp] theorem writeSettle_posture (p : Polled) (mark : Bool) : (writeSettle p mark s).posture = s.posture := rfl
@[simp] theorem writeSettle_orient (p : Polled) (mark : Bool) : (writeSettle p mark s).orient = s.orient := rfl
@[simp] theorem writeSettle_dock (p : Polled) (mark : Bool) : (writeSettle p mark s).dock = s.dock := rfl
@[simp] theorem writeSettle_latch (p : Polled) (mark : Bool) : (writeSettle p mark s).latch = s.latch := rfl
@[simp] theorem writeSettle_pen (p : Polled) (mark : Bool) : (writeSettle p mark s).pen = s.pen := rfl
@[simp] theorem writeSettle_supply (p : Polled) (mark : Bool) : (writeSettle p mark s).supply = s.supply := rfl
@[simp] theorem writeSettle_advisor (p : Polled) (mark : Bool) : (writeSettle p mark s).advisor = s.advisor := rfl
@[simp] theorem writeSettle_batch (p : Polled) (mark : Bool) : (writeSettle p mark s).batch = s.batch := rfl
@[simp] theorem writeSettle_host (p : Polled) (mark : Bool) : (writeSettle p mark s).host = s.host := rfl
@[simp] theorem writeSettle_pending (p : Polled) (mark : Bool) : (writeSettle p mark s).pending = s.pending := rfl

/-! ### writeComing -/

@[simp] theorem writeComing_tick (coming : List Coming) : (writeComing coming s).tick = s.tick := rfl
@[simp] theorem writeComing_params (coming : List Coming) : (writeComing coming s).params = s.params := rfl
@[simp] theorem writeComing_staging (coming : List Coming) : (writeComing coming s).staging = s.staging := rfl
@[simp] theorem writeComing_poll_table (coming : List Coming) : (writeComing coming s).poll.table = s.poll.table := rfl
@[simp] theorem writeComing_poll_schedule (coming : List Coming) : (writeComing coming s).poll.schedule = s.poll.schedule := rfl
@[simp] theorem writeComing_poll_health (coming : List Coming) : (writeComing coming s).poll.health = s.poll.health := rfl
@[simp] theorem writeComing_poll_waiting (coming : List Coming) : (writeComing coming s).poll.waiting = s.poll.waiting := rfl
@[simp] theorem writeComing_poll_onBus (coming : List Coming) : (writeComing coming s).poll.onBus = s.poll.onBus := rfl
@[simp] theorem writeComing_poll_coming (coming : List Coming) : (writeComing coming s).poll.coming = coming := rfl
@[simp] theorem writeComing_lines (coming : List Coming) : (writeComing coming s).lines = s.lines := rfl
@[simp] theorem writeComing_intake (coming : List Coming) : (writeComing coming s).intake = s.intake := rfl
@[simp] theorem writeComing_route (coming : List Coming) : (writeComing coming s).route = s.route := rfl
@[simp] theorem writeComing_angle (coming : List Coming) : (writeComing coming s).angle = s.angle := rfl
@[simp] theorem writeComing_posture (coming : List Coming) : (writeComing coming s).posture = s.posture := rfl
@[simp] theorem writeComing_orient (coming : List Coming) : (writeComing coming s).orient = s.orient := rfl
@[simp] theorem writeComing_dock (coming : List Coming) : (writeComing coming s).dock = s.dock := rfl
@[simp] theorem writeComing_latch (coming : List Coming) : (writeComing coming s).latch = s.latch := rfl
@[simp] theorem writeComing_pen (coming : List Coming) : (writeComing coming s).pen = s.pen := rfl
@[simp] theorem writeComing_supply (coming : List Coming) : (writeComing coming s).supply = s.supply := rfl
@[simp] theorem writeComing_advisor (coming : List Coming) : (writeComing coming s).advisor = s.advisor := rfl
@[simp] theorem writeComing_batch (coming : List Coming) : (writeComing coming s).batch = s.batch := rfl
@[simp] theorem writeComing_host (coming : List Coming) : (writeComing coming s).host = s.host := rfl
@[simp] theorem writeComing_pending (coming : List Coming) : (writeComing coming s).pending = s.pending := rfl

/-! ### writeCode -/

@[simp] theorem writeCode_tick (p : Polled) (code : Nat) : (writeCode p code s).tick = s.tick := rfl
@[simp] theorem writeCode_params (p : Polled) (code : Nat) : (writeCode p code s).params = s.params := rfl
@[simp] theorem writeCode_staging (p : Polled) (code : Nat) : (writeCode p code s).staging = s.staging := rfl
@[simp] theorem writeCode_poll_table (p : Polled) (code : Nat) : (writeCode p code s).poll.table = s.poll.table := rfl
@[simp] theorem writeCode_poll_schedule (p : Polled) (code : Nat) : (writeCode p code s).poll.schedule = s.poll.schedule.set p { s.poll.schedule.get p with code := code } := rfl
@[simp] theorem writeCode_poll_health (p : Polled) (code : Nat) : (writeCode p code s).poll.health = s.poll.health := rfl
@[simp] theorem writeCode_poll_waiting (p : Polled) (code : Nat) : (writeCode p code s).poll.waiting = s.poll.waiting := rfl
@[simp] theorem writeCode_poll_onBus (p : Polled) (code : Nat) : (writeCode p code s).poll.onBus = s.poll.onBus := rfl
@[simp] theorem writeCode_poll_coming (p : Polled) (code : Nat) : (writeCode p code s).poll.coming = s.poll.coming := rfl
@[simp] theorem writeCode_lines (p : Polled) (code : Nat) : (writeCode p code s).lines = s.lines := rfl
@[simp] theorem writeCode_intake (p : Polled) (code : Nat) : (writeCode p code s).intake = s.intake := rfl
@[simp] theorem writeCode_route (p : Polled) (code : Nat) : (writeCode p code s).route = s.route := rfl
@[simp] theorem writeCode_angle (p : Polled) (code : Nat) : (writeCode p code s).angle = s.angle := rfl
@[simp] theorem writeCode_posture (p : Polled) (code : Nat) : (writeCode p code s).posture = s.posture := rfl
@[simp] theorem writeCode_orient (p : Polled) (code : Nat) : (writeCode p code s).orient = s.orient := rfl
@[simp] theorem writeCode_dock (p : Polled) (code : Nat) : (writeCode p code s).dock = s.dock := rfl
@[simp] theorem writeCode_latch (p : Polled) (code : Nat) : (writeCode p code s).latch = s.latch := rfl
@[simp] theorem writeCode_pen (p : Polled) (code : Nat) : (writeCode p code s).pen = s.pen := rfl
@[simp] theorem writeCode_supply (p : Polled) (code : Nat) : (writeCode p code s).supply = s.supply := rfl
@[simp] theorem writeCode_advisor (p : Polled) (code : Nat) : (writeCode p code s).advisor = s.advisor := rfl
@[simp] theorem writeCode_batch (p : Polled) (code : Nat) : (writeCode p code s).batch = s.batch := rfl
@[simp] theorem writeCode_host (p : Polled) (code : Nat) : (writeCode p code s).host = s.host := rfl
@[simp] theorem writeCode_pending (p : Polled) (code : Nat) : (writeCode p code s).pending = s.pending := rfl

/-! ### renewNext -/

@[simp] theorem renewNext_tick (p : Polled) : (renewNext p s).tick = s.tick := rfl
@[simp] theorem renewNext_params (p : Polled) : (renewNext p s).params = s.params := rfl
@[simp] theorem renewNext_staging (p : Polled) : (renewNext p s).staging = s.staging := rfl
@[simp] theorem renewNext_poll_table (p : Polled) : (renewNext p s).poll.table = s.poll.table := rfl
@[simp] theorem renewNext_poll_schedule (p : Polled) : (renewNext p s).poll.schedule = s.poll.schedule.set p { s.poll.schedule.get p with next := nextPoll (s.period p) s.tick } := rfl
@[simp] theorem renewNext_poll_health (p : Polled) : (renewNext p s).poll.health = s.poll.health := rfl
@[simp] theorem renewNext_poll_waiting (p : Polled) : (renewNext p s).poll.waiting = s.poll.waiting := rfl
@[simp] theorem renewNext_poll_onBus (p : Polled) : (renewNext p s).poll.onBus = s.poll.onBus := rfl
@[simp] theorem renewNext_poll_coming (p : Polled) : (renewNext p s).poll.coming = s.poll.coming := rfl
@[simp] theorem renewNext_lines (p : Polled) : (renewNext p s).lines = s.lines := rfl
@[simp] theorem renewNext_intake (p : Polled) : (renewNext p s).intake = s.intake := rfl
@[simp] theorem renewNext_route (p : Polled) : (renewNext p s).route = s.route := rfl
@[simp] theorem renewNext_angle (p : Polled) : (renewNext p s).angle = s.angle := rfl
@[simp] theorem renewNext_posture (p : Polled) : (renewNext p s).posture = s.posture := rfl
@[simp] theorem renewNext_orient (p : Polled) : (renewNext p s).orient = s.orient := rfl
@[simp] theorem renewNext_dock (p : Polled) : (renewNext p s).dock = s.dock := rfl
@[simp] theorem renewNext_latch (p : Polled) : (renewNext p s).latch = s.latch := rfl
@[simp] theorem renewNext_pen (p : Polled) : (renewNext p s).pen = s.pen := rfl
@[simp] theorem renewNext_supply (p : Polled) : (renewNext p s).supply = s.supply := rfl
@[simp] theorem renewNext_advisor (p : Polled) : (renewNext p s).advisor = s.advisor := rfl
@[simp] theorem renewNext_batch (p : Polled) : (renewNext p s).batch = s.batch := rfl
@[simp] theorem renewNext_host (p : Polled) : (renewNext p s).host = s.host := rfl
@[simp] theorem renewNext_pending (p : Polled) : (renewNext p s).pending = s.pending := rfl

/-! ### withdrawPoll -/

@[simp] theorem withdrawPoll_tick (b : Bus) : (withdrawPoll b s).tick = s.tick := rfl
@[simp] theorem withdrawPoll_params (b : Bus) : (withdrawPoll b s).params = s.params := rfl
@[simp] theorem withdrawPoll_staging (b : Bus) : (withdrawPoll b s).staging = s.staging := rfl
@[simp] theorem withdrawPoll_poll_table (b : Bus) : (withdrawPoll b s).poll.table = s.poll.table := rfl
@[simp] theorem withdrawPoll_poll_schedule (b : Bus) : (withdrawPoll b s).poll.schedule = s.poll.schedule := rfl
@[simp] theorem withdrawPoll_poll_health (b : Bus) : (withdrawPoll b s).poll.health = s.poll.health := rfl
@[simp] theorem withdrawPoll_poll_waiting (b : Bus) : (withdrawPoll b s).poll.waiting = s.poll.waiting.filter (fun w => w.source ≠ b) := rfl
@[simp] theorem withdrawPoll_poll_onBus (b : Bus) : (withdrawPoll b s).poll.onBus = s.poll.onBus := rfl
@[simp] theorem withdrawPoll_poll_coming (b : Bus) : (withdrawPoll b s).poll.coming = s.poll.coming := rfl
@[simp] theorem withdrawPoll_lines (b : Bus) : (withdrawPoll b s).lines = s.lines := rfl
@[simp] theorem withdrawPoll_intake (b : Bus) : (withdrawPoll b s).intake = s.intake := rfl
@[simp] theorem withdrawPoll_route (b : Bus) : (withdrawPoll b s).route = s.route := rfl
@[simp] theorem withdrawPoll_angle (b : Bus) : (withdrawPoll b s).angle = s.angle := rfl
@[simp] theorem withdrawPoll_posture (b : Bus) : (withdrawPoll b s).posture = s.posture := rfl
@[simp] theorem withdrawPoll_orient (b : Bus) : (withdrawPoll b s).orient = s.orient := rfl
@[simp] theorem withdrawPoll_dock (b : Bus) : (withdrawPoll b s).dock = s.dock := rfl
@[simp] theorem withdrawPoll_latch (b : Bus) : (withdrawPoll b s).latch = s.latch := rfl
@[simp] theorem withdrawPoll_pen (b : Bus) : (withdrawPoll b s).pen = s.pen := rfl
@[simp] theorem withdrawPoll_supply (b : Bus) : (withdrawPoll b s).supply = s.supply := rfl
@[simp] theorem withdrawPoll_advisor (b : Bus) : (withdrawPoll b s).advisor = s.advisor := rfl
@[simp] theorem withdrawPoll_batch (b : Bus) : (withdrawPoll b s).batch = s.batch := rfl
@[simp] theorem withdrawPoll_host (b : Bus) : (withdrawPoll b s).host = s.host := rfl
@[simp] theorem withdrawPoll_pending (b : Bus) : (withdrawPoll b s).pending = s.pending := rfl

/-! ### writeHealth -/

@[simp] theorem writeHealth_tick (b : Bus) (h : BusHealth) : (writeHealth b h s).tick = s.tick := rfl
@[simp] theorem writeHealth_params (b : Bus) (h : BusHealth) : (writeHealth b h s).params = s.params := rfl
@[simp] theorem writeHealth_staging (b : Bus) (h : BusHealth) : (writeHealth b h s).staging = s.staging := rfl
@[simp] theorem writeHealth_poll_table (b : Bus) (h : BusHealth) : (writeHealth b h s).poll.table = s.poll.table := rfl
@[simp] theorem writeHealth_poll_schedule (b : Bus) (h : BusHealth) : (writeHealth b h s).poll.schedule = s.poll.schedule := rfl
@[simp] theorem writeHealth_poll_health (b : Bus) (h : BusHealth) : (writeHealth b h s).poll.health = s.poll.health.set b h := rfl
@[simp] theorem writeHealth_poll_waiting (b : Bus) (h : BusHealth) : (writeHealth b h s).poll.waiting = s.poll.waiting := rfl
@[simp] theorem writeHealth_poll_onBus (b : Bus) (h : BusHealth) : (writeHealth b h s).poll.onBus = s.poll.onBus := rfl
@[simp] theorem writeHealth_poll_coming (b : Bus) (h : BusHealth) : (writeHealth b h s).poll.coming = s.poll.coming := rfl
@[simp] theorem writeHealth_lines (b : Bus) (h : BusHealth) : (writeHealth b h s).lines = s.lines := rfl
@[simp] theorem writeHealth_intake (b : Bus) (h : BusHealth) : (writeHealth b h s).intake = s.intake := rfl
@[simp] theorem writeHealth_route (b : Bus) (h : BusHealth) : (writeHealth b h s).route = s.route := rfl
@[simp] theorem writeHealth_angle (b : Bus) (h : BusHealth) : (writeHealth b h s).angle = s.angle := rfl
@[simp] theorem writeHealth_posture (b : Bus) (h : BusHealth) : (writeHealth b h s).posture = s.posture := rfl
@[simp] theorem writeHealth_orient (b : Bus) (h : BusHealth) : (writeHealth b h s).orient = s.orient := rfl
@[simp] theorem writeHealth_dock (b : Bus) (h : BusHealth) : (writeHealth b h s).dock = s.dock := rfl
@[simp] theorem writeHealth_latch (b : Bus) (h : BusHealth) : (writeHealth b h s).latch = s.latch := rfl
@[simp] theorem writeHealth_pen (b : Bus) (h : BusHealth) : (writeHealth b h s).pen = s.pen := rfl
@[simp] theorem writeHealth_supply (b : Bus) (h : BusHealth) : (writeHealth b h s).supply = s.supply := rfl
@[simp] theorem writeHealth_advisor (b : Bus) (h : BusHealth) : (writeHealth b h s).advisor = s.advisor := rfl
@[simp] theorem writeHealth_batch (b : Bus) (h : BusHealth) : (writeHealth b h s).batch = s.batch := rfl
@[simp] theorem writeHealth_host (b : Bus) (h : BusHealth) : (writeHealth b h s).host = s.host := rfl
@[simp] theorem writeHealth_pending (b : Bus) (h : BusHealth) : (writeHealth b h s).pending = s.pending := rfl

/-! ### freeBus -/

@[simp] theorem freeBus_tick : (freeBus s).tick = s.tick := rfl
@[simp] theorem freeBus_params : (freeBus s).params = s.params := rfl
@[simp] theorem freeBus_staging : (freeBus s).staging = s.staging := rfl
@[simp] theorem freeBus_poll_table : (freeBus s).poll.table = s.poll.table := rfl
@[simp] theorem freeBus_poll_schedule : (freeBus s).poll.schedule = s.poll.schedule := rfl
@[simp] theorem freeBus_poll_health : (freeBus s).poll.health = s.poll.health := rfl
@[simp] theorem freeBus_poll_waiting : (freeBus s).poll.waiting = s.poll.waiting := rfl
@[simp] theorem freeBus_poll_onBus : (freeBus s).poll.onBus = none := rfl
@[simp] theorem freeBus_poll_coming : (freeBus s).poll.coming = s.poll.coming := rfl
@[simp] theorem freeBus_lines : (freeBus s).lines = s.lines := rfl
@[simp] theorem freeBus_intake : (freeBus s).intake = s.intake := rfl
@[simp] theorem freeBus_route : (freeBus s).route = s.route := rfl
@[simp] theorem freeBus_angle : (freeBus s).angle = s.angle := rfl
@[simp] theorem freeBus_posture : (freeBus s).posture = s.posture := rfl
@[simp] theorem freeBus_orient : (freeBus s).orient = s.orient := rfl
@[simp] theorem freeBus_dock : (freeBus s).dock = s.dock := rfl
@[simp] theorem freeBus_latch : (freeBus s).latch = s.latch := rfl
@[simp] theorem freeBus_pen : (freeBus s).pen = s.pen := rfl
@[simp] theorem freeBus_supply : (freeBus s).supply = s.supply := rfl
@[simp] theorem freeBus_advisor : (freeBus s).advisor = s.advisor := rfl
@[simp] theorem freeBus_batch : (freeBus s).batch = s.batch := rfl
@[simp] theorem freeBus_host : (freeBus s).host = s.host := rfl
@[simp] theorem freeBus_pending : (freeBus s).pending = s.pending := rfl

/-! ### setArmed -/

@[simp] theorem setArmed_tick (n : Nat) (armed : Bool) : (setArmed n armed s).tick = s.tick := rfl
@[simp] theorem setArmed_params (n : Nat) (armed : Bool) : (setArmed n armed s).params = s.params := rfl
@[simp] theorem setArmed_staging (n : Nat) (armed : Bool) : (setArmed n armed s).staging = s.staging := rfl
@[simp] theorem setArmed_poll (n : Nat) (armed : Bool) : (setArmed n armed s).poll = s.poll := rfl
@[simp] theorem setArmed_lines (n : Nat) (armed : Bool) : (setArmed n armed s).lines = s.lines := rfl
@[simp] theorem setArmed_intake (n : Nat) (armed : Bool) : (setArmed n armed s).intake = s.intake := rfl
@[simp] theorem setArmed_route (n : Nat) (armed : Bool) : (setArmed n armed s).route = s.route := rfl
@[simp] theorem setArmed_angle (n : Nat) (armed : Bool) : (setArmed n armed s).angle = s.angle := rfl
@[simp] theorem setArmed_posture (n : Nat) (armed : Bool) : (setArmed n armed s).posture = s.posture := rfl
@[simp] theorem setArmed_orient (n : Nat) (armed : Bool) : (setArmed n armed s).orient = s.orient := rfl
@[simp] theorem setArmed_dock (n : Nat) (armed : Bool) : (setArmed n armed s).dock = s.dock := rfl
@[simp] theorem setArmed_latch (n : Nat) (armed : Bool) : (setArmed n armed s).latch = s.latch := rfl
@[simp] theorem setArmed_pen (n : Nat) (armed : Bool) : (setArmed n armed s).pen = s.pen := rfl
@[simp] theorem setArmed_supply (n : Nat) (armed : Bool) : (setArmed n armed s).supply = s.supply := rfl
@[simp] theorem setArmed_advisor_table (n : Nat) (armed : Bool) : (setArmed n armed s).advisor.table = s.advisor.table := rfl
@[simp] theorem setArmed_advisor_platform (n : Nat) (armed : Bool) : (setArmed n armed s).advisor.platform = s.advisor.platform := rfl
@[simp] theorem setArmed_advisor_advising (n : Nat) (armed : Bool) : (setArmed n armed s).advisor.advising = s.advisor.advising := rfl
@[simp] theorem setArmed_advisor_armed (n : Nat) (armed : Bool) : (setArmed n armed s).advisor.armed = s.advisor.armed.set (n - 1) armed := rfl
@[simp] theorem setArmed_advisor_lastActivity (n : Nat) (armed : Bool) : (setArmed n armed s).advisor.lastActivity = s.advisor.lastActivity := rfl
@[simp] theorem setArmed_advisor_adviceTimer (n : Nat) (armed : Bool) : (setArmed n armed s).advisor.adviceTimer = s.advisor.adviceTimer := rfl
@[simp] theorem setArmed_advisor_idleTimer (n : Nat) (armed : Bool) : (setArmed n armed s).advisor.idleTimer = s.advisor.idleTimer := rfl
@[simp] theorem setArmed_advisor_forcing (n : Nat) (armed : Bool) : (setArmed n armed s).advisor.forcing = s.advisor.forcing := rfl
@[simp] theorem setArmed_advisor_heldPosture (n : Nat) (armed : Bool) : (setArmed n armed s).advisor.heldPosture = s.advisor.heldPosture := rfl
@[simp] theorem setArmed_advisor_heldDock (n : Nat) (armed : Bool) : (setArmed n armed s).advisor.heldDock = s.advisor.heldDock := rfl
@[simp] theorem setArmed_advisor_penPresent (n : Nat) (armed : Bool) : (setArmed n armed s).advisor.penPresent = s.advisor.penPresent := rfl
@[simp] theorem setArmed_advisor_penCharging (n : Nat) (armed : Bool) : (setArmed n armed s).advisor.penCharging = s.advisor.penCharging := rfl
@[simp] theorem setArmed_advisor_latchLocked (n : Nat) (armed : Bool) : (setArmed n armed s).advisor.latchLocked = s.advisor.latchLocked := rfl
@[simp] theorem setArmed_advisor_power (n : Nat) (armed : Bool) : (setArmed n armed s).advisor.power = s.advisor.power := rfl
@[simp] theorem setArmed_batch (n : Nat) (armed : Bool) : (setArmed n armed s).batch = s.batch := rfl
@[simp] theorem setArmed_host (n : Nat) (armed : Bool) : (setArmed n armed s).host = s.host := rfl
@[simp] theorem setArmed_pending (n : Nat) (armed : Bool) : (setArmed n armed s).pending = s.pending := rfl

/-! ### holdPosture -/

@[simp] theorem holdPosture_tick (p : Posture) : (holdPosture p s).tick = s.tick := rfl
@[simp] theorem holdPosture_params (p : Posture) : (holdPosture p s).params = s.params := rfl
@[simp] theorem holdPosture_staging (p : Posture) : (holdPosture p s).staging = s.staging := rfl
@[simp] theorem holdPosture_poll (p : Posture) : (holdPosture p s).poll = s.poll := rfl
@[simp] theorem holdPosture_lines (p : Posture) : (holdPosture p s).lines = s.lines := rfl
@[simp] theorem holdPosture_intake (p : Posture) : (holdPosture p s).intake = s.intake := rfl
@[simp] theorem holdPosture_route (p : Posture) : (holdPosture p s).route = s.route := rfl
@[simp] theorem holdPosture_angle (p : Posture) : (holdPosture p s).angle = s.angle := rfl
@[simp] theorem holdPosture_posture (p : Posture) : (holdPosture p s).posture = s.posture := rfl
@[simp] theorem holdPosture_orient (p : Posture) : (holdPosture p s).orient = s.orient := rfl
@[simp] theorem holdPosture_dock (p : Posture) : (holdPosture p s).dock = s.dock := rfl
@[simp] theorem holdPosture_latch (p : Posture) : (holdPosture p s).latch = s.latch := rfl
@[simp] theorem holdPosture_pen (p : Posture) : (holdPosture p s).pen = s.pen := rfl
@[simp] theorem holdPosture_supply (p : Posture) : (holdPosture p s).supply = s.supply := rfl
@[simp] theorem holdPosture_advisor_table (p : Posture) : (holdPosture p s).advisor.table = s.advisor.table := rfl
@[simp] theorem holdPosture_advisor_platform (p : Posture) : (holdPosture p s).advisor.platform = s.advisor.platform := rfl
@[simp] theorem holdPosture_advisor_advising (p : Posture) : (holdPosture p s).advisor.advising = s.advisor.advising := rfl
@[simp] theorem holdPosture_advisor_armed (p : Posture) : (holdPosture p s).advisor.armed = s.advisor.armed := rfl
@[simp] theorem holdPosture_advisor_lastActivity (p : Posture) : (holdPosture p s).advisor.lastActivity = s.advisor.lastActivity := rfl
@[simp] theorem holdPosture_advisor_adviceTimer (p : Posture) : (holdPosture p s).advisor.adviceTimer = s.advisor.adviceTimer := rfl
@[simp] theorem holdPosture_advisor_idleTimer (p : Posture) : (holdPosture p s).advisor.idleTimer = s.advisor.idleTimer := rfl
@[simp] theorem holdPosture_advisor_forcing (p : Posture) : (holdPosture p s).advisor.forcing = s.advisor.forcing := rfl
@[simp] theorem holdPosture_advisor_heldPosture (p : Posture) : (holdPosture p s).advisor.heldPosture = p := rfl
@[simp] theorem holdPosture_advisor_heldDock (p : Posture) : (holdPosture p s).advisor.heldDock = s.advisor.heldDock := rfl
@[simp] theorem holdPosture_advisor_penPresent (p : Posture) : (holdPosture p s).advisor.penPresent = s.advisor.penPresent := rfl
@[simp] theorem holdPosture_advisor_penCharging (p : Posture) : (holdPosture p s).advisor.penCharging = s.advisor.penCharging := rfl
@[simp] theorem holdPosture_advisor_latchLocked (p : Posture) : (holdPosture p s).advisor.latchLocked = s.advisor.latchLocked := rfl
@[simp] theorem holdPosture_advisor_power (p : Posture) : (holdPosture p s).advisor.power = s.advisor.power := rfl
@[simp] theorem holdPosture_batch (p : Posture) : (holdPosture p s).batch = s.batch := rfl
@[simp] theorem holdPosture_host (p : Posture) : (holdPosture p s).host = s.host := rfl
@[simp] theorem holdPosture_pending (p : Posture) : (holdPosture p s).pending = s.pending := rfl

/-! ### holdPenPresent -/

@[simp] theorem holdPenPresent_tick (present : Bool) : (holdPenPresent present s).tick = s.tick := rfl
@[simp] theorem holdPenPresent_params (present : Bool) : (holdPenPresent present s).params = s.params := rfl
@[simp] theorem holdPenPresent_staging (present : Bool) : (holdPenPresent present s).staging = s.staging := rfl
@[simp] theorem holdPenPresent_poll (present : Bool) : (holdPenPresent present s).poll = s.poll := rfl
@[simp] theorem holdPenPresent_lines (present : Bool) : (holdPenPresent present s).lines = s.lines := rfl
@[simp] theorem holdPenPresent_intake (present : Bool) : (holdPenPresent present s).intake = s.intake := rfl
@[simp] theorem holdPenPresent_route (present : Bool) : (holdPenPresent present s).route = s.route := rfl
@[simp] theorem holdPenPresent_angle (present : Bool) : (holdPenPresent present s).angle = s.angle := rfl
@[simp] theorem holdPenPresent_posture (present : Bool) : (holdPenPresent present s).posture = s.posture := rfl
@[simp] theorem holdPenPresent_orient (present : Bool) : (holdPenPresent present s).orient = s.orient := rfl
@[simp] theorem holdPenPresent_dock (present : Bool) : (holdPenPresent present s).dock = s.dock := rfl
@[simp] theorem holdPenPresent_latch (present : Bool) : (holdPenPresent present s).latch = s.latch := rfl
@[simp] theorem holdPenPresent_pen (present : Bool) : (holdPenPresent present s).pen = s.pen := rfl
@[simp] theorem holdPenPresent_supply (present : Bool) : (holdPenPresent present s).supply = s.supply := rfl
@[simp] theorem holdPenPresent_advisor_table (present : Bool) : (holdPenPresent present s).advisor.table = s.advisor.table := rfl
@[simp] theorem holdPenPresent_advisor_platform (present : Bool) : (holdPenPresent present s).advisor.platform = s.advisor.platform := rfl
@[simp] theorem holdPenPresent_advisor_advising (present : Bool) : (holdPenPresent present s).advisor.advising = s.advisor.advising := rfl
@[simp] theorem holdPenPresent_advisor_armed (present : Bool) : (holdPenPresent present s).advisor.armed = s.advisor.armed := rfl
@[simp] theorem holdPenPresent_advisor_lastActivity (present : Bool) : (holdPenPresent present s).advisor.lastActivity = s.advisor.lastActivity := rfl
@[simp] theorem holdPenPresent_advisor_adviceTimer (present : Bool) : (holdPenPresent present s).advisor.adviceTimer = s.advisor.adviceTimer := rfl
@[simp] theorem holdPenPresent_advisor_idleTimer (present : Bool) : (holdPenPresent present s).advisor.idleTimer = s.advisor.idleTimer := rfl
@[simp] theorem holdPenPresent_advisor_forcing (present : Bool) : (holdPenPresent present s).advisor.forcing = s.advisor.forcing := rfl
@[simp] theorem holdPenPresent_advisor_heldPosture (present : Bool) : (holdPenPresent present s).advisor.heldPosture = s.advisor.heldPosture := rfl
@[simp] theorem holdPenPresent_advisor_heldDock (present : Bool) : (holdPenPresent present s).advisor.heldDock = s.advisor.heldDock := rfl
@[simp] theorem holdPenPresent_advisor_penPresent (present : Bool) : (holdPenPresent present s).advisor.penPresent = present := rfl
@[simp] theorem holdPenPresent_advisor_penCharging (present : Bool) : (holdPenPresent present s).advisor.penCharging = s.advisor.penCharging := rfl
@[simp] theorem holdPenPresent_advisor_latchLocked (present : Bool) : (holdPenPresent present s).advisor.latchLocked = s.advisor.latchLocked := rfl
@[simp] theorem holdPenPresent_advisor_power (present : Bool) : (holdPenPresent present s).advisor.power = s.advisor.power := rfl
@[simp] theorem holdPenPresent_batch (present : Bool) : (holdPenPresent present s).batch = s.batch := rfl
@[simp] theorem holdPenPresent_host (present : Bool) : (holdPenPresent present s).host = s.host := rfl
@[simp] theorem holdPenPresent_pending (present : Bool) : (holdPenPresent present s).pending = s.pending := rfl

/-! ### writeBank -/

@[simp] theorem writeBank_tick (i : BankId) (b : Bank) : (writeBank i b s).tick = s.tick := rfl
@[simp] theorem writeBank_params (i : BankId) (b : Bank) : (writeBank i b s).params = s.params := rfl
@[simp] theorem writeBank_staging (i : BankId) (b : Bank) : (writeBank i b s).staging = s.staging := rfl
@[simp] theorem writeBank_poll (i : BankId) (b : Bank) : (writeBank i b s).poll = s.poll := rfl
@[simp] theorem writeBank_lines (i : BankId) (b : Bank) : (writeBank i b s).lines = s.lines := rfl
@[simp] theorem writeBank_intake (i : BankId) (b : Bank) : (writeBank i b s).intake = s.intake := rfl
@[simp] theorem writeBank_route (i : BankId) (b : Bank) : (writeBank i b s).route = s.route := rfl
@[simp] theorem writeBank_angle (i : BankId) (b : Bank) : (writeBank i b s).angle = s.angle := rfl
@[simp] theorem writeBank_posture (i : BankId) (b : Bank) : (writeBank i b s).posture = s.posture := rfl
@[simp] theorem writeBank_orient (i : BankId) (b : Bank) : (writeBank i b s).orient = s.orient := rfl
@[simp] theorem writeBank_dock (i : BankId) (b : Bank) : (writeBank i b s).dock = s.dock := rfl
@[simp] theorem writeBank_latch (i : BankId) (b : Bank) : (writeBank i b s).latch = s.latch := rfl
@[simp] theorem writeBank_pen (i : BankId) (b : Bank) : (writeBank i b s).pen = s.pen := rfl
@[simp] theorem writeBank_supply (i : BankId) (b : Bank) : (writeBank i b s).supply = s.supply := rfl
@[simp] theorem writeBank_advisor (i : BankId) (b : Bank) : (writeBank i b s).advisor = s.advisor := rfl
@[simp] theorem writeBank_host (i : BankId) (b : Bank) : (writeBank i b s).host = s.host := rfl
@[simp] theorem writeBank_pending (i : BankId) (b : Bank) : (writeBank i b s).pending = s.pending := rfl

/-! ### freeBank -/

@[simp] theorem freeBank_tick (i : BankId) : (freeBank i s).tick = s.tick := rfl
@[simp] theorem freeBank_params (i : BankId) : (freeBank i s).params = s.params := rfl
@[simp] theorem freeBank_staging (i : BankId) : (freeBank i s).staging = s.staging := rfl
@[simp] theorem freeBank_poll (i : BankId) : (freeBank i s).poll = s.poll := rfl
@[simp] theorem freeBank_lines (i : BankId) : (freeBank i s).lines = s.lines := rfl
@[simp] theorem freeBank_intake (i : BankId) : (freeBank i s).intake = s.intake := rfl
@[simp] theorem freeBank_route (i : BankId) : (freeBank i s).route = s.route := rfl
@[simp] theorem freeBank_angle (i : BankId) : (freeBank i s).angle = s.angle := rfl
@[simp] theorem freeBank_posture (i : BankId) : (freeBank i s).posture = s.posture := rfl
@[simp] theorem freeBank_orient (i : BankId) : (freeBank i s).orient = s.orient := rfl
@[simp] theorem freeBank_dock (i : BankId) : (freeBank i s).dock = s.dock := rfl
@[simp] theorem freeBank_latch (i : BankId) : (freeBank i s).latch = s.latch := rfl
@[simp] theorem freeBank_pen (i : BankId) : (freeBank i s).pen = s.pen := rfl
@[simp] theorem freeBank_supply (i : BankId) : (freeBank i s).supply = s.supply := rfl
@[simp] theorem freeBank_advisor (i : BankId) : (freeBank i s).advisor = s.advisor := rfl
@[simp] theorem freeBank_host (i : BankId) : (freeBank i s).host = s.host := rfl
@[simp] theorem freeBank_pending (i : BankId) : (freeBank i s).pending = s.pending := rfl

/-! ### beginFill -/

@[simp] theorem beginFill_tick (i : BankId) (gapBefore : Bool) : (beginFill i gapBefore s).tick = s.tick := rfl
@[simp] theorem beginFill_params (i : BankId) (gapBefore : Bool) : (beginFill i gapBefore s).params = s.params := rfl
@[simp] theorem beginFill_staging (i : BankId) (gapBefore : Bool) : (beginFill i gapBefore s).staging = s.staging := rfl
@[simp] theorem beginFill_poll (i : BankId) (gapBefore : Bool) : (beginFill i gapBefore s).poll = s.poll := rfl
@[simp] theorem beginFill_lines (i : BankId) (gapBefore : Bool) : (beginFill i gapBefore s).lines = s.lines := rfl
@[simp] theorem beginFill_intake (i : BankId) (gapBefore : Bool) : (beginFill i gapBefore s).intake = s.intake := rfl
@[simp] theorem beginFill_route (i : BankId) (gapBefore : Bool) : (beginFill i gapBefore s).route = s.route := rfl
@[simp] theorem beginFill_angle (i : BankId) (gapBefore : Bool) : (beginFill i gapBefore s).angle = s.angle := rfl
@[simp] theorem beginFill_posture (i : BankId) (gapBefore : Bool) : (beginFill i gapBefore s).posture = s.posture := rfl
@[simp] theorem beginFill_orient (i : BankId) (gapBefore : Bool) : (beginFill i gapBefore s).orient = s.orient := rfl
@[simp] theorem beginFill_dock (i : BankId) (gapBefore : Bool) : (beginFill i gapBefore s).dock = s.dock := rfl
@[simp] theorem beginFill_latch (i : BankId) (gapBefore : Bool) : (beginFill i gapBefore s).latch = s.latch := rfl
@[simp] theorem beginFill_pen (i : BankId) (gapBefore : Bool) : (beginFill i gapBefore s).pen = s.pen := rfl
@[simp] theorem beginFill_supply (i : BankId) (gapBefore : Bool) : (beginFill i gapBefore s).supply = s.supply := rfl
@[simp] theorem beginFill_advisor (i : BankId) (gapBefore : Bool) : (beginFill i gapBefore s).advisor = s.advisor := rfl
@[simp] theorem beginFill_host (i : BankId) (gapBefore : Bool) : (beginFill i gapBefore s).host = s.host := rfl
@[simp] theorem beginFill_pending (i : BankId) (gapBefore : Bool) : (beginFill i gapBefore s).pending = s.pending := rfl

/-! ### clearRotation -/

@[simp] theorem clearRotation_tick : (clearRotation s).tick = s.tick := rfl
@[simp] theorem clearRotation_params : (clearRotation s).params = s.params := rfl
@[simp] theorem clearRotation_staging : (clearRotation s).staging = s.staging := rfl
@[simp] theorem clearRotation_poll : (clearRotation s).poll = s.poll := rfl
@[simp] theorem clearRotation_lines : (clearRotation s).lines = s.lines := rfl
@[simp] theorem clearRotation_intake : (clearRotation s).intake = s.intake := rfl
@[simp] theorem clearRotation_route : (clearRotation s).route = s.route := rfl
@[simp] theorem clearRotation_angle : (clearRotation s).angle = s.angle := rfl
@[simp] theorem clearRotation_posture : (clearRotation s).posture = s.posture := rfl
@[simp] theorem clearRotation_orient_table : (clearRotation s).orient.table = s.orient.table := rfl
@[simp] theorem clearRotation_orient_current : (clearRotation s).orient.current = s.orient.current := rfl
@[simp] theorem clearRotation_orient_candidate : (clearRotation s).orient.candidate = none := rfl
@[simp] theorem clearRotation_orient_dwell : (clearRotation s).orient.dwell = none := rfl
@[simp] theorem clearRotation_orient_locked : (clearRotation s).orient.locked = s.orient.locked := rfl
@[simp] theorem clearRotation_orient_heldO : (clearRotation s).orient.heldO = s.orient.heldO := rfl
@[simp] theorem clearRotation_orient_heldFlat : (clearRotation s).orient.heldFlat = s.orient.heldFlat := rfl
@[simp] theorem clearRotation_orient_posture : (clearRotation s).orient.posture = s.orient.posture := rfl
@[simp] theorem clearRotation_dock : (clearRotation s).dock = s.dock := rfl
@[simp] theorem clearRotation_latch : (clearRotation s).latch = s.latch := rfl
@[simp] theorem clearRotation_pen : (clearRotation s).pen = s.pen := rfl
@[simp] theorem clearRotation_supply : (clearRotation s).supply = s.supply := rfl
@[simp] theorem clearRotation_advisor : (clearRotation s).advisor = s.advisor := rfl
@[simp] theorem clearRotation_batch : (clearRotation s).batch = s.batch := rfl
@[simp] theorem clearRotation_host : (clearRotation s).host = s.host := rfl
@[simp] theorem clearRotation_pending : (clearRotation s).pending = s.pending := rfl

/-! ### clearPosture -/

@[simp] theorem clearPosture_tick : (clearPosture s).tick = s.tick := rfl
@[simp] theorem clearPosture_params : (clearPosture s).params = s.params := rfl
@[simp] theorem clearPosture_staging : (clearPosture s).staging = s.staging := rfl
@[simp] theorem clearPosture_poll : (clearPosture s).poll = s.poll := rfl
@[simp] theorem clearPosture_lines : (clearPosture s).lines = s.lines := rfl
@[simp] theorem clearPosture_intake : (clearPosture s).intake = s.intake := rfl
@[simp] theorem clearPosture_route : (clearPosture s).route = s.route := rfl
@[simp] theorem clearPosture_angle : (clearPosture s).angle = s.angle := rfl
@[simp] theorem clearPosture_posture_table : (clearPosture s).posture.table = s.posture.table := rfl
@[simp] theorem clearPosture_posture_posture : (clearPosture s).posture.posture = s.posture.posture := rfl
@[simp] theorem clearPosture_posture_row : (clearPosture s).posture.row = s.posture.row := rfl
@[simp] theorem clearPosture_posture_candidate : (clearPosture s).posture.candidate = none := rfl
@[simp] theorem clearPosture_posture_dwell : (clearPosture s).posture.dwell = none := rfl
@[simp] theorem clearPosture_posture_hallClosed : (clearPosture s).posture.hallClosed = s.posture.hallClosed := rfl
@[simp] theorem clearPosture_posture_hallFolded : (clearPosture s).posture.hallFolded = s.posture.hallFolded := rfl
@[simp] theorem clearPosture_posture_heldHf : (clearPosture s).posture.heldHf = s.posture.heldHf := rfl
@[simp] theorem clearPosture_posture_attitude : (clearPosture s).posture.attitude = s.posture.attitude := rfl
@[simp] theorem clearPosture_posture_attached : (clearPosture s).posture.attached = s.posture.attached := rfl
@[simp] theorem clearPosture_orient : (clearPosture s).orient = s.orient := rfl
@[simp] theorem clearPosture_dock : (clearPosture s).dock = s.dock := rfl
@[simp] theorem clearPosture_latch : (clearPosture s).latch = s.latch := rfl
@[simp] theorem clearPosture_pen : (clearPosture s).pen = s.pen := rfl
@[simp] theorem clearPosture_supply : (clearPosture s).supply = s.supply := rfl
@[simp] theorem clearPosture_advisor : (clearPosture s).advisor = s.advisor := rfl
@[simp] theorem clearPosture_batch : (clearPosture s).batch = s.batch := rfl
@[simp] theorem clearPosture_host : (clearPosture s).host = s.host := rfl
@[simp] theorem clearPosture_pending : (clearPosture s).pending = s.pending := rfl

/-! ### movePen -/

@[simp] theorem movePen_tick (dest : PenState) (leading : Option Gate) : (movePen dest leading s).tick = s.tick := rfl
@[simp] theorem movePen_params (dest : PenState) (leading : Option Gate) : (movePen dest leading s).params = s.params := rfl
@[simp] theorem movePen_staging (dest : PenState) (leading : Option Gate) : (movePen dest leading s).staging = s.staging := rfl
@[simp] theorem movePen_poll (dest : PenState) (leading : Option Gate) : (movePen dest leading s).poll = s.poll := rfl
@[simp] theorem movePen_lines (dest : PenState) (leading : Option Gate) : (movePen dest leading s).lines = s.lines := rfl
@[simp] theorem movePen_intake (dest : PenState) (leading : Option Gate) : (movePen dest leading s).intake = s.intake := rfl
@[simp] theorem movePen_route (dest : PenState) (leading : Option Gate) : (movePen dest leading s).route = s.route := rfl
@[simp] theorem movePen_angle (dest : PenState) (leading : Option Gate) : (movePen dest leading s).angle = s.angle := rfl
@[simp] theorem movePen_posture (dest : PenState) (leading : Option Gate) : (movePen dest leading s).posture = s.posture := rfl
@[simp] theorem movePen_orient (dest : PenState) (leading : Option Gate) : (movePen dest leading s).orient = s.orient := rfl
@[simp] theorem movePen_dock (dest : PenState) (leading : Option Gate) : (movePen dest leading s).dock = s.dock := rfl
@[simp] theorem movePen_latch (dest : PenState) (leading : Option Gate) : (movePen dest leading s).latch = s.latch := rfl
@[simp] theorem movePen_supply (dest : PenState) (leading : Option Gate) : (movePen dest leading s).supply = s.supply := rfl
@[simp] theorem movePen_advisor (dest : PenState) (leading : Option Gate) : (movePen dest leading s).advisor = s.advisor := rfl
@[simp] theorem movePen_batch (dest : PenState) (leading : Option Gate) : (movePen dest leading s).batch = s.batch := rfl
@[simp] theorem movePen_host (dest : PenState) (leading : Option Gate) : (movePen dest leading s).host = s.host := rfl
@[simp] theorem movePen_pending (dest : PenState) (leading : Option Gate) : (movePen dest leading s).pending = s.pending := rfl

/-! ### sendFrame -/

@[simp] theorem sendFrame_tick (f : List Byte) : (sendFrame f s).tick = s.tick := rfl
@[simp] theorem sendFrame_params (f : List Byte) : (sendFrame f s).params = s.params := rfl
@[simp] theorem sendFrame_staging (f : List Byte) : (sendFrame f s).staging = s.staging := rfl
@[simp] theorem sendFrame_poll (f : List Byte) : (sendFrame f s).poll = s.poll := rfl
@[simp] theorem sendFrame_lines (f : List Byte) : (sendFrame f s).lines = s.lines := rfl
@[simp] theorem sendFrame_intake (f : List Byte) : (sendFrame f s).intake = s.intake := rfl
@[simp] theorem sendFrame_route (f : List Byte) : (sendFrame f s).route = s.route := rfl
@[simp] theorem sendFrame_angle (f : List Byte) : (sendFrame f s).angle = s.angle := rfl
@[simp] theorem sendFrame_posture (f : List Byte) : (sendFrame f s).posture = s.posture := rfl
@[simp] theorem sendFrame_orient (f : List Byte) : (sendFrame f s).orient = s.orient := rfl
@[simp] theorem sendFrame_dock_state (f : List Byte) : (sendFrame f s).dock.state = s.dock.state := rfl
@[simp] theorem sendFrame_dock_identity (f : List Byte) : (sendFrame f s).dock.identity = s.dock.identity := rfl
@[simp] theorem sendFrame_dock_attempts (f : List Byte) : (sendFrame f s).dock.attempts = s.dock.attempts := rfl
@[simp] theorem sendFrame_dock_reattaches (f : List Byte) : (sendFrame f s).dock.reattaches = s.dock.reattaches := rfl
@[simp] theorem sendFrame_dock_toggles (f : List Byte) : (sendFrame f s).dock.toggles = s.dock.toggles := rfl
@[simp] theorem sendFrame_dock_silence (f : List Byte) : (sendFrame f s).dock.silence = s.dock.silence := rfl
@[simp] theorem sendFrame_dock_halted (f : List Byte) : (sendFrame f s).dock.halted = s.dock.halted := rfl
@[simp] theorem sendFrame_dock_outgoing (f : List Byte) : (sendFrame f s).dock.outgoing = s.dock.outgoing := rfl
@[simp] theorem sendFrame_dock_waiting (f : List Byte) : (sendFrame f s).dock.waiting = s.dock.waiting := rfl
@[simp] theorem sendFrame_dock_remembered (f : List Byte) : (sendFrame f s).dock.remembered = s.dock.remembered := rfl
@[simp] theorem sendFrame_dock_extraHeld (f : List Byte) : (sendFrame f s).dock.extraHeld = s.dock.extraHeld := rfl
@[simp] theorem sendFrame_dock_cycles (f : List Byte) : (sendFrame f s).dock.cycles = s.dock.cycles := rfl
@[simp] theorem sendFrame_dock_motionRunning (f : List Byte) : (sendFrame f s).dock.motionRunning = s.dock.motionRunning := rfl
@[simp] theorem sendFrame_dock_motionNext (f : List Byte) : (sendFrame f s).dock.motionNext = s.dock.motionNext := rfl
@[simp] theorem sendFrame_dock_cadence (f : List Byte) : (sendFrame f s).dock.cadence = s.dock.cadence := rfl
@[simp] theorem sendFrame_dock_lastPressed (f : List Byte) : (sendFrame f s).dock.lastPressed = s.dock.lastPressed := rfl
@[simp] theorem sendFrame_dock_identifyTimer (f : List Byte) : (sendFrame f s).dock.identifyTimer = s.dock.identifyTimer := rfl
@[simp] theorem sendFrame_dock_settleTimer (f : List Byte) : (sendFrame f s).dock.settleTimer = s.dock.settleTimer := rfl
@[simp] theorem sendFrame_dock_cycle (f : List Byte) : (sendFrame f s).dock.cycle = s.dock.cycle := rfl
@[simp] theorem sendFrame_dock_sent (f : List Byte) : (sendFrame f s).dock.sent = s.dock.sent ++ [f] := rfl
@[simp] theorem sendFrame_dock_keys (f : List Byte) : (sendFrame f s).dock.keys = s.dock.keys := rfl
@[simp] theorem sendFrame_latch (f : List Byte) : (sendFrame f s).latch = s.latch := rfl
@[simp] theorem sendFrame_pen (f : List Byte) : (sendFrame f s).pen = s.pen := rfl
@[simp] theorem sendFrame_supply (f : List Byte) : (sendFrame f s).supply = s.supply := rfl
@[simp] theorem sendFrame_advisor (f : List Byte) : (sendFrame f s).advisor = s.advisor := rfl
@[simp] theorem sendFrame_batch (f : List Byte) : (sendFrame f s).batch = s.batch := rfl
@[simp] theorem sendFrame_host (f : List Byte) : (sendFrame f s).host = s.host := rfl
@[simp] theorem sendFrame_pending (f : List Byte) : (sendFrame f s).pending = s.pending := rfl

/-! ### flipToggle -/

@[simp] theorem flipToggle_tick (c : Channel) : (flipToggle c s).tick = s.tick := rfl
@[simp] theorem flipToggle_params (c : Channel) : (flipToggle c s).params = s.params := rfl
@[simp] theorem flipToggle_staging (c : Channel) : (flipToggle c s).staging = s.staging := rfl
@[simp] theorem flipToggle_poll (c : Channel) : (flipToggle c s).poll = s.poll := rfl
@[simp] theorem flipToggle_lines (c : Channel) : (flipToggle c s).lines = s.lines := rfl
@[simp] theorem flipToggle_intake (c : Channel) : (flipToggle c s).intake = s.intake := rfl
@[simp] theorem flipToggle_route (c : Channel) : (flipToggle c s).route = s.route := rfl
@[simp] theorem flipToggle_angle (c : Channel) : (flipToggle c s).angle = s.angle := rfl
@[simp] theorem flipToggle_posture (c : Channel) : (flipToggle c s).posture = s.posture := rfl
@[simp] theorem flipToggle_orient (c : Channel) : (flipToggle c s).orient = s.orient := rfl
@[simp] theorem flipToggle_dock_state (c : Channel) : (flipToggle c s).dock.state = s.dock.state := rfl
@[simp] theorem flipToggle_dock_identity (c : Channel) : (flipToggle c s).dock.identity = s.dock.identity := rfl
@[simp] theorem flipToggle_dock_attempts (c : Channel) : (flipToggle c s).dock.attempts = s.dock.attempts := rfl
@[simp] theorem flipToggle_dock_reattaches (c : Channel) : (flipToggle c s).dock.reattaches = s.dock.reattaches := rfl
@[simp] theorem flipToggle_dock_toggles (c : Channel) : (flipToggle c s).dock.toggles = s.dock.toggles.set c (!s.dock.toggles.get c) := rfl
@[simp] theorem flipToggle_dock_silence (c : Channel) : (flipToggle c s).dock.silence = s.dock.silence := rfl
@[simp] theorem flipToggle_dock_halted (c : Channel) : (flipToggle c s).dock.halted = s.dock.halted := rfl
@[simp] theorem flipToggle_dock_outgoing (c : Channel) : (flipToggle c s).dock.outgoing = s.dock.outgoing := rfl
@[simp] theorem flipToggle_dock_waiting (c : Channel) : (flipToggle c s).dock.waiting = s.dock.waiting := rfl
@[simp] theorem flipToggle_dock_remembered (c : Channel) : (flipToggle c s).dock.remembered = s.dock.remembered := rfl
@[simp] theorem flipToggle_dock_extraHeld (c : Channel) : (flipToggle c s).dock.extraHeld = s.dock.extraHeld := rfl
@[simp] theorem flipToggle_dock_cycles (c : Channel) : (flipToggle c s).dock.cycles = s.dock.cycles := rfl
@[simp] theorem flipToggle_dock_motionRunning (c : Channel) : (flipToggle c s).dock.motionRunning = s.dock.motionRunning := rfl
@[simp] theorem flipToggle_dock_motionNext (c : Channel) : (flipToggle c s).dock.motionNext = s.dock.motionNext := rfl
@[simp] theorem flipToggle_dock_cadence (c : Channel) : (flipToggle c s).dock.cadence = s.dock.cadence := rfl
@[simp] theorem flipToggle_dock_lastPressed (c : Channel) : (flipToggle c s).dock.lastPressed = s.dock.lastPressed := rfl
@[simp] theorem flipToggle_dock_identifyTimer (c : Channel) : (flipToggle c s).dock.identifyTimer = s.dock.identifyTimer := rfl
@[simp] theorem flipToggle_dock_settleTimer (c : Channel) : (flipToggle c s).dock.settleTimer = s.dock.settleTimer := rfl
@[simp] theorem flipToggle_dock_cycle (c : Channel) : (flipToggle c s).dock.cycle = s.dock.cycle := rfl
@[simp] theorem flipToggle_dock_sent (c : Channel) : (flipToggle c s).dock.sent = s.dock.sent := rfl
@[simp] theorem flipToggle_dock_keys (c : Channel) : (flipToggle c s).dock.keys = s.dock.keys := rfl
@[simp] theorem flipToggle_latch (c : Channel) : (flipToggle c s).latch = s.latch := rfl
@[simp] theorem flipToggle_pen (c : Channel) : (flipToggle c s).pen = s.pen := rfl
@[simp] theorem flipToggle_supply (c : Channel) : (flipToggle c s).supply = s.supply := rfl
@[simp] theorem flipToggle_advisor (c : Channel) : (flipToggle c s).advisor = s.advisor := rfl
@[simp] theorem flipToggle_batch (c : Channel) : (flipToggle c s).batch = s.batch := rfl
@[simp] theorem flipToggle_host (c : Channel) : (flipToggle c s).host = s.host := rfl
@[simp] theorem flipToggle_pending (c : Channel) : (flipToggle c s).pending = s.pending := rfl

/-! ### goodExchange -/

@[simp] theorem goodExchange_tick : (goodExchange s).tick = s.tick := rfl
@[simp] theorem goodExchange_params : (goodExchange s).params = s.params := rfl
@[simp] theorem goodExchange_staging : (goodExchange s).staging = s.staging := rfl
@[simp] theorem goodExchange_poll : (goodExchange s).poll = s.poll := rfl
@[simp] theorem goodExchange_lines : (goodExchange s).lines = s.lines := rfl
@[simp] theorem goodExchange_intake : (goodExchange s).intake = s.intake := rfl
@[simp] theorem goodExchange_route : (goodExchange s).route = s.route := rfl
@[simp] theorem goodExchange_angle : (goodExchange s).angle = s.angle := rfl
@[simp] theorem goodExchange_posture : (goodExchange s).posture = s.posture := rfl
@[simp] theorem goodExchange_orient : (goodExchange s).orient = s.orient := rfl
@[simp] theorem goodExchange_dock_state : (goodExchange s).dock.state = s.dock.state := rfl
@[simp] theorem goodExchange_dock_identity : (goodExchange s).dock.identity = s.dock.identity := rfl
@[simp] theorem goodExchange_dock_attempts : (goodExchange s).dock.attempts = s.dock.attempts := rfl
@[simp] theorem goodExchange_dock_reattaches : (goodExchange s).dock.reattaches = s.dock.reattaches := rfl
@[simp] theorem goodExchange_dock_toggles : (goodExchange s).dock.toggles = s.dock.toggles := rfl
@[simp] theorem goodExchange_dock_silence : (goodExchange s).dock.silence = 0 := rfl
@[simp] theorem goodExchange_dock_halted : (goodExchange s).dock.halted = s.dock.halted := rfl
@[simp] theorem goodExchange_dock_outgoing : (goodExchange s).dock.outgoing = s.dock.outgoing := rfl
@[simp] theorem goodExchange_dock_waiting : (goodExchange s).dock.waiting = s.dock.waiting := rfl
@[simp] theorem goodExchange_dock_remembered : (goodExchange s).dock.remembered = s.dock.remembered := rfl
@[simp] theorem goodExchange_dock_extraHeld : (goodExchange s).dock.extraHeld = s.dock.extraHeld := rfl
@[simp] theorem goodExchange_dock_cycles : (goodExchange s).dock.cycles = s.dock.cycles := rfl
@[simp] theorem goodExchange_dock_motionRunning : (goodExchange s).dock.motionRunning = s.dock.motionRunning := rfl
@[simp] theorem goodExchange_dock_motionNext : (goodExchange s).dock.motionNext = s.dock.motionNext := rfl
@[simp] theorem goodExchange_dock_cadence : (goodExchange s).dock.cadence = s.dock.cadence := rfl
@[simp] theorem goodExchange_dock_lastPressed : (goodExchange s).dock.lastPressed = s.dock.lastPressed := rfl
@[simp] theorem goodExchange_dock_identifyTimer : (goodExchange s).dock.identifyTimer = s.dock.identifyTimer := rfl
@[simp] theorem goodExchange_dock_settleTimer : (goodExchange s).dock.settleTimer = s.dock.settleTimer := rfl
@[simp] theorem goodExchange_dock_cycle : (goodExchange s).dock.cycle = s.dock.cycle := rfl
@[simp] theorem goodExchange_dock_sent : (goodExchange s).dock.sent = s.dock.sent := rfl
@[simp] theorem goodExchange_dock_keys : (goodExchange s).dock.keys = s.dock.keys := rfl
@[simp] theorem goodExchange_latch : (goodExchange s).latch = s.latch := rfl
@[simp] theorem goodExchange_pen : (goodExchange s).pen = s.pen := rfl
@[simp] theorem goodExchange_supply : (goodExchange s).supply = s.supply := rfl
@[simp] theorem goodExchange_advisor : (goodExchange s).advisor = s.advisor := rfl
@[simp] theorem goodExchange_batch : (goodExchange s).batch = s.batch := rfl
@[simp] theorem goodExchange_host : (goodExchange s).host = s.host := rfl
@[simp] theorem goodExchange_pending : (goodExchange s).pending = s.pending := rfl

/-! ### clearFilter -/

@[simp] theorem clearFilter_tick : (clearFilter s).tick = s.tick := rfl
@[simp] theorem clearFilter_params : (clearFilter s).params = s.params := rfl
@[simp] theorem clearFilter_staging : (clearFilter s).staging = s.staging := rfl
@[simp] theorem clearFilter_poll : (clearFilter s).poll = s.poll := rfl
@[simp] theorem clearFilter_lines : (clearFilter s).lines = s.lines := rfl
@[simp] theorem clearFilter_intake : (clearFilter s).intake = s.intake := rfl
@[simp] theorem clearFilter_route : (clearFilter s).route = s.route := rfl
@[simp] theorem clearFilter_angle_lid : (clearFilter s).angle.lid = s.angle.lid := rfl
@[simp] theorem clearFilter_angle_base : (clearFilter s).angle.base = s.angle.base := rfl
@[simp] theorem clearFilter_angle_unresolved : (clearFilter s).angle.unresolved = s.angle.unresolved := rfl
@[simp] theorem clearFilter_angle_h : (clearFilter s).angle.h = s.angle.h := rfl
@[simp] theorem clearFilter_angle_filter : (clearFilter s).angle.filter = none := rfl
@[simp] theorem clearFilter_angle_attitude : (clearFilter s).angle.attitude = s.angle.attitude := rfl
@[simp] theorem clearFilter_angle_o : (clearFilter s).angle.o = s.angle.o := rfl
@[simp] theorem clearFilter_angle_flat : (clearFilter s).angle.flat = s.angle.flat := rfl
@[simp] theorem clearFilter_posture : (clearFilter s).posture = s.posture := rfl
@[simp] theorem clearFilter_orient : (clearFilter s).orient = s.orient := rfl
@[simp] theorem clearFilter_dock : (clearFilter s).dock = s.dock := rfl
@[simp] theorem clearFilter_latch : (clearFilter s).latch = s.latch := rfl
@[simp] theorem clearFilter_pen : (clearFilter s).pen = s.pen := rfl
@[simp] theorem clearFilter_supply : (clearFilter s).supply = s.supply := rfl
@[simp] theorem clearFilter_advisor : (clearFilter s).advisor = s.advisor := rfl
@[simp] theorem clearFilter_batch : (clearFilter s).batch = s.batch := rfl
@[simp] theorem clearFilter_host : (clearFilter s).host = s.host := rfl
@[simp] theorem clearFilter_pending : (clearFilter s).pending = s.pending := rfl

/-! ### discardBase -/

@[simp] theorem discardBase_tick : (discardBase s).tick = s.tick := rfl
@[simp] theorem discardBase_params : (discardBase s).params = s.params := rfl
@[simp] theorem discardBase_staging : (discardBase s).staging = s.staging := rfl
@[simp] theorem discardBase_poll : (discardBase s).poll = s.poll := rfl
@[simp] theorem discardBase_lines : (discardBase s).lines = s.lines := rfl
@[simp] theorem discardBase_intake : (discardBase s).intake = s.intake := rfl
@[simp] theorem discardBase_route : (discardBase s).route = s.route := rfl
@[simp] theorem discardBase_angle_lid : (discardBase s).angle.lid = s.angle.lid := rfl
@[simp] theorem discardBase_angle_base : (discardBase s).angle.base = none := rfl
@[simp] theorem discardBase_angle_unresolved : (discardBase s).angle.unresolved = s.angle.unresolved := rfl
@[simp] theorem discardBase_angle_h : (discardBase s).angle.h = s.angle.h := rfl
@[simp] theorem discardBase_angle_filter : (discardBase s).angle.filter = s.angle.filter := rfl
@[simp] theorem discardBase_angle_attitude : (discardBase s).angle.attitude = .none := rfl
@[simp] theorem discardBase_angle_o : (discardBase s).angle.o = s.angle.o := rfl
@[simp] theorem discardBase_angle_flat : (discardBase s).angle.flat = s.angle.flat := rfl
@[simp] theorem discardBase_posture : (discardBase s).posture = s.posture := rfl
@[simp] theorem discardBase_orient : (discardBase s).orient = s.orient := rfl
@[simp] theorem discardBase_dock : (discardBase s).dock = s.dock := rfl
@[simp] theorem discardBase_latch : (discardBase s).latch = s.latch := rfl
@[simp] theorem discardBase_pen : (discardBase s).pen = s.pen := rfl
@[simp] theorem discardBase_supply : (discardBase s).supply = s.supply := rfl
@[simp] theorem discardBase_advisor : (discardBase s).advisor = s.advisor := rfl
@[simp] theorem discardBase_batch : (discardBase s).batch = s.batch := rfl
@[simp] theorem discardBase_host : (discardBase s).host = s.host := rfl
@[simp] theorem discardBase_pending : (discardBase s).pending = s.pending := rfl

/-! ### openLatch -/

@[simp] theorem openLatch_tick : (openLatch s).tick = s.tick := rfl
@[simp] theorem openLatch_params : (openLatch s).params = s.params := rfl
@[simp] theorem openLatch_staging : (openLatch s).staging = s.staging := rfl
@[simp] theorem openLatch_poll : (openLatch s).poll = s.poll := rfl
@[simp] theorem openLatch_lines : (openLatch s).lines = s.lines := rfl
@[simp] theorem openLatch_intake : (openLatch s).intake = s.intake := rfl
@[simp] theorem openLatch_route : (openLatch s).route = s.route := rfl
@[simp] theorem openLatch_angle : (openLatch s).angle = s.angle := rfl
@[simp] theorem openLatch_posture : (openLatch s).posture = s.posture := rfl
@[simp] theorem openLatch_orient : (openLatch s).orient = s.orient := rfl
@[simp] theorem openLatch_dock : (openLatch s).dock = s.dock := rfl
@[simp] theorem openLatch_pen : (openLatch s).pen = s.pen := rfl
@[simp] theorem openLatch_supply : (openLatch s).supply = s.supply := rfl
@[simp] theorem openLatch_advisor : (openLatch s).advisor = s.advisor := rfl
@[simp] theorem openLatch_batch : (openLatch s).batch = s.batch := rfl
@[simp] theorem openLatch_host : (openLatch s).host = s.host := rfl
@[simp] theorem openLatch_pending : (openLatch s).pending = s.pending := rfl

/-! ### writeRuntime -/

@[simp] theorem writeRuntime_tick (n : Nat) (r : RouteRuntime) : (writeRuntime n r s).tick = s.tick := rfl
@[simp] theorem writeRuntime_params (n : Nat) (r : RouteRuntime) : (writeRuntime n r s).params = s.params := rfl
@[simp] theorem writeRuntime_staging (n : Nat) (r : RouteRuntime) : (writeRuntime n r s).staging = s.staging := rfl
@[simp] theorem writeRuntime_poll (n : Nat) (r : RouteRuntime) : (writeRuntime n r s).poll = s.poll := rfl
@[simp] theorem writeRuntime_lines (n : Nat) (r : RouteRuntime) : (writeRuntime n r s).lines = s.lines := rfl
@[simp] theorem writeRuntime_intake (n : Nat) (r : RouteRuntime) : (writeRuntime n r s).intake = s.intake := rfl
@[simp] theorem writeRuntime_route_table (n : Nat) (r : RouteRuntime) : (writeRuntime n r s).route.table = s.route.table := rfl
@[simp] theorem writeRuntime_route_runtime (n : Nat) (r : RouteRuntime) : (writeRuntime n r s).route.runtime = s.route.runtime.set n r := rfl
@[simp] theorem writeRuntime_route_hold (n : Nat) (r : RouteRuntime) : (writeRuntime n r s).route.hold = s.route.hold := rfl
@[simp] theorem writeRuntime_route_walking (n : Nat) (r : RouteRuntime) : (writeRuntime n r s).route.walking = s.route.walking := rfl
@[simp] theorem writeRuntime_angle (n : Nat) (r : RouteRuntime) : (writeRuntime n r s).angle = s.angle := rfl
@[simp] theorem writeRuntime_posture (n : Nat) (r : RouteRuntime) : (writeRuntime n r s).posture = s.posture := rfl
@[simp] theorem writeRuntime_orient (n : Nat) (r : RouteRuntime) : (writeRuntime n r s).orient = s.orient := rfl
@[simp] theorem writeRuntime_dock (n : Nat) (r : RouteRuntime) : (writeRuntime n r s).dock = s.dock := rfl
@[simp] theorem writeRuntime_latch (n : Nat) (r : RouteRuntime) : (writeRuntime n r s).latch = s.latch := rfl
@[simp] theorem writeRuntime_pen (n : Nat) (r : RouteRuntime) : (writeRuntime n r s).pen = s.pen := rfl
@[simp] theorem writeRuntime_supply (n : Nat) (r : RouteRuntime) : (writeRuntime n r s).supply = s.supply := rfl
@[simp] theorem writeRuntime_advisor (n : Nat) (r : RouteRuntime) : (writeRuntime n r s).advisor = s.advisor := rfl
@[simp] theorem writeRuntime_batch (n : Nat) (r : RouteRuntime) : (writeRuntime n r s).batch = s.batch := rfl
@[simp] theorem writeRuntime_host (n : Nat) (r : RouteRuntime) : (writeRuntime n r s).host = s.host := rfl
@[simp] theorem writeRuntime_pending (n : Nat) (r : RouteRuntime) : (writeRuntime n r s).pending = s.pending := rfl

/-! ### applyRoute -/

@[simp] theorem applyRoute_tick : (applyRoute s).tick = s.tick := rfl
@[simp] theorem applyRoute_params : (applyRoute s).params = s.params := rfl
@[simp] theorem applyRoute_staging : (applyRoute s).staging = s.staging := rfl
@[simp] theorem applyRoute_poll : (applyRoute s).poll = s.poll := rfl
@[simp] theorem applyRoute_lines : (applyRoute s).lines = s.lines := rfl
@[simp] theorem applyRoute_intake : (applyRoute s).intake = s.intake := rfl
@[simp] theorem applyRoute_route_table : (applyRoute s).route.table = s.staging.route.map readRouteEntry := rfl
@[simp] theorem applyRoute_route_runtime : (applyRoute s).route.runtime = runtimeReset := rfl
@[simp] theorem applyRoute_route_hold : (applyRoute s).route.hold = s.route.hold := rfl
@[simp] theorem applyRoute_route_walking : (applyRoute s).route.walking = s.route.walking := rfl
@[simp] theorem applyRoute_angle : (applyRoute s).angle = s.angle := rfl
@[simp] theorem applyRoute_posture : (applyRoute s).posture = s.posture := rfl
@[simp] theorem applyRoute_orient : (applyRoute s).orient = s.orient := rfl
@[simp] theorem applyRoute_dock : (applyRoute s).dock = s.dock := rfl
@[simp] theorem applyRoute_latch : (applyRoute s).latch = s.latch := rfl
@[simp] theorem applyRoute_pen : (applyRoute s).pen = s.pen := rfl
@[simp] theorem applyRoute_supply : (applyRoute s).supply = s.supply := rfl
@[simp] theorem applyRoute_advisor : (applyRoute s).advisor = s.advisor := rfl
@[simp] theorem applyRoute_batch : (applyRoute s).batch = s.batch := rfl
@[simp] theorem applyRoute_host : (applyRoute s).host = s.host := rfl
@[simp] theorem applyRoute_pending : (applyRoute s).pending = s.pending := rfl

/-! ### walkOn -/

@[simp] theorem walkOn_tick (w : Traversal) : (walkOn w s).tick = s.tick := rfl
@[simp] theorem walkOn_params (w : Traversal) : (walkOn w s).params = s.params := rfl
@[simp] theorem walkOn_staging (w : Traversal) : (walkOn w s).staging = s.staging := rfl
@[simp] theorem walkOn_poll (w : Traversal) : (walkOn w s).poll = s.poll := rfl
@[simp] theorem walkOn_lines (w : Traversal) : (walkOn w s).lines = s.lines := rfl
@[simp] theorem walkOn_intake (w : Traversal) : (walkOn w s).intake = s.intake := rfl
@[simp] theorem walkOn_route_table (w : Traversal) : (walkOn w s).route.table = s.route.table := rfl
@[simp] theorem walkOn_route_runtime (w : Traversal) : (walkOn w s).route.runtime = s.route.runtime := rfl
@[simp] theorem walkOn_route_hold (w : Traversal) : (walkOn w s).route.hold = s.route.hold := rfl
@[simp] theorem walkOn_route_walking (w : Traversal) : (walkOn w s).route.walking = some w := rfl
@[simp] theorem walkOn_angle (w : Traversal) : (walkOn w s).angle = s.angle := rfl
@[simp] theorem walkOn_posture (w : Traversal) : (walkOn w s).posture = s.posture := rfl
@[simp] theorem walkOn_orient (w : Traversal) : (walkOn w s).orient = s.orient := rfl
@[simp] theorem walkOn_dock (w : Traversal) : (walkOn w s).dock = s.dock := rfl
@[simp] theorem walkOn_latch (w : Traversal) : (walkOn w s).latch = s.latch := rfl
@[simp] theorem walkOn_pen (w : Traversal) : (walkOn w s).pen = s.pen := rfl
@[simp] theorem walkOn_supply (w : Traversal) : (walkOn w s).supply = s.supply := rfl
@[simp] theorem walkOn_advisor (w : Traversal) : (walkOn w s).advisor = s.advisor := rfl
@[simp] theorem walkOn_batch (w : Traversal) : (walkOn w s).batch = s.batch := rfl
@[simp] theorem walkOn_host (w : Traversal) : (walkOn w s).host = s.host := rfl
@[simp] theorem walkOn_pending (w : Traversal) : (walkOn w s).pending = s.pending := rfl

/-! ### countTick -/

@[simp] theorem countTick_tick : (countTick s).tick = s.tick + 1 := rfl
@[simp] theorem countTick_params : (countTick s).params = s.params := rfl
@[simp] theorem countTick_staging : (countTick s).staging = s.staging := rfl
@[simp] theorem countTick_poll : (countTick s).poll = s.poll := rfl
@[simp] theorem countTick_lines : (countTick s).lines = s.lines := rfl
@[simp] theorem countTick_intake : (countTick s).intake = s.intake := rfl
@[simp] theorem countTick_route : (countTick s).route = s.route := rfl
@[simp] theorem countTick_angle : (countTick s).angle = s.angle := rfl
@[simp] theorem countTick_posture : (countTick s).posture = s.posture := rfl
@[simp] theorem countTick_orient : (countTick s).orient = s.orient := rfl
@[simp] theorem countTick_dock : (countTick s).dock = s.dock := rfl
@[simp] theorem countTick_latch : (countTick s).latch = s.latch := rfl
@[simp] theorem countTick_pen : (countTick s).pen = s.pen := rfl
@[simp] theorem countTick_supply : (countTick s).supply = s.supply := rfl
@[simp] theorem countTick_advisor : (countTick s).advisor = s.advisor := rfl
@[simp] theorem countTick_batch : (countTick s).batch = s.batch := rfl
@[simp] theorem countTick_host : (countTick s).host = s.host := rfl
@[simp] theorem countTick_pending : (countTick s).pending = s.pending := rfl

/-! ### observeLines -/

@[simp] theorem observeLines_tick (levels : LineLevels) : (observeLines levels s).tick = s.tick := rfl
@[simp] theorem observeLines_params (levels : LineLevels) : (observeLines levels s).params = s.params := rfl
@[simp] theorem observeLines_staging (levels : LineLevels) : (observeLines levels s).staging = s.staging := rfl
@[simp] theorem observeLines_poll (levels : LineLevels) : (observeLines levels s).poll = s.poll := rfl
@[simp] theorem observeLines_intake (levels : LineLevels) : (observeLines levels s).intake = s.intake := rfl
@[simp] theorem observeLines_route (levels : LineLevels) : (observeLines levels s).route = s.route := rfl
@[simp] theorem observeLines_angle (levels : LineLevels) : (observeLines levels s).angle = s.angle := rfl
@[simp] theorem observeLines_posture (levels : LineLevels) : (observeLines levels s).posture = s.posture := rfl
@[simp] theorem observeLines_orient (levels : LineLevels) : (observeLines levels s).orient = s.orient := rfl
@[simp] theorem observeLines_dock (levels : LineLevels) : (observeLines levels s).dock = s.dock := rfl
@[simp] theorem observeLines_latch (levels : LineLevels) : (observeLines levels s).latch = s.latch := rfl
@[simp] theorem observeLines_pen (levels : LineLevels) : (observeLines levels s).pen = s.pen := rfl
@[simp] theorem observeLines_supply (levels : LineLevels) : (observeLines levels s).supply = s.supply := rfl
@[simp] theorem observeLines_advisor (levels : LineLevels) : (observeLines levels s).advisor = s.advisor := rfl
@[simp] theorem observeLines_batch (levels : LineLevels) : (observeLines levels s).batch = s.batch := rfl
@[simp] theorem observeLines_host (levels : LineLevels) : (observeLines levels s).host = s.host := rfl
@[simp] theorem observeLines_pending (levels : LineLevels) : (observeLines levels s).pending = s.pending := rfl

/-! ### endTransaction -/

@[simp] theorem endTransaction_tick : (endTransaction s).tick = s.tick := rfl
@[simp] theorem endTransaction_params : (endTransaction s).params = s.params := rfl
@[simp] theorem endTransaction_staging : (endTransaction s).staging = s.staging := rfl
@[simp] theorem endTransaction_poll : (endTransaction s).poll = s.poll := rfl
@[simp] theorem endTransaction_lines : (endTransaction s).lines = s.lines := rfl
@[simp] theorem endTransaction_intake : (endTransaction s).intake = s.intake := rfl
@[simp] theorem endTransaction_route : (endTransaction s).route = s.route := rfl
@[simp] theorem endTransaction_angle : (endTransaction s).angle = s.angle := rfl
@[simp] theorem endTransaction_posture : (endTransaction s).posture = s.posture := rfl
@[simp] theorem endTransaction_orient : (endTransaction s).orient = s.orient := rfl
@[simp] theorem endTransaction_dock : (endTransaction s).dock = s.dock := rfl
@[simp] theorem endTransaction_latch : (endTransaction s).latch = s.latch := rfl
@[simp] theorem endTransaction_pen : (endTransaction s).pen = s.pen := rfl
@[simp] theorem endTransaction_supply : (endTransaction s).supply = s.supply := rfl
@[simp] theorem endTransaction_advisor : (endTransaction s).advisor = s.advisor := rfl
@[simp] theorem endTransaction_batch : (endTransaction s).batch = s.batch := rfl
@[simp] theorem endTransaction_host_slot : (endTransaction s).host.slot = s.host.slot := rfl
@[simp] theorem endTransaction_host_events : (endTransaction s).host.events = s.host.events := rfl
@[simp] theorem endTransaction_host_samples : (endTransaction s).host.samples = s.host.samples := rfl
@[simp] theorem endTransaction_host_transaction : (endTransaction s).host.transaction = none := rfl
@[simp] theorem endTransaction_host_pulse : (endTransaction s).host.pulse = s.host.pulse := rfl
@[simp] theorem endTransaction_pending : (endTransaction s).pending = s.pending := rfl

/-! ### respond -/

@[simp] theorem respond_tick (tag kind : Byte) (body : ResponseBody) : (respond tag kind body s).tick = s.tick := rfl
@[simp] theorem respond_params (tag kind : Byte) (body : ResponseBody) : (respond tag kind body s).params = s.params := rfl
@[simp] theorem respond_staging (tag kind : Byte) (body : ResponseBody) : (respond tag kind body s).staging = s.staging := rfl
@[simp] theorem respond_poll (tag kind : Byte) (body : ResponseBody) : (respond tag kind body s).poll = s.poll := rfl
@[simp] theorem respond_lines (tag kind : Byte) (body : ResponseBody) : (respond tag kind body s).lines = s.lines := rfl
@[simp] theorem respond_intake (tag kind : Byte) (body : ResponseBody) : (respond tag kind body s).intake = s.intake := rfl
@[simp] theorem respond_route (tag kind : Byte) (body : ResponseBody) : (respond tag kind body s).route = s.route := rfl
@[simp] theorem respond_angle (tag kind : Byte) (body : ResponseBody) : (respond tag kind body s).angle = s.angle := rfl
@[simp] theorem respond_posture (tag kind : Byte) (body : ResponseBody) : (respond tag kind body s).posture = s.posture := rfl
@[simp] theorem respond_orient (tag kind : Byte) (body : ResponseBody) : (respond tag kind body s).orient = s.orient := rfl
@[simp] theorem respond_dock (tag kind : Byte) (body : ResponseBody) : (respond tag kind body s).dock = s.dock := rfl
@[simp] theorem respond_latch (tag kind : Byte) (body : ResponseBody) : (respond tag kind body s).latch = s.latch := rfl
@[simp] theorem respond_pen (tag kind : Byte) (body : ResponseBody) : (respond tag kind body s).pen = s.pen := rfl
@[simp] theorem respond_supply (tag kind : Byte) (body : ResponseBody) : (respond tag kind body s).supply = s.supply := rfl
@[simp] theorem respond_advisor (tag kind : Byte) (body : ResponseBody) : (respond tag kind body s).advisor = s.advisor := rfl
@[simp] theorem respond_batch (tag kind : Byte) (body : ResponseBody) : (respond tag kind body s).batch = s.batch := rfl
@[simp] theorem respond_host_slot (tag kind : Byte) (body : ResponseBody) : (respond tag kind body s).host.slot = some { tag := tag, kind := kind, body := body } := rfl
@[simp] theorem respond_host_events (tag kind : Byte) (body : ResponseBody) : (respond tag kind body s).host.events = s.host.events := rfl
@[simp] theorem respond_host_samples (tag kind : Byte) (body : ResponseBody) : (respond tag kind body s).host.samples = s.host.samples := rfl
@[simp] theorem respond_host_transaction (tag kind : Byte) (body : ResponseBody) : (respond tag kind body s).host.transaction = s.host.transaction := rfl
@[simp] theorem respond_host_pulse (tag kind : Byte) (body : ResponseBody) : (respond tag kind body s).host.pulse = s.host.pulse := rfl
@[simp] theorem respond_pending (tag kind : Byte) (body : ResponseBody) : (respond tag kind body s).pending = s.pending := rfl

/-! ### setForcing -/

@[simp] theorem setForcing_tick (on : Bool) : (setForcing on s).tick = s.tick := rfl
@[simp] theorem setForcing_params (on : Bool) : (setForcing on s).params = s.params := rfl
@[simp] theorem setForcing_staging (on : Bool) : (setForcing on s).staging = s.staging := rfl
@[simp] theorem setForcing_poll (on : Bool) : (setForcing on s).poll = s.poll := rfl
@[simp] theorem setForcing_lines (on : Bool) : (setForcing on s).lines = s.lines := rfl
@[simp] theorem setForcing_intake (on : Bool) : (setForcing on s).intake = s.intake := rfl
@[simp] theorem setForcing_route (on : Bool) : (setForcing on s).route = s.route := rfl
@[simp] theorem setForcing_angle (on : Bool) : (setForcing on s).angle = s.angle := rfl
@[simp] theorem setForcing_posture (on : Bool) : (setForcing on s).posture = s.posture := rfl
@[simp] theorem setForcing_orient (on : Bool) : (setForcing on s).orient = s.orient := rfl
@[simp] theorem setForcing_dock (on : Bool) : (setForcing on s).dock = s.dock := rfl
@[simp] theorem setForcing_latch (on : Bool) : (setForcing on s).latch = s.latch := rfl
@[simp] theorem setForcing_pen (on : Bool) : (setForcing on s).pen = s.pen := rfl
@[simp] theorem setForcing_supply (on : Bool) : (setForcing on s).supply = s.supply := rfl
@[simp] theorem setForcing_advisor_table (on : Bool) : (setForcing on s).advisor.table = s.advisor.table := rfl
@[simp] theorem setForcing_advisor_platform (on : Bool) : (setForcing on s).advisor.platform = s.advisor.platform := rfl
@[simp] theorem setForcing_advisor_advising (on : Bool) : (setForcing on s).advisor.advising = s.advisor.advising := rfl
@[simp] theorem setForcing_advisor_armed (on : Bool) : (setForcing on s).advisor.armed = s.advisor.armed := rfl
@[simp] theorem setForcing_advisor_lastActivity (on : Bool) : (setForcing on s).advisor.lastActivity = s.advisor.lastActivity := rfl
@[simp] theorem setForcing_advisor_adviceTimer (on : Bool) : (setForcing on s).advisor.adviceTimer = s.advisor.adviceTimer := rfl
@[simp] theorem setForcing_advisor_idleTimer (on : Bool) : (setForcing on s).advisor.idleTimer = s.advisor.idleTimer := rfl
@[simp] theorem setForcing_advisor_forcing (on : Bool) : (setForcing on s).advisor.forcing = on := rfl
@[simp] theorem setForcing_advisor_heldPosture (on : Bool) : (setForcing on s).advisor.heldPosture = s.advisor.heldPosture := rfl
@[simp] theorem setForcing_advisor_heldDock (on : Bool) : (setForcing on s).advisor.heldDock = s.advisor.heldDock := rfl
@[simp] theorem setForcing_advisor_penPresent (on : Bool) : (setForcing on s).advisor.penPresent = s.advisor.penPresent := rfl
@[simp] theorem setForcing_advisor_penCharging (on : Bool) : (setForcing on s).advisor.penCharging = s.advisor.penCharging := rfl
@[simp] theorem setForcing_advisor_latchLocked (on : Bool) : (setForcing on s).advisor.latchLocked = s.advisor.latchLocked := rfl
@[simp] theorem setForcing_advisor_power (on : Bool) : (setForcing on s).advisor.power = s.advisor.power := rfl
@[simp] theorem setForcing_batch (on : Bool) : (setForcing on s).batch = s.batch := rfl
@[simp] theorem setForcing_host (on : Bool) : (setForcing on s).host = s.host := rfl
@[simp] theorem setForcing_pending (on : Bool) : (setForcing on s).pending = s.pending := rfl

/-! ### movePlatform -/

@[simp] theorem movePlatform_tick (dest : Platform) : (movePlatform dest s).tick = s.tick := rfl
@[simp] theorem movePlatform_params (dest : Platform) : (movePlatform dest s).params = s.params := rfl
@[simp] theorem movePlatform_staging (dest : Platform) : (movePlatform dest s).staging = s.staging := rfl
@[simp] theorem movePlatform_poll (dest : Platform) : (movePlatform dest s).poll = s.poll := rfl
@[simp] theorem movePlatform_lines (dest : Platform) : (movePlatform dest s).lines = s.lines := rfl
@[simp] theorem movePlatform_intake (dest : Platform) : (movePlatform dest s).intake = s.intake := rfl
@[simp] theorem movePlatform_route (dest : Platform) : (movePlatform dest s).route = s.route := rfl
@[simp] theorem movePlatform_angle (dest : Platform) : (movePlatform dest s).angle = s.angle := rfl
@[simp] theorem movePlatform_posture (dest : Platform) : (movePlatform dest s).posture = s.posture := rfl
@[simp] theorem movePlatform_orient (dest : Platform) : (movePlatform dest s).orient = s.orient := rfl
@[simp] theorem movePlatform_dock (dest : Platform) : (movePlatform dest s).dock = s.dock := rfl
@[simp] theorem movePlatform_latch (dest : Platform) : (movePlatform dest s).latch = s.latch := rfl
@[simp] theorem movePlatform_pen (dest : Platform) : (movePlatform dest s).pen = s.pen := rfl
@[simp] theorem movePlatform_supply (dest : Platform) : (movePlatform dest s).supply = s.supply := rfl
@[simp] theorem movePlatform_advisor_table (dest : Platform) : (movePlatform dest s).advisor.table = s.advisor.table := rfl
@[simp] theorem movePlatform_advisor_platform (dest : Platform) : (movePlatform dest s).advisor.platform = dest := rfl
@[simp] theorem movePlatform_advisor_advising (dest : Platform) : (movePlatform dest s).advisor.advising = none := rfl
@[simp] theorem movePlatform_advisor_armed (dest : Platform) : (movePlatform dest s).advisor.armed = s.advisor.armed := rfl
@[simp] theorem movePlatform_advisor_lastActivity (dest : Platform) : (movePlatform dest s).advisor.lastActivity = s.advisor.lastActivity := rfl
@[simp] theorem movePlatform_advisor_adviceTimer (dest : Platform) : (movePlatform dest s).advisor.adviceTimer = none := rfl
@[simp] theorem movePlatform_advisor_idleTimer (dest : Platform) : (movePlatform dest s).advisor.idleTimer = none := rfl
@[simp] theorem movePlatform_advisor_forcing (dest : Platform) : (movePlatform dest s).advisor.forcing = s.advisor.forcing := rfl
@[simp] theorem movePlatform_advisor_heldPosture (dest : Platform) : (movePlatform dest s).advisor.heldPosture = s.advisor.heldPosture := rfl
@[simp] theorem movePlatform_advisor_heldDock (dest : Platform) : (movePlatform dest s).advisor.heldDock = s.advisor.heldDock := rfl
@[simp] theorem movePlatform_advisor_penPresent (dest : Platform) : (movePlatform dest s).advisor.penPresent = s.advisor.penPresent := rfl
@[simp] theorem movePlatform_advisor_penCharging (dest : Platform) : (movePlatform dest s).advisor.penCharging = s.advisor.penCharging := rfl
@[simp] theorem movePlatform_advisor_latchLocked (dest : Platform) : (movePlatform dest s).advisor.latchLocked = s.advisor.latchLocked := rfl
@[simp] theorem movePlatform_advisor_power (dest : Platform) : (movePlatform dest s).advisor.power = s.advisor.power := rfl
@[simp] theorem movePlatform_batch (dest : Platform) : (movePlatform dest s).batch = s.batch := rfl
@[simp] theorem movePlatform_host (dest : Platform) : (movePlatform dest s).host = s.host := rfl
@[simp] theorem movePlatform_pending (dest : Platform) : (movePlatform dest s).pending = s.pending := rfl

/-! ### armRows -/

@[simp] theorem armRows_tick : (armRows s).tick = s.tick := rfl
@[simp] theorem armRows_params : (armRows s).params = s.params := rfl
@[simp] theorem armRows_staging : (armRows s).staging = s.staging := rfl
@[simp] theorem armRows_poll : (armRows s).poll = s.poll := rfl
@[simp] theorem armRows_lines : (armRows s).lines = s.lines := rfl
@[simp] theorem armRows_intake : (armRows s).intake = s.intake := rfl
@[simp] theorem armRows_route : (armRows s).route = s.route := rfl
@[simp] theorem armRows_angle : (armRows s).angle = s.angle := rfl
@[simp] theorem armRows_posture : (armRows s).posture = s.posture := rfl
@[simp] theorem armRows_orient : (armRows s).orient = s.orient := rfl
@[simp] theorem armRows_dock : (armRows s).dock = s.dock := rfl
@[simp] theorem armRows_latch : (armRows s).latch = s.latch := rfl
@[simp] theorem armRows_pen : (armRows s).pen = s.pen := rfl
@[simp] theorem armRows_supply : (armRows s).supply = s.supply := rfl
@[simp] theorem armRows_advisor_table : (armRows s).advisor.table = s.advisor.table := rfl
@[simp] theorem armRows_advisor_platform : (armRows s).advisor.platform = s.advisor.platform := rfl
@[simp] theorem armRows_advisor_advising : (armRows s).advisor.advising = s.advisor.advising := rfl
@[simp] theorem armRows_advisor_armed : (armRows s).advisor.armed = rowNumbers8.map (fun n => decide (s.advisor.advising ≠ some n)) := rfl
@[simp] theorem armRows_advisor_lastActivity : (armRows s).advisor.lastActivity = s.advisor.lastActivity := rfl
@[simp] theorem armRows_advisor_adviceTimer : (armRows s).advisor.adviceTimer = s.advisor.adviceTimer := rfl
@[simp] theorem armRows_advisor_idleTimer : (armRows s).advisor.idleTimer = s.advisor.idleTimer := rfl
@[simp] theorem armRows_advisor_forcing : (armRows s).advisor.forcing = s.advisor.forcing := rfl
@[simp] theorem armRows_advisor_heldPosture : (armRows s).advisor.heldPosture = s.advisor.heldPosture := rfl
@[simp] theorem armRows_advisor_heldDock : (armRows s).advisor.heldDock = s.advisor.heldDock := rfl
@[simp] theorem armRows_advisor_penPresent : (armRows s).advisor.penPresent = s.advisor.penPresent := rfl
@[simp] theorem armRows_advisor_penCharging : (armRows s).advisor.penCharging = s.advisor.penCharging := rfl
@[simp] theorem armRows_advisor_latchLocked : (armRows s).advisor.latchLocked = s.advisor.latchLocked := rfl
@[simp] theorem armRows_advisor_power : (armRows s).advisor.power = s.advisor.power := rfl
@[simp] theorem armRows_batch : (armRows s).batch = s.batch := rfl
@[simp] theorem armRows_host : (armRows s).host = s.host := rfl
@[simp] theorem armRows_pending : (armRows s).pending = s.pending := rfl

/-! ### settleAttention -/

@[simp] theorem settleAttention_tick (s₀ : State) : (settleAttention s₀ s).tick = s.tick := rfl
@[simp] theorem settleAttention_params (s₀ : State) : (settleAttention s₀ s).params = s.params := rfl
@[simp] theorem settleAttention_staging (s₀ : State) : (settleAttention s₀ s).staging = s.staging := rfl
@[simp] theorem settleAttention_poll (s₀ : State) : (settleAttention s₀ s).poll = s.poll := rfl
@[simp] theorem settleAttention_lines (s₀ : State) : (settleAttention s₀ s).lines = s.lines := rfl
@[simp] theorem settleAttention_intake (s₀ : State) : (settleAttention s₀ s).intake = s.intake := rfl
@[simp] theorem settleAttention_route (s₀ : State) : (settleAttention s₀ s).route = s.route := rfl
@[simp] theorem settleAttention_angle (s₀ : State) : (settleAttention s₀ s).angle = s.angle := rfl
@[simp] theorem settleAttention_posture (s₀ : State) : (settleAttention s₀ s).posture = s.posture := rfl
@[simp] theorem settleAttention_orient (s₀ : State) : (settleAttention s₀ s).orient = s.orient := rfl
@[simp] theorem settleAttention_dock (s₀ : State) : (settleAttention s₀ s).dock = s.dock := rfl
@[simp] theorem settleAttention_latch (s₀ : State) : (settleAttention s₀ s).latch = s.latch := rfl
@[simp] theorem settleAttention_pen (s₀ : State) : (settleAttention s₀ s).pen = s.pen := rfl
@[simp] theorem settleAttention_supply (s₀ : State) : (settleAttention s₀ s).supply = s.supply := rfl
@[simp] theorem settleAttention_advisor (s₀ : State) : (settleAttention s₀ s).advisor = s.advisor := rfl
@[simp] theorem settleAttention_batch (s₀ : State) : (settleAttention s₀ s).batch = s.batch := rfl
@[simp] theorem settleAttention_host_slot (s₀ : State) : (settleAttention s₀ s).host.slot = s.host.slot := rfl
@[simp] theorem settleAttention_host_events (s₀ : State) : (settleAttention s₀ s).host.events = s.host.events := rfl
@[simp] theorem settleAttention_host_samples (s₀ : State) : (settleAttention s₀ s).host.samples = s.host.samples := rfl
@[simp] theorem settleAttention_host_transaction (s₀ : State) : (settleAttention s₀ s).host.transaction = s.host.transaction := rfl
@[simp] theorem settleAttention_host_pulse (s₀ : State) : (settleAttention s₀ s).host.pulse = pulseAfter s₀ s := rfl
@[simp] theorem settleAttention_pending (s₀ : State) : (settleAttention s₀ s).pending = s.pending := rfl

/-! ### lineKept -/

@[simp] theorem lineKept_tick : (State.lineKept s).tick = s.tick := rfl
@[simp] theorem lineKept_params : (State.lineKept s).params = s.params := rfl
@[simp] theorem lineKept_staging : (State.lineKept s).staging = s.staging := rfl
@[simp] theorem lineKept_poll : (State.lineKept s).poll = s.poll := rfl
@[simp] theorem lineKept_lines : (State.lineKept s).lines = s.lines := rfl
@[simp] theorem lineKept_intake : (State.lineKept s).intake = s.intake := rfl
@[simp] theorem lineKept_route : (State.lineKept s).route = s.route := rfl
@[simp] theorem lineKept_angle : (State.lineKept s).angle = s.angle := rfl
@[simp] theorem lineKept_posture : (State.lineKept s).posture = s.posture := rfl
@[simp] theorem lineKept_orient : (State.lineKept s).orient = s.orient := rfl
@[simp] theorem lineKept_dock : (State.lineKept s).dock = s.dock := rfl
@[simp] theorem lineKept_latch : (State.lineKept s).latch = s.latch := rfl
@[simp] theorem lineKept_pen : (State.lineKept s).pen = s.pen := rfl
@[simp] theorem lineKept_supply : (State.lineKept s).supply = s.supply := rfl
@[simp] theorem lineKept_advisor : (State.lineKept s).advisor = s.advisor := rfl
@[simp] theorem lineKept_batch : (State.lineKept s).batch = s.batch := rfl
@[simp] theorem lineKept_host_slot : (State.lineKept s).host.slot = s.host.slot := rfl
@[simp] theorem lineKept_host_events : (State.lineKept s).host.events = s.host.events := rfl
@[simp] theorem lineKept_host_samples : (State.lineKept s).host.samples = s.host.samples := rfl
@[simp] theorem lineKept_host_transaction : (State.lineKept s).host.transaction = s.host.transaction := rfl
@[simp] theorem lineKept_host_pulse : (State.lineKept s).host.pulse = (!s.levelMode && s.host.pulse) := rfl
@[simp] theorem lineKept_pending : (State.lineKept s).pending = s.pending := rfl

end Sys2Proof.Machine
end

