-- ==== Sys2Proof/Laws/Frames.lean ====
section
/-! SUPPORT. What each shared operation can do, said once: the pieces of the state it may write (`SameBut`). Every other piece is
as it was. Later proofs cite these lemmas and do not unfold the operation. -/

namespace Sys2Proof.Machine

/-! ## The frame relation -/

theorem SameBut.refl (l : List Block) (s : State) : SameBut l s s := by
  intro b _
  cases b <;> rfl

theorem Block.same_trans {s t u : State} (b : Block) (h : b.same s t) (k : b.same t u) : b.same s u := by
  cases b <;> exact Eq.trans k h

theorem SameBut.trans {l : List Block} {s t u : State} (h : SameBut l s t) (k : SameBut l t u) : SameBut l s u :=
  fun b hb => b.same_trans (h b hb) (k b hb)

theorem SameBut.mono {l : List Block} {s t : State} (h : SameBut l s t) (m : List Block) (sub : ∀ b ∈ l, b ∈ m) :
    SameBut m s t :=
  fun b hb => h b (fun hl => hb (sub b hl))

/-- Two operations after one another. -/
theorem SameBut.seq {l k m : List Block} {s t u : State} (h : SameBut l s t) (h' : SameBut k t u)
    (sub : ∀ b ∈ l, b ∈ m) (sub' : ∀ b ∈ k, b ∈ m) : SameBut m s u :=
  (h.mono m sub).trans (h'.mono m sub')

/-! ## What an operation on a block may write -/

/-- Poll schedules and what the Dock Controller keeps of BASA's cadence. -/
def scheduleBlocks : List Block := [.poll, .dockLink]

/-- What a decision of the Sleep Advisor may write. -/
def adviceBlocks : List Block := [.advisor, .events]

/-- What a report to the Sleep Advisor may write: a wake changes the part power, and with it the schedules. -/
def reportBlocks : List Block := [.poll, .dockLink, .advisor, .events]

/-- What a copy for the Batch Store may write. -/
def batchBlocks : List Block := [.gaps, .batch, .poll, .dockLink, .advisor, .events]

/-- What a rotation may write. -/
def rotationBlocks : List Block := [.orient, .poll, .dockLink, .advisor, .events]

/-- What a classification may write. -/
def postureBlocks : List Block := [.posture, .orient, .poll, .dockLink, .advisor, .events]

/-- What an angle feed may write. -/
def angleBlocks : List Block := [.angle, .posture, .orient, .poll, .dockLink, .advisor, .events]

/-- What a change of pen state may write. -/
def penBlocks : List Block := [.pen, .poll, .dockLink, .advisor, .events]

/-- What an allocation may write. -/
def supplyBlocks : List Block := [.supply, .pen, .poll, .dockLink, .advisor, .events]

/-- What the release latch may write. -/
def latchBlocks : List Block := [.latch, .supply, .pen, .poll, .dockLink, .advisor, .events]

/-- What a change of dock state may write. -/
def dockBlocks : List Block :=
  [.dockState, .dockKeys, .gaps, .angle, .posture, .orient, .latch, .supply, .pen, .poll, .dockLink, .advisor, .events]

/-- What a FEED may write. -/
def feedBlocks : List Block :=
  [.dockState, .dockKeys, .gaps, .angle, .posture, .orient, .latch, .supply, .pen, .poll, .dockLink, .advisor, .events]

/-- What the actions of a route entry may write. -/
def actionBlocks : List Block :=
  [.routeRuntime, .samples, .batch, .dockState, .dockKeys, .gaps, .angle, .posture, .orient, .latch, .supply, .pen, .poll,
    .dockLink, .advisor, .events]

/-! ## Updates -/

theorem raise_frame (e : Event) (s : State) : SameBut [.events] s (raise e s) := by
  intro b hb
  cases b <;> first | rfl | exact absurd (by decide) hb

theorem setGap_frame (src : Source) (s : State) : SameBut [.gaps] s (setGap src s) := by
  intro b hb
  cases b <;> first | rfl | exact absurd (by decide) hb

theorem clearGap_frame (src : Source) (s : State) : SameBut [.gaps] s (clearGap src s) := by
  intro b hb
  cases b <;> first | rfl | exact absurd (by decide) hb

theorem writeSettle_frame (p : Polled) (mark : Bool) (s : State) : SameBut [.poll] s (writeSettle p mark s) := by
  intro b hb
  cases b <;> first | rfl | exact absurd (by decide) hb

theorem writeCode_frame (p : Polled) (code : Nat) (s : State) : SameBut [.poll] s (writeCode p code s) := by
  intro b hb
  cases b <;> first | rfl | exact absurd (by decide) hb

theorem renewNext_frame (p : Polled) (s : State) : SameBut [.poll] s (renewNext p s) := by
  intro b hb
  cases b <;> first | rfl | exact absurd (by decide) hb

theorem withdrawPoll_frame (x : Bus) (s : State) : SameBut [.poll] s (withdrawPoll x s) := by
  intro b hb
  cases b <;> first | rfl | exact absurd (by decide) hb

theorem writeHealth_frame (x : Bus) (h : BusHealth) (s : State) : SameBut [.poll] s (writeHealth x h s) := by
  intro b hb
  cases b <;> first | rfl | exact absurd (by decide) hb

theorem freeBus_frame (s : State) : SameBut [.poll] s (freeBus s) := by
  intro b hb
  cases b <;> first | rfl | exact absurd (by decide) hb

theorem setArmed_frame (n : Nat) (armed : Bool) (s : State) : SameBut [.advisor] s (setArmed n armed s) := by
  intro b hb
  cases b <;> first | rfl | exact absurd (by decide) hb

theorem rearm_frame (s : State) : SameBut [.advisor] s (rearm s) := by
  intro b hb
  cases b <;> first | rfl | exact absurd (by decide) hb

theorem holdPosture_frame (p : Posture) (s : State) : SameBut [.advisor] s (holdPosture p s) := by
  intro b hb
  cases b <;> first | rfl | exact absurd (by decide) hb

theorem holdPenPresent_frame (x : Bool) (s : State) : SameBut [.advisor] s (holdPenPresent x s) := by
  intro b hb
  cases b <;> first | rfl | exact absurd (by decide) hb

theorem writeBank_frame (i : BankId) (x : Bank) (s : State) : SameBut [.batch] s (writeBank i x s) := by
  intro b hb
  cases b <;> first | rfl | exact absurd (by decide) hb

theorem freeBank_frame (i : BankId) (s : State) : SameBut [.batch] s (freeBank i s) := by
  intro b hb
  cases b <;> first | rfl | exact absurd (by decide) hb

theorem beginFill_frame (i : BankId) (x : Bool) (s : State) : SameBut [.batch] s (beginFill i x s) := by
  intro b hb
  cases b <;> first | rfl | exact absurd (by decide) hb

theorem clearRotation_frame (s : State) : SameBut [.orient] s (clearRotation s) := by
  intro b hb
  cases b <;> first | rfl | exact absurd (by decide) hb

theorem clearPosture_frame (s : State) : SameBut [.posture] s (clearPosture s) := by
  intro b hb
  cases b <;> first | rfl | exact absurd (by decide) hb

theorem movePen_frame (dest : PenState) (g : Option Gate) (s : State) : SameBut [.pen] s (movePen dest g s) := by
  intro b hb
  cases b <;> first | rfl | exact absurd (by decide) hb

theorem sendFrame_frame (f : List Byte) (s : State) : SameBut [.dockLink] s (sendFrame f s) := by
  intro b hb
  cases b <;> first | rfl | exact absurd (by decide) hb

theorem flipToggle_frame (c : Channel) (s : State) : SameBut [.dockLink] s (flipToggle c s) := by
  intro b hb
  cases b <;> first | rfl | exact absurd (by decide) hb

theorem goodExchange_frame (s : State) : SameBut [.dockLink] s (goodExchange s) := by
  intro b hb
  cases b <;> first | rfl | exact absurd (by decide) hb

theorem clearFilter_frame (s : State) : SameBut [.angle] s (clearFilter s) := by
  intro b hb
  cases b <;> first | rfl | exact absurd (by decide) hb

theorem discardBase_frame (s : State) : SameBut [.angle] s (discardBase s) := by
  intro b hb
  cases b <;> first | rfl | exact absurd (by decide) hb

theorem openLatch_frame (s : State) : SameBut [.latch] s (openLatch s) := by
  intro b hb
  cases b <;> first | rfl | exact absurd (by decide) hb

theorem writeRuntime_frame (n : Nat) (r : RouteRuntime) (s : State) : SameBut [.routeRuntime] s (writeRuntime n r s) := by
  intro b hb
  cases b <;> first | rfl | exact absurd (by decide) hb

theorem applyRoute_frame (s : State) : SameBut [.routeTable, .routeRuntime] s (applyRoute s) := by
  intro b hb
  cases b <;> first | rfl | exact absurd (by decide) hb

theorem walkOn_frame (w : Traversal) (s : State) : SameBut [.routeWalking] s (walkOn w s) := by
  intro b hb
  cases b <;> first | rfl | exact absurd (by decide) hb

theorem countTick_frame (s : State) : SameBut [.tick] s (countTick s) := by
  intro b hb
  cases b <;> first | rfl | exact absurd (by decide) hb

theorem observeLines_frame (l : LineLevels) (s : State) : SameBut [.lines] s (observeLines l s) := by
  intro b hb
  cases b <;> first | rfl | exact absurd (by decide) hb

theorem endTransaction_frame (s : State) : SameBut [.transaction] s (endTransaction s) := by
  intro b hb
  cases b <;> first | rfl | exact absurd (by decide) hb

theorem respond_frame (tag kind : Byte) (body : ResponseBody) (s : State) : SameBut [.slot] s (respond tag kind body s) := by
  intro b hb
  cases b <;> first | rfl | exact absurd (by decide) hb

theorem setForcing_frame (x : Bool) (s : State) : SameBut [.advisor] s (setForcing x s) := by
  intro b hb
  cases b <;> first | rfl | exact absurd (by decide) hb

theorem movePlatform_frame (dest : Platform) (s : State) : SameBut [.advisor] s (movePlatform dest s) := by
  intro b hb
  cases b <;> first | rfl | exact absurd (by decide) hb

theorem armRows_frame (s : State) : SameBut [.advisor] s (armRows s) := by
  intro b hb
  cases b <;> first | rfl | exact absurd (by decide) hb

theorem settleAttention_frame (s₀ : State) (s : State) : SameBut [.pulse] s (settleAttention s₀ s) := by
  intro b hb
  cases b <;> first | rfl | exact absurd (by decide) hb

end Sys2Proof.Machine
end

