-- ==== Sys2Proof/Laws/SharedOps.lean ====
section
/-! SUPPORT. The frames of the shared operations made of several updates, block by block in the order of the Machine files. -/

namespace Sys2Proof.Machine

/-! ## Arrival, settle marks, channel 3, cadences -/

theorem arrive_frame (src : Source) (v : Values) (u : Bool) (c : Option Polled) (s : State) :
    SameBut [.fifo, .gaps, .poll] s (arrive src v u c s) := by
  intro b hb
  unfold arrive
  split
  · split <;> (cases b <;> first | rfl | exact absurd (by decide) hb)
  · cases b <;> first | rfl | exact absurd (by decide) hb

theorem arrivePolled_frame (p : Polled) (v : Values) (m : Bool) (s : State) :
    SameBut [.fifo, .gaps, .poll] s (arrivePolled p v m s) := by
  unfold arrivePolled
  split <;> apply arrive_frame

theorem landOne_frame (c : Coming) (s : State) : SameBut [.fifo, .gaps, .poll] s (landOne c s) := by
  unfold landOne
  split
  · exact SameBut.refl _ s
  · apply arrivePolled_frame
  · apply arrive_frame

theorem landAll_frame (coming : List Coming) (s : State) : SameBut [.fifo, .gaps, .poll] s (landAll coming s) := by
  unfold landAll
  induction coming generalizing s with
  | nil => exact SameBut.refl _ s
  | cons c rest ih => exact (landOne_frame c s).trans (ih _)

theorem writeComing_frame (coming : List Coming) (s : State) : SameBut [.poll] s (writeComing coming s) := by
  intro b hb
  cases b <;> first | rfl | exact absurd (by decide) hb

theorem landReady_frame (s : State) : SameBut [.fifo, .gaps, .poll] s (landReady s) :=
  ((writeComing_frame _ s).mono _ (by decide)).trans (landAll_frame _ _)

theorem landRest_frame (s : State) : SameBut [.fifo, .gaps, .poll] s (landRest s) :=
  ((writeComing_frame _ s).mono _ (by decide)).trans (landAll_frame _ _)

theorem arriveInTurn_frame (src : Source) (bring : State → State)
    (h : ∀ s, SameBut [.fifo, .gaps, .poll] s (bring s)) (s : State) :
    SameBut [.fifo, .gaps, .poll] s (arriveInTurn src bring s) := by
  unfold arriveInTurn
  split
  · exact h s
  · exact ((((writeComing_frame _ s).mono _ (by decide)).trans (landAll_frame _ _)).trans (h _)).trans
      (landReady_frame _)

theorem setSettle_frame (p : Polled) (s : State) : SameBut scheduleBlocks s (setSettle p s) := by
  unfold setSettle
  split
  · exact SameBut.refl _ s
  · intro b hb
    unfold predateMark
    split <;> (cases b <;> first | rfl | exact absurd (by decide) hb)

theorem queueMessage_frame (m : OutMessage) (s : State) : SameBut [.dockLink] s (queueMessage m s) := by
  intro b hb
  unfold queueMessage
  split <;> (cases b <;> first | rfl | exact absurd (by decide) hb)

theorem withdrawIfOff_frame (p : Polled) (s : State) : SameBut [.poll] s (withdrawIfOff p s) := by
  unfold withdrawIfOff
  split
  · split
    · apply withdrawPoll_frame
    · exact SameBut.refl _ s
  · exact SameBut.refl _ s

theorem handCadence_frame (c : Nat) (s : State) : SameBut [.dockLink] s (handCadence c s) := by
  refine SameBut.trans ?_ (queueMessage_frame _ _)
  intro b hb
  cases b <;> first | rfl | exact absurd (by decide) hb

theorem reschedule_frame (p : Polled) (s : State) : SameBut scheduleBlocks s (reschedule p s) := by
  have h1 : SameBut scheduleBlocks s (writeCode p (s.chosenCode p) s) := (writeCode_frame _ _ _).mono _ (by decide)
  have h2 : SameBut scheduleBlocks s
      (if (writeCode p (s.chosenCode p) s).period p = s.period p then writeCode p (s.chosenCode p) s
       else renewNext p (setSettle p (withdrawIfOff p (writeCode p (s.chosenCode p) s)))) := by
    split
    · exact h1
    · exact ((h1.trans ((withdrawIfOff_frame _ _).mono _ (by decide))).trans (setSettle_frame _ _)).trans
        ((renewNext_frame _ _).mono _ (by decide))
  unfold reschedule
  dsimp only
  split
  · exact h2.trans ((handCadence_frame _ _).mono _ (by decide))
  · exact h2

theorem recomputeCadences_frame (s : State) : SameBut scheduleBlocks s (recomputeCadences s) :=
  (((((((reschedule_frame .lida s).trans (reschedule_frame .lidg _)).trans (reschedule_frame .als _)).trans
    (reschedule_frame .coil _)).trans (reschedule_frame .pcel _)).trans (reschedule_frame .ctmp _)).trans
    (reschedule_frame .basa _))

theorem joinWaiting_frame (x : Bus) (s : State) : SameBut [.poll, .gaps] s (joinWaiting x s) := by
  have h1 : SameBut [.poll, .gaps] s
      (if s.poll.waiting.any (fun w => w.source = x) then setGap x.source (withdrawPoll x s) else s) := by
    split
    · exact (withdrawPoll_frame x s).seq (setGap_frame _ _) (by decide) (by decide)
    · exact SameBut.refl _ s
  refine h1.trans ?_
  intro b hb
  cases b <;> first | rfl | exact absurd (by decide) hb

theorem issueBusPoll_frame (x : Bus) (s : State) : SameBut [.poll, .gaps] s (issueBusPoll x s) := by
  unfold issueBusPoll
  split
  · exact (joinWaiting_frame x s).trans ((renewNext_frame _ _).mono _ (by decide))
  · exact SameBut.refl _ s

theorem issueBusPolls_frame (s : State) : SameBut [.poll, .gaps] s (issueBusPolls s) :=
  ((issueBusPoll_frame .lida s).trans (issueBusPoll_frame .lidg _)).trans (issueBusPoll_frame .als _)

theorem advanceSchedule_frame (p : Polled) (s : State) : SameBut [.poll] s (advanceSchedule p s) := by
  unfold advanceSchedule
  split
  · apply renewNext_frame
  · exact SameBut.refl _ s

theorem enterFailed_frame (x : Bus) (s : State) : SameBut [.poll, .events] s (enterFailed x s) :=
  ((((writeHealth_frame x _ s).mono _ (by decide)).trans ((raise_frame _ _).mono _ (by decide))).trans
    ((renewNext_frame _ _).mono _ (by decide))).trans ((withdrawPoll_frame _ _).mono _ (by decide))

theorem failPoll_frame (x : Bus) (s : State) : SameBut [.poll, .gaps, .events] s (failPoll x s) := by
  have h1 : SameBut [.poll, .gaps, .events] s (setGap x.source (freeBus s)) :=
    (freeBus_frame s).seq (setGap_frame _ _) (by decide) (by decide)
  unfold failPoll
  dsimp only
  split
  · exact h1
  · split
    · exact h1.trans ((writeHealth_frame _ _ _).mono _ (by decide))
    · exact h1.trans ((enterFailed_frame _ _).mono _ (by decide))

theorem recover_frame (x : Bus) (v : Values) (s : State) :
    SameBut [.poll, .gaps, .fifo, .events] s (recover x v s) :=
  ((((writeHealth_frame x _ s).mono _ (by decide)).trans ((raise_frame _ _).mono _ (by decide))).trans
    ((arriveInTurn_frame _ _ (arrive_frame _ _ _ _) _).mono _ (by decide))).trans ((renewNext_frame _ _).mono _ (by decide))

theorem succeedPoll_frame (p : BusPoll) (r : SensorReading) (s : State) :
    SameBut [.poll, .gaps, .fifo, .events] s (succeedPoll p r s) := by
  have h1 : SameBut [.poll, .gaps, .fifo, .events] s (freeBus s) := (freeBus_frame s).mono _ (by decide)
  unfold succeedPoll
  dsimp only
  split
  · exact h1.trans (recover_frame _ _ _)
  · exact (h1.trans ((writeHealth_frame _ _ _).mono _ (by decide))).trans
      ((arriveInTurn_frame _ _ (arrivePolled_frame _ _ _) _).mono _ (by decide))

/-! ## The Sleep Advisor -/

theorem advise_frame (n : Nat) (s : State) : SameBut adviceBlocks s (advise n s) := by
  intro b hb
  cases b <;> first | rfl | exact absurd (by decide) hb

theorem sleepEvaluate_frame (s : State) : SameBut adviceBlocks s (sleepEvaluate s) := by
  unfold sleepEvaluate
  split
  · dsimp only
    split
    · exact (rearm_frame s).seq (advise_frame _ _) (by decide) (by decide)
    · intro b hb
      cases b <;> first | rfl | exact absurd (by decide) hb
  · exact SameBut.refl _ s

theorem endAdvice_frame (s : State) : SameBut adviceBlocks s (endAdvice s) := by
  refine SameBut.trans ?_ (sleepEvaluate_frame _)
  intro b hb
  cases b <;> first | rfl | exact absurd (by decide) hb

theorem retestAdvice_frame (s : State) : SameBut adviceBlocks s (retestAdvice s) := by
  unfold retestAdvice
  split
  · exact SameBut.refl _ s
  · split
    · exact SameBut.refl _ s
    · exact (((raise_frame _ s).mono _ (by decide)).trans ((setArmed_frame _ _ _).mono _ (by decide))).trans
        (endAdvice_frame _)

theorem timeOutAdvice_frame (s : State) : SameBut adviceBlocks s (timeOutAdvice s) := by
  unfold timeOutAdvice
  split
  · exact SameBut.refl _ s
  · exact ((raise_frame _ s).mono _ (by decide)).trans (endAdvice_frame _)

theorem repower_frame (s : State) : SameBut [.poll, .dockLink, .advisor] s (repower s) := by
  unfold repower
  split
  · exact SameBut.refl _ s
  · refine SameBut.trans ?_ ((recomputeCadences_frame _).mono _ (by decide))
    intro b hb
    cases b <;> first | rfl | exact absurd (by decide) hb

theorem takeCause_frame (c : WakeCause) (s : State) : SameBut reportBlocks s (takeCause c s) := by
  unfold takeCause
  split
  · split
    · exact SameBut.refl _ s
    · refine SameBut.trans ?_ ((repower_frame _).mono _ (by decide))
      intro b hb
      cases b <;> first | rfl | exact absurd (by decide) hb
  · exact SameBut.refl _ s

theorem advisorTakes_frame (changed activity : Bool) (cause : Option WakeCause) (s : State) :
    SameBut reportBlocks s (advisorTakes changed activity cause s) := by
  have h1 : SameBut reportBlocks s
      (if activity then { s with advisor := { s.advisor with lastActivity := s.tick } } else s) := by
    split
    · intro b hb
      cases b <;> first | rfl | exact absurd (by decide) hb
    · exact SameBut.refl _ s
  unfold advisorTakes
  dsimp only
  split
  · split
    · exact h1.trans ((sleepEvaluate_frame _).mono _ (by decide))
    · exact h1
  · split
    · exact h1.trans ((retestAdvice_frame _).mono _ (by decide))
    · exact h1
  · split
    · exact h1
    · exact h1.trans (takeCause_frame _ _)
  · exact h1

theorem reportMotion_frame (s : State) : SameBut reportBlocks s (reportMotion s) := advisorTakes_frame _ _ _ s

theorem holdDock_frame (d : DockState) (s : State) : SameBut [.poll, .dockLink, .advisor] s (holdDock d s) := by
  refine SameBut.trans ?_ (repower_frame _)
  intro b hb
  cases b <;> first | rfl | exact absurd (by decide) hb

theorem holdLatch_frame (x : Bool) (s : State) : SameBut [.poll, .dockLink, .advisor] s (holdLatch x s) := by
  refine SameBut.trans ?_ (repower_frame _)
  intro b hb
  cases b <;> first | rfl | exact absurd (by decide) hb

theorem holdPenCharging_frame (x : Bool) (s : State) :
    SameBut [.poll, .dockLink, .advisor] s (holdPenCharging x s) := by
  refine SameBut.trans ?_ (repower_frame _)
  intro b hb
  cases b <;> first | rfl | exact absurd (by decide) hb

/-! ## The Batch Store -/

theorem enterBank_frame (i : BankId) (n : Nat) (r : Sample) (s : State) :
    SameBut batchBlocks s (enterBank i n r s) := by
  unfold enterBank
  dsimp only
  split
  · exact ((((writeBank_frame _ _ s).mono _ (by decide)).trans ((clearGap_frame _ _).mono _ (by decide))).trans
      ((raise_frame _ _).mono _ (by decide))).trans ((advisorTakes_frame _ _ _ _).mono _ (by decide))
  · exact ((writeBank_frame _ _ s).mono _ (by decide)).trans ((clearGap_frame _ _).mono _ (by decide))

theorem overflowBatch_frame (n : Nat) (r : Sample) (s : State) : SameBut batchBlocks s (overflowBatch n r s) := by
  unfold overflowBatch
  split
  · exact ((beginFill_frame _ _ s).mono _ (by decide)).trans (enterBank_frame _ _ _ _)
  · exact ((writeBank_frame _ _ s).mono _ (by decide)).trans ((raise_frame _ _).mono _ (by decide))

theorem offerBatch_frame (n : Nat) (r : Sample) (s : State) : SameBut batchBlocks s (offerBatch n r s) := by
  unfold offerBatch
  split
  · apply enterBank_frame
  · split
    · exact ((beginFill_frame _ _ s).mono _ (by decide)).trans (enterBank_frame _ _ _ _)
    · apply overflowBatch_frame

theorem wakeBank_frame (i : BankId) (s : State) : SameBut [.batch] s (wakeBank i s) := by
  unfold wakeBank
  dsimp only
  split
  · split
    · apply freeBank_frame
    · apply writeBank_frame
  · exact SameBut.refl _ s

theorem wakeBanks_frame (s : State) : SameBut [.batch] s (wakeBanks s) :=
  (wakeBank_frame .a s).trans (wakeBank_frame .b _)

theorem sleepBank_frame (i : BankId) (s : State) : SameBut [.batch] s (sleepBank i s) := by
  unfold sleepBank
  dsimp only
  split
  · apply writeBank_frame
  · exact SameBut.refl _ s

theorem sleepBanks_frame (s : State) : SameBut [.batch] s (sleepBanks s) :=
  (sleepBank_frame .a s).trans (sleepBank_frame .b _)

/-! ## The Orientation Tracker -/

theorem changeOrientation_frame (k : Orientation) (w : OrientReason) (s : State) :
    SameBut [.orient, .events] s (changeOrientation k w s) := by
  intro b hb
  cases b <;> first | rfl | exact absurd (by decide) hb

theorem adoptOrientation_frame (k : Orientation) (s : State) : SameBut rotationBlocks s (adoptOrientation k s) :=
  ((changeOrientation_frame k .rotated s).mono _ (by decide)).trans ((advisorTakes_frame _ _ _ _).mono _ (by decide))

theorem beginRotation_frame (k : Orientation) (s : State) : SameBut rotationBlocks s (beginRotation k s) := by
  unfold beginRotation
  split
  · apply adoptOrientation_frame
  · intro b hb
    cases b <;> first | rfl | exact absurd (by decide) hb

theorem judgeRotation_frame (o : Angle) (s : State) : SameBut rotationBlocks s (judgeRotation o s) := by
  unfold judgeRotation
  split
  · exact (clearRotation_frame s).mono _ (by decide)
  · split
    · exact (clearRotation_frame s).mono _ (by decide)
    · split
      · exact SameBut.refl _ s
      · apply beginRotation_frame

theorem takeOrientation_frame (o : Angle) (s : State) : SameBut rotationBlocks s (takeOrientation o s) := by
  have h1 : SameBut rotationBlocks s { s with orient := { s.orient with heldO := some o, heldFlat := false } } := by
    intro b hb
    cases b <;> first | rfl | exact absurd (by decide) hb
  unfold takeOrientation
  dsimp only
  split
  · exact h1
  · exact h1.trans (judgeRotation_frame _ _)

theorem takeFlat_frame (s : State) : SameBut [.orient] s (takeFlat s) := by
  intro b hb
  cases b <;> first | rfl | exact absurd (by decide) hb

theorem trackPosture_frame (p : Posture) (s : State) : SameBut [.orient, .events] s (trackPosture p s) := by
  have h1 : SameBut [.orient, .events] s { s with orient := { s.orient with posture := p } } := by
    intro b hb
    cases b <;> first | rfl | exact absurd (by decide) hb
  unfold trackPosture
  dsimp only
  split
  · exact h1.trans (changeOrientation_frame _ _ _)
  · split
    · split
      · exact h1
      · exact h1.trans ((clearRotation_frame _).mono _ (by decide))
    · exact h1

theorem applyOrientTable_frame (t : PerPosture AllowedSet) (s : State) :
    SameBut rotationBlocks s (applyOrientTable t s) := by
  have h1 : SameBut rotationBlocks s (clearRotation { s with orient := { s.orient with table := t } }) := by
    intro b hb
    cases b <;> first | rfl | exact absurd (by decide) hb
  unfold applyOrientTable
  dsimp only
  split
  · exact (h1.trans ((changeOrientation_frame _ _ _).mono _ (by decide))).trans
      ((advisorTakes_frame _ _ _ _).mono _ (by decide))
  · exact h1

theorem lockRotation_frame (on : Bool) (s : State) : SameBut rotationBlocks s (lockRotation on s) := by
  have h1 : SameBut rotationBlocks s { s with orient := { s.orient with locked := on } } := by
    intro b hb
    cases b <;> first | rfl | exact absurd (by decide) hb
  unfold lockRotation
  split
  · exact SameBut.refl _ s
  · dsimp only
    split
    · exact h1.trans ((clearRotation_frame _).mono _ (by decide))
    · split
      · split
        · exact h1
        · exact h1.trans (judgeRotation_frame _ _)
      · exact h1

theorem expireRotation_frame (s : State) : SameBut rotationBlocks s (expireRotation s) := by
  unfold expireRotation
  split
  · apply adoptOrientation_frame
  · exact (clearRotation_frame s).mono _ (by decide)

/-! ## The Posture Classifier -/

theorem changePosture_frame (p : Posture) (row : Option Nat) (s : State) :
    SameBut postureBlocks s (changePosture p row s) := by
  have h1 : SameBut postureBlocks s
      { s with posture := { s.posture with posture := p, row := row, candidate := none, dwell := none } } := by
    intro b hb
    cases b <;> first | rfl | exact absurd (by decide) hb
  have h2 := h1.trans ((raise_frame (.posture p s.posture.heldHf row) _).mono postureBlocks (by decide))
  have h4 := ((h2.trans ((trackPosture_frame p _).mono _ (by decide))).trans ((holdPosture_frame p _).mono _ (by decide))).trans
    ((advisorTakes_frame true true (some .posture) _).mono _ (by decide))
  unfold changePosture
  dsimp only
  split
  · exact h4
  · exact h4.trans ((advisorTakes_frame _ _ _ _).mono _ (by decide))

theorem postureAttach_frame (s : State) : SameBut postureBlocks s (postureAttach s) := by
  refine SameBut.trans ?_ (changePosture_frame _ _ _)
  intro b hb
  cases b <;> first | rfl | exact absurd (by decide) hb

theorem postureDetach_frame (s : State) : SameBut postureBlocks s (postureDetach s) := by
  refine SameBut.trans ?_ (changePosture_frame _ _ _)
  intro b hb
  cases b <;> first | rfl | exact absurd (by decide) hb

theorem beginPosture_frame (n : Nat) (s : State) : SameBut postureBlocks s (beginPosture n s) := by
  unfold beginPosture
  split
  · apply changePosture_frame
  · intro b hb
    cases b <;> first | rfl | exact absurd (by decide) hb

theorem chooseCandidate_frame (x : Bool) (s : State) : SameBut postureBlocks s (chooseCandidate x s) := by
  unfold chooseCandidate
  split
  · exact (clearPosture_frame s).mono _ (by decide)
  · split
    · intro b hb
      cases b <;> first | rfl | exact absurd (by decide) hb
    · split
      · split
        · apply changePosture_frame
        · exact SameBut.refl _ s
      · apply beginPosture_frame

theorem classify_frame (x : Bool) (s : State) : SameBut postureBlocks s (classify x s) := by
  unfold classify
  split
  · exact SameBut.refl _ s
  · split
    · split
      · apply changePosture_frame
      · exact SameBut.refl _ s
    · split
      · exact (clearPosture_frame s).mono _ (by decide)
      · apply chooseCandidate_frame

theorem feedHallClosed_frame (l : Bool) (s : State) : SameBut postureBlocks s (feedHallClosed l s) := by
  refine SameBut.trans ?_ (classify_frame _ _)
  intro b hb
  cases b <;> first | rfl | exact absurd (by decide) hb

theorem feedHallFolded_frame (l : Bool) (s : State) : SameBut postureBlocks s (feedHallFolded l s) := by
  refine SameBut.trans ?_ (classify_frame _ _)
  intro b hb
  cases b <;> first | rfl | exact absurd (by decide) hb

theorem takeHinge_frame (hf : Option Angle) (a : Attitude) (s : State) : SameBut postureBlocks s (takeHinge hf a s) := by
  refine SameBut.trans ?_ (classify_frame _ _)
  intro b hb
  cases b <;> first | rfl | exact absurd (by decide) hb

theorem applyPostureTable_frame (t : List PostureRow) (s : State) : SameBut [.posture] s (applyPostureTable t s) := by
  intro b hb
  cases b <;> first | rfl | exact absurd (by decide) hb

/-! ## The Angle Engine -/

theorem computeHinge_frame (o : Option Vector3) (s : State) : SameBut angleBlocks s (computeHinge o s) := by
  refine SameBut.trans ?_ ((takeHinge_frame _ _ _).mono _ (by decide))
  intro b hb
  cases b <;> first | rfl | exact absurd (by decide) hb

theorem computeOrientation_frame (v : Vector3) (s : State) : SameBut angleBlocks s (computeOrientation v s) := by
  unfold computeOrientation
  split
  · refine SameBut.trans ?_ ((takeOrientation_frame _ _).mono _ (by decide))
    intro b hb
    cases b <;> first | rfl | exact absurd (by decide) hb
  · intro b hb
    cases b <;> first | rfl | exact absurd (by decide) hb

theorem feedLid_frame (v : Vector3) (s : State) : SameBut angleBlocks s (feedLid v s) := by
  refine SameBut.trans (SameBut.trans ?_ (computeOrientation_frame v _)) (computeHinge_frame _ _)
  intro b hb
  cases b <;> first | rfl | exact absurd (by decide) hb

theorem feedBase_frame (v : Vector3) (s : State) : SameBut angleBlocks s (feedBase v s) := by
  refine SameBut.trans ?_ (computeHinge_frame _ _)
  intro b hb
  cases b <;> first | rfl | exact absurd (by decide) hb

theorem discardAged_frame (s : State) : SameBut [.angle] s (discardAged s) := by
  have h1 : SameBut [.angle] s (if s.aged s.angle.base then discardBase s else s) := by
    split
    · apply discardBase_frame
    · exact SameBut.refl _ s
  have h2 : ∀ u : State, SameBut [.angle] s u →
      SameBut [.angle] s (if u.aged u.angle.lid then { u with angle := { u.angle with lid := none } } else u) := by
    intro u h
    split
    · refine h.trans ?_
      intro b hb
      cases b <;> first | rfl | exact absurd (by decide) hb
    · exact h
  exact h2 _ h1

/-! ## Pen states and the Supply Budget -/

theorem raisePen_frame (w : PenReason) (s : State) : SameBut [.events] s (raisePen w s) := raise_frame _ s

theorem handPen_frame (f t : PenState) (s : State) : SameBut [.poll, .dockLink, .advisor] s (handPen f t s) := by
  have h1 : SameBut [.poll, .dockLink, .advisor] s
      (if (f = .charging) ↔ (t = .charging) then s
       else holdPenCharging (decide (t = .charging)) (recomputeCadences s)) := by
    split
    · exact SameBut.refl _ s
    · exact ((recomputeCadences_frame s).mono _ (by decide)).trans (holdPenCharging_frame _ _)
  unfold handPen
  dsimp only
  split
  · exact h1
  · exact h1.trans ((holdPenPresent_frame _ _).mono _ (by decide))

theorem enterPen_frame (t : PenState) (g : Option Gate) (w : PenReason) (s : State) :
    SameBut penBlocks s (enterPen t g w s) :=
  (((movePen_frame t g s).mono _ (by decide)).trans ((handPen_frame _ _ _).mono _ (by decide))).trans
    ((raisePen_frame _ _).mono _ (by decide))

theorem openOrPause_frame (w : PenReason) (s : State) : SameBut penBlocks s (openOrPause w s) := by
  unfold openOrPause
  split <;> apply enterPen_frame

theorem pauseLeading_frame (s : State) : SameBut penBlocks s (pauseLeading s) := by
  unfold pauseLeading
  split
  · exact SameBut.refl _ s
  · apply enterPen_frame

theorem rereadGates_frame (s : State) : SameBut penBlocks s (rereadGates s) := by
  unfold rereadGates
  split
  · split
    · apply pauseLeading_frame
    · exact SameBut.refl _ s
  · split
    · apply enterPen_frame
    · split
      · exact SameBut.refl _ s
      · intro b hb
        cases b <;> first | rfl | exact absurd (by decide) hb
  all_goals exact SameBut.refl _ s

theorem allocate_frame (s : State) : SameBut supplyBlocks s (allocate s) := by
  have h1 : SameBut supplyBlocks s
      { s with supply := { s.supply with grants := divideBudget s.supply.budget s.supply.requests } } := by
    intro b hb
    cases b <;> first | rfl | exact absurd (by decide) hb
  have h2 : ∀ (c d : Prop) [Decidable c] [Decidable d] (e : Event), SameBut supplyBlocks s
      (if d then
        (if c then { s with supply := { s.supply with grants := divideBudget s.supply.budget s.supply.requests } }
         else raise e { s with supply := { s.supply with grants := divideBudget s.supply.budget s.supply.requests } })
       else rereadGates
        (if c then { s with supply := { s.supply with grants := divideBudget s.supply.budget s.supply.requests } }
         else raise e { s with supply := { s.supply with grants := divideBudget s.supply.budget s.supply.requests } })) := by
    intro c d _ _ e
    split <;> split
    · exact h1
    · exact h1.trans ((raise_frame _ _).mono _ (by decide))
    · exact h1.trans ((rereadGates_frame _).mono _ (by decide))
    · exact (h1.trans ((raise_frame _ _).mono _ (by decide))).trans ((rereadGates_frame _).mono _ (by decide))
  unfold allocate
  dsimp only
  split
  · apply h2
  · exact (h2 _ _ _).trans ((queueMessage_frame _ _).mono _ (by decide))

theorem placeRequests_frame (r : Shares) (s : State) : SameBut supplyBlocks s (placeRequests r s) := by
  unfold placeRequests
  split
  · exact SameBut.refl _ s
  · refine SameBut.trans ?_ (allocate_frame _)
    intro b hb
    cases b <;> first | rfl | exact absurd (by decide) hb

theorem placeLatch_frame (n : Nat) (s : State) : SameBut supplyBlocks s (placeLatch n s) := placeRequests_frame _ s

theorem placeBase_frame (n : Nat) (s : State) : SameBut supplyBlocks s (placeBase n s) := placeRequests_frame _ s

theorem placePen_frame (n : Nat) (s : State) : SameBut supplyBlocks s (placePen n s) := placeRequests_frame _ s

theorem placeExtra_frame (n : Nat) (s : State) : SameBut supplyBlocks s (placeExtra n s) := placeRequests_frame _ s

theorem renewBudget_frame (r : Shares) (s : State) : SameBut supplyBlocks s (renewBudget r s) := by
  unfold renewBudget
  split
  · exact SameBut.refl _ s
  · refine SameBut.trans ?_ (allocate_frame _)
    intro b hb
    cases b <;> first | rfl | exact absurd (by decide) hb

/-! ## The Charge Controller -/

theorem placeFirst_frame (s : State) : SameBut supplyBlocks s (placeFirst s) := by
  refine SameBut.trans ?_ (placeRequests_frame _ _)
  intro b hb
  cases b <;> first | rfl | exact absurd (by decide) hb

theorem withdrawPen_frame (t : PenState) (w : PenReason) (s : State) : SameBut supplyBlocks s (withdrawPen t w s) :=
  ((((movePen_frame t none s).mono _ (by decide)).trans (placeRequests_frame _ _)).trans
    ((handPen_frame _ _ _).mono _ (by decide))).trans ((raisePen_frame _ _).mono _ (by decide))

theorem topOff_frame (s : State) : SameBut supplyBlocks s (topOff s) := by
  refine (withdrawPen_frame .topped .full s).trans ?_
  intro b hb
  cases b <;> first | rfl | exact absurd (by decide) hb

theorem beginRetry_frame (f : PenFault) (s : State) : SameBut supplyBlocks s (beginRetry f s) := by
  refine SameBut.trans ?_ ((enterPen_frame _ _ _ _).mono _ (by decide))
  intro b hb
  split <;> (cases b <;> first | rfl | exact absurd (by decide) hb)

theorem takeFault_frame (f : PenFault) (s : State) : SameBut supplyBlocks s (takeFault f s) := by
  have h1 : SameBut supplyBlocks s
      { s with pen := { s.pen with faultRecord := some f, faults := min 255 (s.pen.faults + 1) } } := by
    intro b hb
    cases b <;> first | rfl | exact absurd (by decide) hb
  unfold takeFault
  dsimp only
  split
  · exact h1.trans (withdrawPen_frame _ _ _)
  · exact h1.trans (beginRetry_frame _ _)

theorem stepCoil_frame (s : State) : SameBut [.pen] s (stepCoil s) := by
  unfold stepCoil
  split <;> (intro b hb; cases b <;> first | rfl | exact absurd (by decide) hb)

theorem regulate_frame (s : State) : SameBut supplyBlocks s (regulate s) := by
  have h1 : SameBut supplyBlocks s
      { s with pen := { s.pen with curveTarget := curveTarget s.pen.curve s.pen.cell } } := by
    intro b hb
    cases b <;> first | rfl | exact absurd (by decide) hb
  unfold regulate
  dsimp only
  split
  · exact (h1.trans (placeRequests_frame _ _)).trans ((stepCoil_frame _).mono _ (by decide))
  · exact h1.trans (placeRequests_frame _ _)

theorem checkTopOff_frame (s : State) : SameBut supplyBlocks s (checkTopOff s) := by
  have h1 : SameBut supplyBlocks s { s with pen := { s.pen with taperStart := startTick s s.tapered s.pen.taperStart } } := by
    intro b hb
    cases b <;> first | rfl | exact absurd (by decide) hb
  unfold checkTopOff
  dsimp only
  split
  · exact h1.trans (topOff_frame _)
  · exact h1.trans (regulate_frame _)

theorem checkCoupling_frame (s : State) : SameBut supplyBlocks s (checkCoupling s) := by
  have h1 : SameBut supplyBlocks s
      { s with pen := { s.pen with couplingStart := startTick s s.uncoupled s.pen.couplingStart } } := by
    intro b hb
    cases b <;> first | rfl | exact absurd (by decide) hb
  unfold checkCoupling
  dsimp only
  split
  · exact h1.trans (takeFault_frame _ _)
  · exact h1.trans (checkTopOff_frame _)

theorem checkOvercurrent_frame (s : State) : SameBut supplyBlocks s (checkOvercurrent s) := by
  unfold checkOvercurrent
  split
  · apply takeFault_frame
  · refine SameBut.trans ?_ (checkCoupling_frame _)
    intro b hb
    cases b <;> first | rfl | exact absurd (by decide) hb

theorem controlPeriod_frame (s : State) : SameBut supplyBlocks s (controlPeriod s) := by
  unfold controlPeriod
  split
  · refine SameBut.trans ?_ ((pauseLeading_frame _).mono _ (by decide))
    intro b hb
    cases b <;> first | rfl | exact absurd (by decide) hb
  · split
    · exact (pauseLeading_frame s).mono _ (by decide)
    · apply checkOvercurrent_frame

theorem insertPen_frame (s : State) : SameBut supplyBlocks s (insertPen s) := by
  refine SameBut.trans (SameBut.trans (SameBut.trans ?_ (placeFirst_frame _)) ((openOrPause_frame _ _).mono _ (by decide)))
    ((advisorTakes_frame _ _ _ _).mono _ (by decide))
  intro b hb
  cases b <;> first | rfl | exact absurd (by decide) hb

theorem removePen_frame (s : State) : SameBut supplyBlocks s (removePen s) := by
  have h2 : ∀ u : State, SameBut supplyBlocks s u →
      SameBut supplyBlocks s (advisorTakes true true (some .penOut) { u with pen := u.pen.forgive }) := by
    intro u h
    refine (h.trans ?_).trans ((advisorTakes_frame _ _ _ _).mono _ (by decide))
    intro b hb
    cases b <;> first | rfl | exact absurd (by decide) hb
  refine h2 _ (SameBut.trans ?_ (withdrawPen_frame .absent .removed _))
  intro b hb
  cases b <;> first | rfl | exact absurd (by decide) hb

theorem feedPresence_frame (l : Bool) (s : State) : SameBut supplyBlocks s (feedPresence l s) := by
  unfold feedPresence
  split <;> split <;> first | exact SameBut.refl _ s | apply insertPen_frame | apply removePen_frame

theorem feedCurrent_frame (v : Value) (t : Tick) (s : State) : SameBut supplyBlocks s (feedCurrent v t s) := by
  have h1 : SameBut supplyBlocks s { s with pen := { s.pen with current := some { value := v, timestamp := t } } } := by
    intro b hb
    cases b <;> first | rfl | exact absurd (by decide) hb
  unfold feedCurrent
  dsimp only
  split
  · refine h1.trans (SameBut.trans ?_ ((rereadGates_frame _).mono _ (by decide)))
    intro b hb
    cases b <;> first | rfl | exact absurd (by decide) hb
  · exact h1

theorem feedCell_frame (v : Value) (s : State) : SameBut supplyBlocks s (feedCell v s) := by
  have h1 : SameBut supplyBlocks s { s with pen := { s.pen with cell := some v, restCheck := false } } := by
    intro b hb
    cases b <;> first | rfl | exact absurd (by decide) hb
  unfold feedCell
  split
  · dsimp only
    split
    · exact h1.trans (topOff_frame _)
    · exact h1
  · exact SameBut.refl _ s

theorem feedTemp_frame (v : Value) (s : State) : SameBut supplyBlocks s (feedTemp v s) := by
  have h1 : SameBut supplyBlocks s { s with pen := { s.pen with temperature := some v } } := by
    intro b hb
    cases b <;> first | rfl | exact absurd (by decide) hb
  unfold feedTemp
  dsimp only
  split
  · exact h1.trans (takeFault_frame _ _)
  · exact h1

theorem inhibitCharge_frame (on : Bool) (s : State) : SameBut penBlocks s (inhibitCharge on s) := by
  unfold inhibitCharge
  split
  · exact SameBut.refl _ s
  · refine SameBut.trans ?_ (rereadGates_frame _)
    intro b hb
    cases b <;> first | rfl | exact absurd (by decide) hb

theorem clearFaultOf_frame (s : State) : SameBut supplyBlocks s (clearFaultOf s) := by
  unfold clearFaultOf
  split
  · refine SameBut.trans (SameBut.trans ?_ (placeFirst_frame _)) ((openOrPause_frame _ _).mono _ (by decide))
    intro b hb
    cases b <;> first | rfl | exact absurd (by decide) hb
  · exact SameBut.refl _ s

theorem expireRetry_frame (s : State) : SameBut penBlocks s (expireRetry s) := by
  unfold expireRetry
  split
  · intro b hb
    cases b <;> first | rfl | exact absurd (by decide) hb
  · refine SameBut.trans ?_ (openOrPause_frame _ _)
    intro b hb
    cases b <;> first | rfl | exact absurd (by decide) hb

theorem endRest_frame (s : State) : SameBut supplyBlocks s (endRest s) := by
  refine SameBut.trans (SameBut.trans ?_ (placeFirst_frame _)) ((openOrPause_frame _ _).mono _ (by decide))
  intro b hb
  cases b <;> first | rfl | exact absurd (by decide) hb

end Sys2Proof.Machine
end

