-- ==== Sys2Proof/Laws/Arrival.lean ====
section
/-! SUPPORT. What arrival at Intake does, said once: each operation that brings samples receives them (`State.Receives`), and what
arrives in two parts arrives in a row. -/

namespace Sys2Proof.Machine

theorem State.Receives.refl (s : State) : s.Receives [] s := by
  simp [State.Receives]

/-- Samples that arrive after others stand behind them; the room left is what those others leave. -/
theorem State.Receives.trans {l m : List Sample} {s t u : State} (h : s.Receives l t) (k : t.Receives m u) :
    s.Receives (l ++ m) u := by
  obtain ⟨hf, hg, hm⟩ := h
  obtain ⟨kf, kg, km⟩ := k
  have room : 16 - t.intake.fifo.length = 16 - s.intake.fifo.length - l.length := by
    rw [hf, List.length_append, List.length_take]; omega
  rw [room] at kf kg km
  refine ⟨?_, fun src => ?_, fun p => ?_⟩
  · rw [kf, hf, List.take_append, List.append_assoc]
  · rw [kg, hg, List.drop_append, List.any_append, Bool.or_assoc]
  · rw [km, hm, List.take_append, List.any_append, Bool.not_or, Bool.and_assoc]

/-- A settle mark written is that of its source alone. -/
theorem settleMark_writeSettle (p q : Polled) (mark : Bool) (s : State) :
    (writeSettle p mark s).settleMark q = if q = p then mark else s.settleMark q := by
  cases p <;> cases q <;> rfl

theorem source_injective {p q : Polled} (h : p.source = q.source) : p = q := by
  cases p <;> cases q <;> first | rfl | cases h

theorem source_of_polledOf {src : Source} {p : Polled} (h : polledOf src = some p) : p.source = src := by
  cases src <;> cases p <;> first | rfl | cases h

theorem gaps_set (g : PerSource Bool) (x y : Source) (b : Bool) : (g.set x b).get y = if y = x then b else g.get y := by
  cases x <;> cases y <;> rfl

/-- A sample that takes no settle mark arrives. -/
theorem arrive_receives (src : Source) (v : Values) (s : State) :
    s.Receives [{ source := src, timestamp := s.tick, unsettled := false, values := v }] (arrive src v false none s) := by
  unfold arrive
  split
  · rename_i h
    obtain ⟨n, hn⟩ : ∃ n, 16 - s.intake.fifo.length = n + 1 := ⟨15 - s.intake.fifo.length, by omega⟩
    simp [State.Receives, hn, State.settleMark]
  · rename_i h
    have hn : 16 - s.intake.fifo.length = 0 := by omega
    refine ⟨by simp [hn, setGap], fun x => ?_, fun q => by simp [hn, setGap, State.settleMark]⟩
    by_cases e : x = src
    · simp [hn, setGap, gaps_set, e]
    · simp [hn, setGap, gaps_set, e, Ne.symm e]

/-- A sample that takes its source's settle mark arrives, and the mark goes with it. -/
theorem arrive_marked_receives (p : Polled) (v : Values) (s : State) :
    s.Receives [{ source := p.source, timestamp := s.tick, unsettled := true, values := v }]
      (arrive p.source v true (some p) s) := by
  unfold arrive
  split
  · rename_i h
    obtain ⟨n, hn⟩ : ∃ n, 16 - s.intake.fifo.length = n + 1 := ⟨15 - s.intake.fifo.length, by omega⟩
    refine ⟨by simp [hn, writeSettle], by simp [hn, writeSettle], fun q => ?_⟩
    simp only [settleMark_writeSettle, hn, List.take_succ_cons, List.take_nil, List.any_cons, List.any_nil]
    by_cases e : q = p
    · simp [e]
    · have : p.source ≠ q.source := fun x => e (source_injective x).symm
      simp [e, this, State.settleMark]
  · rename_i h
    have hn : 16 - s.intake.fifo.length = 0 := by omega
    refine ⟨by simp [hn, setGap], fun x => ?_, fun q => by simp [hn, setGap, State.settleMark]⟩
    by_cases e : x = p.source
    · simp [hn, setGap, gaps_set, e]
    · simp [hn, setGap, gaps_set, e, Ne.symm e]

theorem arrivePolled_receives (p : Polled) (v : Values) (after : Bool) (s : State) :
    s.Receives [{ source := p.source, timestamp := s.tick, unsettled := s.settleMark p && after, values := v }]
      (arrivePolled p v after s) := by
  unfold arrivePolled
  split
  · rename_i h; rw [h]; exact arrive_marked_receives p v s
  · rename_i h; rw [Bool.not_eq_true] at h; rw [h]; exact arrive_receives _ v s

/-- A sample on its way that arrives is received as its landing, a place kept as nothing. -/
theorem landOne_receives (c : Coming) (s : State) : s.Receives (s.landing c).toList (landOne c s) := by
  unfold landOne State.landing
  cases hv : c.values with
  | none => exact .refl s
  | some v =>
    cases hp : polledOf c.source with
    | none => exact arrive_receives c.source v s
    | some p => rw [← source_of_polledOf hp]; exact arrivePolled_receives p v c.afterMark s

end Sys2Proof.Machine
end

