-- ==== Sys2Proof/Laws/BlockOps.lean ====
section
/-! SUPPORT. The frames of the operations that reach across blocks: latch, dock, route, tick and host link. -/

namespace Sys2Proof.Machine

/-! ## The release latch -/

theorem endRelease_frame (o : LatchOutcome) (s : State) : SameBut latchBlocks s (endRelease o s) := by
  have h1 : SameBut latchBlocks s { s with latch := latchReset } := by
    intro b hb
    cases b <;> first | rfl | exact absurd (by decide) hb
  exact ((h1.trans ((holdLatch_frame _ _).mono _ (by decide))).trans ((placeRequests_frame _ _).mono _ (by decide))).trans
    ((raise_frame _ _).mono _ (by decide))

theorem endReleaseIfAny_frame (o : LatchOutcome) (s : State) : SameBut latchBlocks s (endReleaseIfAny o s) := by
  unfold endReleaseIfAny
  split
  · exact SameBut.refl _ s
  · apply endRelease_frame

theorem beginRelease_frame (s : State) : SameBut latchBlocks s (beginRelease s) := by
  have h1 : SameBut latchBlocks s { s with latch := { s.latch with state := .preparing } } := by
    intro b hb
    cases b <;> first | rfl | exact absurd (by decide) hb
  have h2 : ∀ u : State, SameBut latchBlocks s u → SameBut latchBlocks s
      (advisorTakes false true none { u with latch := { u.latch with preparation := u.timer 32 } }) := by
    intro u h
    refine (h.trans ?_).trans ((advisorTakes_frame _ _ _ _).mono _ (by decide))
    intro b hb
    cases b <;> first | rfl | exact absurd (by decide) hb
  exact h2 _ ((h1.trans ((holdLatch_frame _ _).mono _ (by decide))).trans ((placeRequests_frame _ _).mono _ (by decide)))

theorem requestRelease_frame (s t : State) (h : requestRelease s = .ok t) : SameBut latchBlocks s t := by
  unfold requestRelease at h
  split at h
  · cases h
  · split at h
    · cases h
    · split at h
      · cases h
      · cases h
        exact beginRelease_frame s

/-! ## Keys -/

theorem queueKeys_frame (k : KeySet) (s : State) :
    SameBut [.dockKeys, .poll, .dockLink, .advisor, .events] s (queueKeys k s) := by
  refine SameBut.trans ?_ ((advisorTakes_frame _ _ _ _).mono _ (by decide))
  intro b hb
  cases b <;> first | rfl | exact absurd (by decide) hb

theorem releaseKeys_frame (s : State) : SameBut [.dockKeys] s (releaseKeys s) := by
  intro b hb
  unfold releaseKeys
  split <;> (cases b <;> first | rfl | exact absurd (by decide) hb)

theorem replayKeys_frame (s : State) :
    SameBut [.dockKeys, .poll, .dockLink, .advisor, .events] s (replayKeys s) := by
  have h1 : SameBut [.dockKeys, .poll, .dockLink, .advisor, .events] s
      { s with dock := { s.dock with remembered := none } } := by
    intro b hb
    cases b <;> first | rfl | exact absurd (by decide) hb
  unfold replayKeys
  dsimp only
  split
  · exact h1
  · split
    · exact h1
    · exact h1.trans (queueKeys_frame _ _)

/-! ## Changes of dock state -/

/-- What a change of dock state alone may write. -/
def dockStateBlocks : List Block := [.dockState, .dockLink, .poll, .advisor, .events]

theorem changeDock_frame (d : DockState) (w : DockReason) (s : State) :
    SameBut dockStateBlocks s (changeDock d w s) := by
  refine SameBut.trans (SameBut.trans ?_ ((raise_frame _ _).mono _ (by decide))) ((holdDock_frame d _).mono _ (by decide))
  intro b hb
  cases b <;> first | rfl | exact absurd (by decide) hb

theorem enterDock_frame (d : DockState) (w : DockReason) (s : State) : SameBut dockStateBlocks s (enterDock d w s) := by
  have h1 := changeDock_frame d w s
  unfold enterDock
  dsimp only
  split <;> first | exact h1 | exact h1.trans ((advisorTakes_frame _ _ _ _).mono _ (by decide))

theorem dropRequests_frame (s : State) : SameBut dockBlocks s (dropRequests s) := by
  refine SameBut.trans ?_ ((placeRequests_frame _ _).mono _ (by decide))
  intro b hb
  cases b <;> first | rfl | exact absurd (by decide) hb

theorem stopChannels_frame (s : State) : SameBut [.dockLink, .gaps] s (stopChannels s) := by
  intro b hb
  cases b <;> first | rfl | exact absurd (by decide) hb

theorem depart_frame (d : DockState) (w : DockReason) (s : State) : SameBut dockBlocks s (depart d w s) := by
  have h1 : SameBut dockBlocks s (enterDock d w s) := (enterDock_frame d w s).mono _ (by decide)
  have h2 : SameBut dockBlocks s
      (if s.dock.state = .attached then releaseKeys (enterDock d w s) else enterDock d w s) := by
    split
    · exact h1.trans ((releaseKeys_frame _).mono _ (by decide))
    · exact h1
  have h3 : ∀ u : State, SameBut dockBlocks s u → SameBut dockBlocks s
      (discardBase (stopChannels (dropRequests { u with dock := { u.dock with remembered := none } }))) := by
    intro u h
    refine (((h.trans ?_).trans (dropRequests_frame _)).trans ((stopChannels_frame _).mono _ (by decide))).trans
      ((discardBase_frame _).mono _ (by decide))
    intro b hb
    cases b <;> first | rfl | exact absurd (by decide) hb
  have h4 : ∀ u : State, SameBut dockBlocks s u → SameBut dockBlocks s
      (endReleaseIfAny .cancelled (if s.dock.state = .attached then postureDetach u else u)) := by
    intro u h
    refine SameBut.trans ?_ ((endReleaseIfAny_frame _ _).mono _ (by decide))
    split
    · exact h.trans ((postureDetach_frame _).mono _ (by decide))
    · exact h
  exact h4 _ (h3 _ h2)

theorem leaveDock_frame (d : DockState) (w : DockReason) (s : State) : SameBut dockBlocks s (leaveDock d w s) := by
  unfold leaveDock
  split
  · apply depart_frame
  · exact (enterDock_frame d w s).mono _ (by decide)

theorem loseDock_frame (w : DockReason) (s : State) : SameBut dockBlocks s (loseDock w s) := by
  unfold loseDock
  split
  · apply leaveDock_frame
  · exact ((endRelease_frame _ s).mono _ (by decide)).trans (leaveDock_frame _ _ _)

theorem feedSense_frame (l : Bool) (s : State) : SameBut dockBlocks s (feedSense l s) := by
  unfold feedSense
  split
  · split
    · refine SameBut.trans ?_ ((enterDock_frame _ _ _).mono _ (by decide))
      intro b hb
      cases b <;> first | rfl | exact absurd (by decide) hb
    · exact SameBut.refl _ s
  · split
    · exact SameBut.refl _ s
    · apply loseDock_frame

theorem enterIdentifying_frame (s : State) : SameBut dockBlocks s (enterIdentifying s) := by
  refine ((enterDock_frame .identifying .none s).mono _ (by decide)).trans ?_
  intro b hb
  cases b <;> first | rfl | exact absurd (by decide) hb

theorem failAttempt_frame (s : State) : SameBut dockStateBlocks s (failAttempt s) := by
  unfold failAttempt
  split
  · refine SameBut.trans ?_ (enterDock_frame _ _ _)
    intro b hb
    cases b <;> first | rfl | exact absurd (by decide) hb
  · apply enterDock_frame

theorem enterAttached_frame (s : State) : SameBut dockBlocks s (enterAttached s) := by
  have h1 : SameBut dockBlocks s (clearFilter (changeDock .attached .none s)) :=
    ((changeDock_frame _ _ s).mono _ (by decide)).trans ((clearFilter_frame _).mono _ (by decide))
  have h2 := (h1.trans ((postureAttach_frame _).mono _ (by decide))).trans ((replayKeys_frame _).mono _ (by decide))
  have h3 : ∀ u : State, SameBut dockBlocks s u →
      SameBut dockBlocks s (advisorTakes true true (some .dock) (placeExtra u.dock.extraHeld u)) := by
    intro u h
    exact (h.trans ((placeExtra_frame _ _).mono _ (by decide))).trans ((advisorTakes_frame _ _ _ _).mono _ (by decide))
  exact h3 _ h2

theorem startMotion_frame (x : Bool) (s : State) : SameBut [.poll, .dockLink] s (startMotion x s) := by
  have h1 : SameBut [.poll, .dockLink] s
      { s with dock := { s.dock with motionRunning := x, motionNext := nextPoll (cadencePeriod s.dock.cadence) s.tick } } := by
    intro b hb
    cases b <;> first | rfl | exact absurd (by decide) hb
  unfold startMotion
  dsimp only
  split
  · exact h1.trans (setSettle_frame _ _)
  · exact h1

theorem enterSettling_frame (i : Identity) (s : State) : SameBut dockBlocks s (enterSettling i s) := by
  have h1 : SameBut dockBlocks s (enterDock .settling .none { s with dock := { s.dock with identity := some i } }) := by
    refine SameBut.trans ?_ ((enterDock_frame _ _ _).mono _ (by decide))
    intro b hb
    cases b <;> first | rfl | exact absurd (by decide) hb
  have h2 : ∀ u : State, SameBut dockBlocks s u → SameBut dockBlocks s
      (placeBase i.baseline { u with dock := { u.dock with cycles := 0, extraHeld := 0 } }) := by
    intro u h
    refine (h.trans ?_).trans ((placeRequests_frame _ _).mono _ (by decide))
    intro b hb
    cases b <;> first | rfl | exact absurd (by decide) hb
  have h3 : ∀ u : State, SameBut dockBlocks s u → SameBut dockBlocks s
      (startMotion i.accelerometer (queueMessage (.cadence u.dock.cadence) (queueMessage (.grant u.grantTotal) u))) := by
    intro u h
    exact ((h.trans ((queueMessage_frame _ _).mono _ (by decide))).trans ((queueMessage_frame _ _).mono _ (by decide))).trans
      ((startMotion_frame _ _).mono _ (by decide))
  have h4 : ∀ u : State, SameBut dockBlocks s u → SameBut dockBlocks s
      (if u.param .attachSettle = 0 then enterAttached u
       else { u with dock := { u.dock with settleTimer := u.timer (u.param .attachSettle) } }) := by
    intro u h
    split
    · exact h.trans (enterAttached_frame _)
    · refine h.trans ?_
      intro b hb
      cases b <;> first | rfl | exact absurd (by decide) hb
  exact h4 _ (h3 _ (h2 _ h1))

/-! ## Exchanges -/

/-- What an exchange may write: what a change of dock state may, and a BASA sample's arrival. -/
def exchangeBlocks : List Block :=
  [.fifo, .dockState, .dockKeys, .gaps, .angle, .posture, .orient, .latch, .supply, .pen, .poll, .dockLink, .advisor, .events]

theorem takePower_frame (n : Nat) (s : State) : SameBut dockBlocks s (takePower n s) := by
  have h1 : SameBut dockBlocks s { s with dock := { s.dock with extraHeld := min n s.extraLimit } } := by
    intro b hb
    cases b <;> first | rfl | exact absurd (by decide) hb
  unfold takePower
  dsimp only
  split
  · exact h1.trans ((placeRequests_frame _ _).mono _ (by decide))
  · exact h1

theorem takeButton_frame (s : State) : SameBut latchBlocks s (takeButton s) := by
  unfold takeButton
  split
  · split
    · exact requestRelease_frame _ _ (by assumption)
    · exact SameBut.refl _ s
  · exact (advisorTakes_frame _ _ _ s).mono _ (by decide)

theorem takeMessage_frame (a : Bool) (m : InMessage) (s : State) : SameBut exchangeBlocks s (takeMessage a m s) := by
  unfold takeMessage
  split
  · split
    · exact (enterSettling_frame _ s).mono _ (by decide)
    · exact SameBut.refl _ s
  · split
    · exact (takePower_frame _ s).mono _ (by decide)
    · exact SameBut.refl _ s
  · split
    · exact (takeButton_frame s).mono _ (by decide)
    · exact SameBut.refl _ s
  · split
    · exact (queueKeys_frame _ s).mono _ (by decide)
    · split
      · intro b hb
        cases b <;> first | rfl | exact absurd (by decide) hb
      · exact SameBut.refl _ s
  · exact (arriveInTurn_frame _ _ (arrivePolled_frame _ _ _) s).mono _ (by decide)

theorem countFailure_frame (s : State) : SameBut dockBlocks s (countFailure s) := by
  have h1 : SameBut dockBlocks s { s with dock := { s.dock with silence := s.dock.silence + 1 } } := by
    intro b hb
    cases b <;> first | rfl | exact absurd (by decide) hb
  unfold countFailure
  dsimp only
  split
  · exact h1.trans (loseDock_frame _ _)
  · exact h1

theorem takeStall_frame (s : State) : SameBut dockBlocks s (takeStall s) := by
  unfold takeStall
  split
  · exact (failAttempt_frame s).mono _ (by decide)
  · split
    · split
      · refine SameBut.trans ?_ (depart_frame _ _ _)
        intro b hb
        cases b <;> first | rfl | exact absurd (by decide) hb
      · apply depart_frame
    · exact SameBut.refl _ s

theorem resolveInward_frame (c : Cycle) (j : Judged) (s : State) : SameBut exchangeBlocks s (resolveInward c j s) := by
  unfold resolveInward
  split
  · dsimp only
    split
    · exact ((((flipToggle_frame _ s).mono _ (by decide)).trans ((goodExchange_frame _).mono _ (by decide))).trans
        (takeMessage_frame _ _ _)).trans ((sendFrame_frame _ _).mono _ (by decide))
    · exact ((goodExchange_frame s).mono _ (by decide)).trans ((sendFrame_frame _ _).mono _ (by decide))
  · exact (goodExchange_frame s).mono _ (by decide)
  · exact (takeStall_frame s).mono _ (by decide)
  all_goals exact (countFailure_frame s).mono _ (by decide)

theorem resolveOutput_frame (j : Judged) (s : State) : SameBut exchangeBlocks s (resolveOutput j s) := by
  unfold resolveOutput
  split
  · intro b hb
    cases b <;> first | rfl | exact absurd (by decide) hb
  · exact (goodExchange_frame s).mono _ (by decide)
  · intro b hb
    cases b <;> first | rfl | exact absurd (by decide) hb
  all_goals exact (countFailure_frame s).mono _ (by decide)

theorem resolve_frame (c : Cycle) (j : Judged) (s : State) : SameBut exchangeBlocks s (resolve c j s) := by
  unfold resolve
  split
  · apply resolveOutput_frame
  · apply resolveInward_frame
  · apply resolveInward_frame
  · refine SameBut.trans ?_ (resolveInward_frame _ _ _)
    intro b hb
    cases b <;> first | rfl | exact absurd (by decide) hb

theorem beginExchange_frame (t : Tick) (c : Channel) (rest : List Channel) (s : State) :
    SameBut [.dockLink] s (beginExchange t c rest s) := by
  have h1 : SameBut [.dockLink] s (if c = .output then loadOutgoing s else s) := by
    split
    · unfold loadOutgoing
      split
      · intro b hb
        cases b <;> first | rfl | exact absurd (by decide) hb
      · exact SameBut.refl _ s
    · exact SameBut.refl _ s
  have h2 : ∀ u : State, SameBut [.dockLink] s u → SameBut [.dockLink] s
      { sendFrame (u.openingFrame c) u with
        dock :=
          { (sendFrame (u.openingFrame c) u).dock with
            cycle :=
              some
                { tick := t, channel := c, rest := rest, afterMark := (sendFrame (u.openingFrame c) u).settleMark .basa,
                  discarded := false } } } := by
    intro u h
    refine (h.trans (sendFrame_frame (u.openingFrame c) u)).trans ?_
    intro b hb
    cases b <;> first | rfl | exact absurd (by decide) hb
  exact h2 _ h1

theorem nextExchange_frame (t : Tick) (l : List Channel) (s : State) :
    SameBut [.dockLink] s (nextExchange t l s) := by
  induction l with
  | nil =>
    intro b hb
    cases b <;> first | rfl | exact absurd (by decide) hb
  | cons c rest ih =>
    unfold nextExchange
    split
    · apply beginExchange_frame
    · exact ih

theorem dockCycle_frame (s : State) : SameBut [.dockLink] s (dockCycle s) := by
  unfold dockCycle
  split
  · refine SameBut.trans ?_ (nextExchange_frame _ _ _)
    intro b hb
    cases b <;> first | rfl | exact absurd (by decide) hb
  · exact SameBut.refl _ s

theorem endExchange_frame (c : Cycle) (j : Judged) (s : State) : SameBut exchangeBlocks s (endExchange c j s) := by
  have h1 : SameBut exchangeBlocks s { s with dock := { s.dock with cycle := none, sent := [] } } := by
    intro b hb
    cases b <;> first | rfl | exact absurd (by decide) hb
  have h2 := h1.trans (resolve_frame c j _)
  unfold endExchange
  dsimp only
  split
  · exact h1
  · split
    · exact h2.trans ((nextExchange_frame _ _ _).mono _ (by decide))
    · exact h2

/-! ## The Route Engine -/

theorem feed_frame (t : Target) (r : Sample) (s : State) : SameBut feedBlocks s (feed t r s) := by
  cases t <;> unfold feed <;> dsimp only
  · split
    · exact SameBut.refl _ s
    · split
      · exact (feedBase_frame _ s).mono _ (by decide)
      · exact SameBut.refl _ s
  · split
    · exact SameBut.refl _ s
    · split
      · exact (feedLid_frame _ s).mono _ (by decide)
      · exact SameBut.refl _ s
  · exact (feedHallClosed_frame _ s).mono _ (by decide)
  · exact (feedHallFolded_frame _ s).mono _ (by decide)
  · exact (feedPresence_frame _ s).mono _ (by decide)
  · exact feedSense_frame _ s
  · split
    · exact SameBut.refl _ s
    · exact (feedCurrent_frame _ _ s).mono _ (by decide)
  · split
    · exact SameBut.refl _ s
    · exact (feedCell_frame _ s).mono _ (by decide)
  · split
    · exact SameBut.refl _ s
    · exact (feedTemp_frame _ s).mono _ (by decide)
  · split
    · exact SameBut.refl _ s
    · exact (reportMotion_frame s).mono _ (by decide)

/-- What a TEST may write. -/
def testBlocks : List Block := [.routeRuntime, .events, .poll, .dockLink, .advisor]

theorem performTest_frame (n : Nat) (e : RouteEntry) (r : Sample) (s : State) :
    SameBut testBlocks s (performTest n e r s) := by
  unfold performTest
  split
  · exact SameBut.refl _ s
  · rename_i v _
    have h2 : SameBut testBlocks s
        (if testReported (s.routeRuntime n).test (placeNumber e v) then
          raise (.threshold [(n, placeNumber e v)]) (writeRuntime n { s.routeRuntime n with test := placeNumber e v } s)
         else writeRuntime n { s.routeRuntime n with test := placeNumber e v } s) := by
      split
      · exact ((writeRuntime_frame _ _ s).mono _ (by decide)).trans ((raise_frame _ _).mono _ (by decide))
      · exact (writeRuntime_frame _ _ s).mono _ (by decide)
    dsimp only
    split
    · exact h2.trans ((reportMotion_frame _).mono _ (by decide))
    · exact h2

theorem offerSample_frame (n : Nat) (r : Sample) (s : State) : SameBut [.samples, .gaps] s (offerSample n r s) := by
  unfold offerSample
  split
  · intro b hb
    cases b <;> first | rfl | exact absurd (by decide) hb
  · exact (setGap_frame _ s).mono _ (by decide)

/-- What a FORWARD may write. -/
def forwardBlocks : List Block := [.samples, .gaps, .batch, .poll, .dockLink, .advisor, .events]

theorem performForward_frame (n : Nat) (e : RouteEntry) (r : Sample) (s : State) :
    SameBut forwardBlocks s (performForward n e r s) := by
  unfold performForward
  split
  · exact (offerSample_frame _ _ s).mono _ (by decide)
  · split
    · exact (offerBatch_frame _ _ s).mono _ (by decide)
    · exact SameBut.refl _ s

theorem performFeed_frame (e : RouteEntry) (r : Sample) (fed : List Target) (s : State) :
    SameBut feedBlocks s (performFeed e r fed s).1 := by
  unfold performFeed
  split
  · exact SameBut.refl _ s
  · split
    · exact SameBut.refl _ s
    · exact feed_frame _ _ s

theorem performActions_frame (n : Nat) (e : RouteEntry) (r : Sample) (fed : List Target) (s : State) :
    SameBut actionBlocks s (performActions n e r fed s).1 := by
  have h1 : SameBut actionBlocks s (performFeed e r fed s).1 := (performFeed_frame e r fed s).mono _ (by decide)
  have h2 : SameBut actionBlocks s
      (if e.test then performTest n e r (performFeed e r fed s).1 else (performFeed e r fed s).1) := by
    split
    · exact h1.trans ((performTest_frame _ _ _ _).mono _ (by decide))
    · exact h1
  unfold performActions
  dsimp only
  split
  · exact h2.trans ((performForward_frame _ _ _ _).mono _ (by decide))
  · exact h2

theorem visitEntry_frame (w : Traversal) (s : State) : SameBut actionBlocks s (visitEntry w s).1 := by
  unfold visitEntry
  dsimp only
  split
  · split
    · exact ((writeRuntime_frame _ _ s).mono _ (by decide)).trans (performActions_frame _ _ _ _ _)
    · exact (writeRuntime_frame _ _ s).mono _ (by decide)
  · exact SameBut.refl _ s

/-- What a visit may write: the actions' pieces, the traversal, and the table of a held commit. -/
def visitBlocks : List Block :=
  [.fifo, .routeTable, .routeHold, .routeWalking, .routeRuntime, .samples, .batch, .dockState, .dockKeys, .gaps, .angle,
    .posture, .orient, .latch, .supply, .pen, .poll, .dockLink, .advisor, .events]

theorem applyHeld_frame (s : State) : SameBut [.routeTable, .routeRuntime, .routeHold, .events] s (applyHeld s) := by
  unfold applyHeld
  split
  · intro b hb
    cases b <;> first | rfl | exact absurd (by decide) hb
  · exact SameBut.refl _ s

theorem takeRecord_frame (s : State) : SameBut [.fifo, .routeWalking] s (takeRecord s) := by
  unfold takeRecord
  split
  · exact SameBut.refl _ s
  · intro b hb
    cases b <;> first | rfl | exact absurd (by decide) hb

theorem endTraversal_frame (s : State) : SameBut visitBlocks s (endTraversal s) := by
  refine SameBut.trans (SameBut.trans ?_ ((applyHeld_frame _).mono _ (by decide))) ((takeRecord_frame _).mono _ (by decide))
  intro b hb
  cases b <;> first | rfl | exact absurd (by decide) hb

theorem visit_frame (w : Traversal) (s : State) : SameBut visitBlocks s (visit w s) := by
  have h1 : SameBut visitBlocks s (visitEntry w s).1 := (visitEntry_frame w s).mono _ (by decide)
  unfold visit
  dsimp only
  split
  · exact h1.trans (endTraversal_frame _)
  · split
    · exact h1.trans ((walkOn_frame _ _).mono _ (by decide))
    · exact (h1.trans ((raise_frame _ _).mono _ (by decide))).trans (endTraversal_frame _)

theorem visitNext_frame (s : State) : SameBut visitBlocks s (visitNext s) := by
  unfold visitNext
  split
  · exact SameBut.refl _ s
  · apply visit_frame

theorem beginTraversal_frame (s : State) : SameBut visitBlocks s (beginTraversal s) := by
  unfold beginTraversal
  split
  · exact ((takeRecord_frame s).mono _ (by decide)).trans (visitNext_frame _)
  · exact SameBut.refl _ s

/-! ## A tick boundary -/

theorem bringForth_frame (arrival : List Source) (born : Source → Option Values) (s : State) :
    SameBut [.fifo, .gaps, .poll] s (bringForth arrival born s) :=
  ((writeComing_frame _ s).mono _ (by decide)).trans (landReady_frame _)

theorem advanceSchedules_frame (s : State) : SameBut [.poll] s (advanceSchedules s) :=
  (((advanceSchedule_frame .coil s).trans (advanceSchedule_frame .pcel _)).trans (advanceSchedule_frame .ctmp _)).trans
    (advanceSchedule_frame .basa _)

theorem samplePorts_frame (levels : LineLevels) (readings : ConverterReadings) (arrival : List Source) (s : State) :
    SameBut [.lines, .poll, .fifo, .gaps] s (samplePorts levels readings arrival s) :=
  ((((observeLines_frame levels s).mono _ (by decide)).trans ((issueBusPolls_frame _).mono _ (by decide))).trans
    ((advanceSchedules_frame _).mono _ (by decide))).trans ((bringForth_frame _ _ _).mono _ (by decide))

theorem duePeriod_frame (s : State) : SameBut supplyBlocks s (duePeriod s) := by
  unfold duePeriod
  split
  · apply controlPeriod_frame
  · exact SameBut.refl _ s

/-! ## Tables -/

theorem writeTable_frame (table : TableId) (first count : Byte) (entries : List Byte) (s : State) :
    SameBut [.staging] s (writeTable table first count entries s).1 := by
  unfold writeTable
  split
  · exact SameBut.refl _ s
  · split
    · exact SameBut.refl _ s
    · split
      · exact SameBut.refl _ s
      · intro b hb
        cases b <;> first | rfl | exact absurd (by decide) hb

theorem commitRoute_frame (s : State) : SameBut [.routeTable, .routeRuntime, .routeHold] s (commitRoute s).1 := by
  unfold commitRoute
  split
  · exact SameBut.refl _ s
  · split
    · exact SameBut.refl _ s
    · dsimp only
      split
      · exact (applyRoute_frame s).mono _ (by decide)
      · intro b hb
        cases b <;> first | rfl | exact absurd (by decide) hb

theorem commitPoll_frame (s : State) : SameBut scheduleBlocks s (commitPoll s).1 := by
  unfold commitPoll
  dsimp only
  refine SameBut.trans ?_ (recomputeCadences_frame _)
  intro b hb
  cases b <;> first | rfl | exact absurd (by decide) hb

theorem commitPosture_frame (s : State) : SameBut [.posture] s (commitPosture s).1 := by
  unfold commitPosture
  dsimp only
  split
  · apply applyPostureTable_frame
  · exact SameBut.refl _ s

theorem commitOrient_frame (s : State) : SameBut rotationBlocks s (commitOrient s).1 := applyOrientTable_frame _ s

theorem commitCurve_frame (s : State) : SameBut [.pen] s (commitCurve s).1 := by
  unfold commitCurve
  split
  · exact SameBut.refl _ s
  · intro b hb
    cases b <;> first | rfl | exact absurd (by decide) hb

theorem commitPolicy_frame (s : State) : SameBut adviceBlocks s (commitPolicy s).1 := by
  have h1 : SameBut adviceBlocks s
      (armRows { s with advisor := { s.advisor with table := s.staging.policy.map readPolicyRow } }) := by
    intro b hb
    cases b <;> first | rfl | exact absurd (by decide) hb
  unfold commitPolicy applyPolicy
  dsimp only
  split
  · exact h1.trans (sleepEvaluate_frame _)
  · exact h1.trans (retestAdvice_frame _)
  · exact h1
  · exact h1

/-- What a commit of the Parameter Table may write. -/
def paramBlocks : List Block := [.params, .supply, .pen, .poll, .dockLink, .advisor, .events]

theorem applyParams_frame (p : List Nat) (s : State) : SameBut paramBlocks s (applyParams p s) := by
  have h1 : SameBut paramBlocks s { s with params := p } := by
    intro b hb
    cases b <;> first | rfl | exact absurd (by decide) hb
  have h2 : ∀ r, SameBut paramBlocks s (renewBudget r { s with params := p }) := fun r =>
    h1.trans ((renewBudget_frame r _).mono _ (by decide))
  unfold applyParams
  dsimp only
  split
  · exact h2 _
  · exact (h2 _).trans ((rereadGates_frame _).mono _ (by decide))

theorem commitParams_frame (s : State) : SameBut paramBlocks s (commitParams s).1 := applyParams_frame _ s

/-! ## The Host Link -/

/-- What the selection of an upstream frame may write: the holdings it takes from. -/
theorem selectUpstream_frame (s : State) :
    SameBut [.events, .dockKeys, .samples, .batch] s (selectUpstream s).2 := by
  unfold selectUpstream
  split
  · exact SameBut.refl _ s
  · split
    · intro b hb
      cases b <;> first | rfl | exact absurd (by decide) hb
    · split
      · intro b hb
        cases b <;> first | rfl | exact absurd (by decide) hb
      · split
        · intro b hb
          cases b <;> first | rfl | exact absurd (by decide) hb
        · split
          · split
            · exact (writeBank_frame _ _ s).mono _ (by decide)
            · exact SameBut.refl _ s
          · exact SameBut.refl _ s

theorem beginTransaction_frame (s : State) :
    SameBut [.events, .dockKeys, .samples, .batch, .transaction] s (beginTransaction s) := by
  refine SameBut.trans ((selectUpstream_frame s).mono _ (by decide)) ?_
  intro b hb
  cases b <;> first | rfl | exact absurd (by decide) hb

theorem deliver_frame (t : Transaction) (s : State) : SameBut [.transaction, .slot, .batch] s (deliver t s) := by
  have h1 : SameBut [.transaction, .slot, .batch] s (endTransaction s) := (endTransaction_frame s).mono _ (by decide)
  unfold deliver
  dsimp only
  split
  · intro b hb
    cases b <;> first | rfl | exact absurd (by decide) hb
  · split
    · exact h1.trans ((freeBank_frame _ _).mono _ (by decide))
    · exact h1
  all_goals exact h1

theorem giveBack_frame (t : Transaction) (s : State) :
    SameBut [.transaction, .events, .dockKeys, .samples, .batch] s (giveBack t s) := by
  unfold giveBack
  dsimp only
  split <;> (intro b hb; cases b <;> first | rfl | exact absurd (by decide) hb)

theorem deliverAny_frame (s : State) : SameBut [.transaction, .slot, .batch] s (deliverAny s) := by
  unfold deliverAny
  split
  · exact SameBut.refl _ s
  · apply deliver_frame

/-- What SET_PLATFORM_STATE may write, besides its response. -/
def platformBlocks : List Block := [.batch, .supply, .pen, .poll, .dockLink, .advisor, .events]

theorem handPlatform_frame (s : State) : SameBut platformBlocks s (handPlatform s) :=
  ((renewBudget_frame _ s).mono _ (by decide)).trans ((rereadGates_frame _).mono _ (by decide))

theorem goToSleep_frame (s : State) : SameBut platformBlocks s (goToSleep s) :=
  ((((movePlatform_frame _ s).mono _ (by decide)).trans (handPlatform_frame _)).trans
    ((sleepBanks_frame _).mono _ (by decide))).trans ((repower_frame _).mono _ (by decide))

theorem comeAwake_frame (s : State) : SameBut platformBlocks s (comeAwake s) :=
  (((((movePlatform_frame _ s).mono _ (by decide)).trans (handPlatform_frame _)).trans
    ((wakeBanks_frame _).mono _ (by decide))).trans ((repower_frame _).mono _ (by decide))).trans
    ((sleepEvaluate_frame _).mono _ (by decide))

theorem setPlatform_frame (x : HostState) (s : State) : SameBut platformBlocks s (setPlatform x s) := by
  have h1 : ∀ f, SameBut platformBlocks s (setForcing f s) := fun f => (setForcing_frame f s).mono _ (by decide)
  unfold setPlatform
  split
  · dsimp only
    split
    · exact h1 _
    · exact (h1 _).trans (goToSleep_frame _)
  · dsimp only
    split
    · exact h1 _
    · exact (h1 _).trans (comeAwake_frame _)

end Sys2Proof.Machine
end

