-- ==== Sys2Proof/Laws/Classify.lean ====
section
/-! SUPPORT. What an orientation update makes of the tracker, and what a classification makes of the classifier. -/

namespace Sys2Proof.Machine

/-! ## The Orientation Tracker (R80, R81) -/

theorem reportRotation_orient (s : State) : (reportRotation s).orient = s.orient :=
  advisorTakes_frame false true none s .orient (by decide)

/-- What a judgement of an O makes of the tracker (R80). -/
theorem judgeRotation_orient (o : Angle) (s : State) :
    (judgeRotation o s).orient
      = match s.qualifying o with
        | none => { s.orient with candidate := none, dwell := none }
        | some q =>
          if q = s.orient.current ∨ inSet s.allowedSet q = false then { s.orient with candidate := none, dwell := none }
          else if s.orient.candidate = some q then s.orient
          else if s.param .rotationDwell = 0 then { s.orient with current := q, candidate := none, dwell := none }
          else { s.orient with candidate := some q, dwell := s.timer (s.param .rotationDwell) } := by
  unfold judgeRotation
  cases s.qualifying o with
  | none => rfl
  | some q =>
    dsimp only
    split
    · rfl
    · split
      · rfl
      · unfold beginRotation
        split
        · exact reportRotation_orient _
        · rfl

/-- An orientation update leaves the tracker as R80 says. -/
theorem takeOrientation_taken (o : Angle) (s : State) : s.OrientationTaken (some o) (takeOrientation o s).orient := by
  refine ⟨by simp, ?_⟩
  rintro p ⟨⟩
  have hj := judgeRotation_orient o { s with orient := { s.orient with heldO := some o, heldFlat := false } }
  change _ = match s.qualifying o with | none => _ | some q => _ at hj
  have hu : s.orient.locked = false → (takeOrientation o s).orient = _ :=
    fun h => (by simp only [takeOrientation, h]; rfl :
      (takeOrientation o s).orient
        = (judgeRotation o { s with orient := { s.orient with heldO := some o, heldFlat := false } }).orient).trans hj
  refine ⟨fun h => by simp [takeOrientation, h], fun h hn => (hu h).trans ?_, fun q h hq ht => ?_⟩
  · cases hk : s.qualifying o with
    | none => rfl
    | some q =>
      refine if_pos ?_
      by_cases e : q = s.orient.current
      · exact .inl e
      · exact .inr (by simpa [State.allowedSet, e] using hn q hk)
  · have hd : ¬ (q = s.orient.current ∨ inSet s.allowedSet q = false) := by
      rintro (e | e)
      · exact ht.1 e
      · simp [ht.2] at e
    have hv := hu h
    rw [hq] at hv
    have hv := hv.trans (if_neg hd)
    exact ⟨fun hc => hv.trans (if_pos hc),
      fun hc hp => (hv.trans (if_neg hc)).trans (if_neg (Nat.ne_of_gt hp)),
      fun hc hp => (hv.trans (if_neg hc)).trans (if_pos hp)⟩

/-- A flat update leaves the tracker as R81 says. -/
theorem takeFlat_taken (s : State) : s.OrientationTaken none (takeFlat s).orient := ⟨fun _ => rfl, by simp⟩

/-! ## The Posture Classifier (R70 to R74) -/

/-- A change of posture writes the posture with its row, and clears the candidate (R74). -/
theorem changePosture_posture (p : Posture) (row : Option Nat) (s : State) :
    (changePosture p row s).posture
      = { s.posture with posture := p, row := row, candidate := none, dwell := none } := by
  have ht : ∀ u : State, (trackPosture p u).posture = u.posture := fun u => trackPosture_frame p u .posture (by decide)
  have ha : ∀ (a b : Bool) (c : Option WakeCause) (u : State), (advisorTakes a b c u).posture = u.posture :=
    fun a b c u => advisorTakes_frame a b c u .posture (by decide)
  simp only [changePosture]
  split
  · exact (ha _ _ _ _).trans (ht _)
  · exact (ha _ _ _ _).trans ((ha _ _ _ _).trans (ht _))

/-- What a classification makes of the classifier (R70 to R73). -/
theorem classify_posture (expiring : Bool) (s : State) :
    (classify expiring s).posture
      = let adopted (n : Nat) : PostureBlock :=
          { s.posture with posture := s.rowPosture n, row := some n, candidate := none, dwell := none }
        let cleared : PostureBlock := { s.posture with candidate := none, dwell := none }
        if s.posture.attached = false then s.posture
        else if s.posture.posture = .unknown then
          match s.firstMatch with
          | some n => adopted n
          | none => s.posture
        else if s.keeps then cleared
        else
          match s.firstMatch with
          | none => cleared
          | some n =>
            if s.rowPosture n = s.posture.posture then { cleared with row := some n }
            else if s.posture.candidate = some n then (if expiring then adopted n else s.posture)
            else if (s.postureRow n).dwell = 0 then adopted n
            else { s.posture with candidate := some n, dwell := s.timer (s.postureRow n).dwell } := by
  dsimp only
  unfold classify chooseCandidate
  split
  · rfl
  · split
    · cases s.firstMatch with
      | none => rfl
      | some n => exact changePosture_posture _ _ s
    · split
      · rfl
      · cases s.firstMatch with
        | none => rfl
        | some n =>
          dsimp only
          split
          · rfl
          · split
            · split
              · exact changePosture_posture _ _ s
              · rfl
            · unfold beginPosture
              split
              · exact changePosture_posture _ _ s
              · rfl

end Sys2Proof.Machine
end

