-- ==== Sys2Proof/Laws/Events.lean ====
section
/-! SUPPORT. What the shared operations do to the attention line, to the pending events of other kinds, to the last-activity tick and
to the copies the Sleep Advisor holds. -/

namespace Sys2Proof.Machine

/-! ## The attention line -/

/-- A holding does not fill by staying as it is. -/
theorem Holdings.filled_self (h : Holdings) : h.filled h = false := by
  cases h with | mk a b c d => cases a <;> cases b <;> cases c <;> cases d <;> rfl

/-- A command that leaves holdings and mode as they are lets the attention line only age. -/
theorem settle_lineKept {s a : State} (h : a.holdings = s.holdings) (m : a.levelMode = s.levelMode) :
    settleAttention s a = a.lineKept := by
  unfold settleAttention State.lineKept pulseAfter
  rw [h, Holdings.filled_self, ← m]
  cases a.levelMode <;> simp

theorem levelMode_congr {s a : State} (h : a.advisor = s.advisor) (p : a.params = s.params) : a.levelMode = s.levelMode := by
  unfold State.levelMode State.param; rw [h, p]

theorem holdings_congr {s a : State} (h1 : a.host.events = s.host.events) (h2 : a.dock.keys = s.dock.keys)
    (h3 : a.host.samples = s.host.samples) (h4 : a.advisor = s.advisor) (h5 : a.batch = s.batch) : a.holdings = s.holdings := by
  unfold State.holdings; rw [h1, h2, h3, h4, h5]

/-! ## Pending events -/

/-- Every pending event of a kind not named is still pending as it was. -/
def EventsKept (ks : List Nat) (s t : State) : Prop := ∀ e ∈ s.host.events, e.kind ∉ ks → e ∈ t.host.events

theorem EventsKept.refl (ks) (s : State) : EventsKept ks s s := fun _ h _ => h

theorem EventsKept.trans {ks} {s t u : State} (h : EventsKept ks s t) (k : EventsKept ks t u) :
    EventsKept ks s u := fun e he hk => k e (h e he hk) hk

theorem EventsKept.mono {ks} {s t : State} (h : EventsKept ks s t) (ks') (sub : ∀ k ∈ ks, k ∈ ks') :
    EventsKept ks' s t := fun e he hk => h e he (fun q => hk (sub _ q))

theorem EventsKept.of_same {s t : State} (h : t.host.events = s.host.events) (ks) : EventsKept ks s t := fun _ he _ => h ▸ he

theorem EventsKept.frame {l} {s t : State} (h : SameBut l s t) (hl : Block.events ∉ l) (ks) :
    EventsKept ks s t := EventsKept.of_same (h .events hl) ks

theorem mem_addEvent_other {list : List Event} {e x : Event} (h : x ∈ list) (k : x.kind ≠ e.kind) : x ∈ addEvent list e := by
  induction list with
  | nil => cases h
  | cons y rest ih =>
    unfold addEvent
    split
    · rename_i hy
      cases h with
      | head => exact absurd hy k
      | tail _ h => exact List.mem_cons_of_mem _ h
    · cases h with
      | head => exact List.mem_cons_self ..
      | tail _ h => exact List.mem_cons_of_mem _ (ih h)

/-- Raising an event leaves the pending events of the other kinds. -/
theorem raise_kept (e : Event) (s : State) : EventsKept [e.kind] s (raise e s) := fun x hx hk => mem_addEvent_other hx (by simpa using hk)

/-- An event of a kind that carries no set is pending as raised. -/
theorem mem_addEvent_self (list : List Event) (e : Event) (h : e.kind < 10) : e ∈ addEvent list e := by
  induction list with
  | nil => exact List.mem_cons_self ..
  | cons y rest ih =>
    unfold addEvent
    split
    · rename_i hy
      have : mergeEvent y e = e := by
        cases e <;> simp [Event.kind] at h <;> cases y <;> rfl
      rw [this]; exact List.mem_cons_self ..
    · exact List.mem_cons_of_mem _ ih

theorem sleepEvaluate_kept (s : State) : EventsKept [6] s (sleepEvaluate s) := by
  unfold sleepEvaluate
  split
  · dsimp only
    split
    · exact (EventsKept.of_same rfl _).trans (raise_kept (.sleepAdvice .advise _) _)
    · exact EventsKept.of_same rfl _
  · exact EventsKept.refl _ s

theorem retestAdvice_kept (s : State) : EventsKept [6] s (retestAdvice s) := by
  unfold retestAdvice
  split
  · exact EventsKept.refl _ s
  · split
    · exact EventsKept.refl _ s
    · rename_i n _ _
      have h1 : EventsKept [6] s (raise (.sleepAdvice .withdrawn n) s) := raise_kept (.sleepAdvice .withdrawn n) s
      exact (h1.trans (EventsKept.of_same (by rfl) _)).trans (sleepEvaluate_kept _)

theorem takeCause_kept (c) (s : State) : EventsKept [7] s (takeCause c s) := by
  unfold takeCause
  split
  · split
    · exact EventsKept.refl _ s
    · rename_i n _
      have h1 : EventsKept [7] s (raise (.wake c n) s) := raise_kept (.wake c n) s
      have h2 : EventsKept [7] (raise (.wake c n) s)
          { raise (.wake c n) s with advisor := { (raise (.wake c n) s).advisor with platform := .waking } } :=
        EventsKept.of_same rfl _
      exact (h1.trans h2).trans (EventsKept.frame (repower_frame _) (by decide) _)
  · exact EventsKept.refl _ s

theorem advisorTakes_kept (ch ac c) (s : State) : EventsKept [6, 7] s (advisorTakes ch ac c s) := by
  have h1 : EventsKept [6, 7] s (if ac then { s with advisor := { s.advisor with lastActivity := s.tick } } else s) := by
    split <;> exact EventsKept.of_same rfl _
  unfold advisorTakes
  dsimp only
  split
  · split
    · exact h1.trans ((sleepEvaluate_kept _).mono _ (by decide))
    · exact h1
  · split
    · exact h1.trans ((retestAdvice_kept _).mono _ (by decide))
    · exact h1
  · split
    · exact h1
    · exact h1.trans ((takeCause_kept _ _).mono _ (by decide))
  · exact h1

/-! ## The last-activity tick -/

theorem sleepEvaluate_lastActivity (s : State) : (sleepEvaluate s).advisor.lastActivity = s.advisor.lastActivity := by
  unfold sleepEvaluate; split
  · dsimp only; split <;> rfl
  · rfl

theorem endAdvice_lastActivity (s : State) : (endAdvice s).advisor.lastActivity = s.advisor.lastActivity := sleepEvaluate_lastActivity _

theorem retestAdvice_lastActivity (s : State) : (retestAdvice s).advisor.lastActivity = s.advisor.lastActivity := by
  unfold retestAdvice; split
  · rfl
  · split
    · rfl
    · exact endAdvice_lastActivity _

/-- The part power is all that a recomputation of it changes in the Advisor. -/
theorem repower_advisor (s : State) : (repower s).advisor = { s.advisor with power := s.choosePower } := by
  unfold repower
  split
  · rename_i h; rw [h]
  · exact recomputeCadences_frame _ .advisor (by decide)

theorem takeCause_lastActivity (c) (s : State) : (takeCause c s).advisor.lastActivity = s.advisor.lastActivity := by
  unfold takeCause; split
  · split
    · rfl
    · rw [repower_advisor]; rfl
  · rfl

/-- Activity sets the last-activity tick, whatever follows from it. -/
theorem advisorTakes_lastActivity (ch c) (s : State) : (advisorTakes ch true c s).advisor.lastActivity = s.tick := by
  unfold advisorTakes
  dsimp only
  simp only [if_true]
  split
  · split
    · rw [sleepEvaluate_lastActivity]
    · rfl
  · split
    · rw [retestAdvice_lastActivity]
    · rfl
  · split
    · rfl
    · rw [takeCause_lastActivity]
  · rfl

/-! ## The held copies -/

/-- The Advisor's held copies, its forcing and its table are as they were. -/
def HeldSame (s t : State) : Prop :=
  t.advisor.heldPosture = s.advisor.heldPosture ∧ t.advisor.heldDock = s.advisor.heldDock
    ∧ t.advisor.penPresent = s.advisor.penPresent ∧ t.advisor.penCharging = s.advisor.penCharging
    ∧ t.advisor.latchLocked = s.advisor.latchLocked ∧ t.advisor.forcing = s.advisor.forcing
    ∧ t.advisor.table = s.advisor.table

theorem HeldSame.refl (s : State) : HeldSame s s := ⟨rfl, rfl, rfl, rfl, rfl, rfl, rfl⟩

theorem HeldSame.trans {s t u : State} (h : HeldSame s t) (k : HeldSame t u) : HeldSame s u :=
  ⟨k.1.trans h.1, k.2.1.trans h.2.1, k.2.2.1.trans h.2.2.1, k.2.2.2.1.trans h.2.2.2.1, k.2.2.2.2.1.trans h.2.2.2.2.1,
    k.2.2.2.2.2.1.trans h.2.2.2.2.2.1, k.2.2.2.2.2.2.trans h.2.2.2.2.2.2⟩

theorem sleepEvaluate_held (s : State) : HeldSame s (sleepEvaluate s) := by
  unfold sleepEvaluate; split
  · dsimp only; split <;> exact ⟨rfl, rfl, rfl, rfl, rfl, rfl, rfl⟩
  · exact HeldSame.refl s

theorem endAdvice_held (s : State) : HeldSame s (endAdvice s) :=
  HeldSame.trans
    (t := { s with advisor := { s.advisor with platform := .awake, advising := none, adviceTimer := none } })
    ⟨rfl, rfl, rfl, rfl, rfl, rfl, rfl⟩ (sleepEvaluate_held _)

theorem retestAdvice_held (s : State) : HeldSame s (retestAdvice s) := by
  unfold retestAdvice; split
  · exact HeldSame.refl s
  · split
    · exact HeldSame.refl s
    · exact HeldSame.trans ⟨rfl, rfl, rfl, rfl, rfl, rfl, rfl⟩ (endAdvice_held _)

theorem repower_held (s : State) : HeldSame s (repower s) := by
  unfold HeldSame; rw [repower_advisor]; exact ⟨rfl, rfl, rfl, rfl, rfl, rfl, rfl⟩

theorem takeCause_held (c) (s : State) : HeldSame s (takeCause c s) := by
  unfold takeCause; split
  · split
    · exact HeldSame.refl s
    · exact HeldSame.trans ⟨rfl, rfl, rfl, rfl, rfl, rfl, rfl⟩ (repower_held _)
  · exact HeldSame.refl s

theorem advisorTakes_held (ch ac c) (s : State) : HeldSame s (advisorTakes ch ac c s) := by
  have h1 : HeldSame s (if ac then { s with advisor := { s.advisor with lastActivity := s.tick } } else s) := by
    split <;> exact ⟨rfl, rfl, rfl, rfl, rfl, rfl, rfl⟩
  unfold advisorTakes
  dsimp only
  split
  · split
    · exact h1.trans ((sleepEvaluate_held _))
    · exact h1
  · split
    · exact h1.trans ((retestAdvice_held _))
    · exact h1
  · split
    · exact h1
    · exact h1.trans ((takeCause_held _ _))
  · exact h1

/-! ## The end of a traversal -/

theorem endTraversal_kept (s : State) : EventsKept [13] s (endTraversal s) := by
  unfold endTraversal
  refine EventsKept.trans ?_ (EventsKept.frame (takeRecord_frame _) (by decide) _)
  unfold applyHeld
  split
  · exact (EventsKept.of_same (by rfl) _).trans (raise_kept (.tableCommitted [.route]) _)
  · exact EventsKept.of_same rfl _

end Sys2Proof.Machine
end

