-- ==== Sys2Proof/Tests/Slice0.lean ====
section
/-! SUPPORT. The model's own tests: ill-formed commands are refused by the check, frames decode to their commands, the worked figures of
the manual come out, and for every statement with hypotheses a state that meets them, one for each clause. -/

namespace Sys2Proof.Tests

open Sys2Proof Sys2Proof.Machine

-- One theorem after another: a kernel evaluation waits for the file before it, and waiting theorems hold a thread each.
set_option Elab.async false

/-- The state a command leads to. -/
def after (c : Instr) (s : State) : State :=
  match exec c s with
  | .next t => t
  | .fault _ => s
  | .refused _ => s

def quietLines : LineLevels := { halc := false, half := false, penp := false, dsns := false }

def quietReadings : ConverterReadings := { coil := 0, pcel := 0, ctmp := 250 }

/-! ## Ill-formed commands -/

theorem test_wellFormed_tick_names_a_source_twice :
    (Instr.tick quietLines quietReadings [.halc, .coil, .halc]).wellFormed = false := by decide

theorem test_wellFormed_lux_below_zero : (Instr.pollSuccess { x := 0, y := 0, z := 0, lux := -1 }).wellFormed = false := by
  decide

theorem test_wellFormed_reply_too_short : (Instr.dockReply [4]).wellFormed = false := by decide

theorem test_wellFormed_reply_too_long : (Instr.dockReply (List.replicate 20 0)).wellFormed = false := by decide

theorem test_wellFormed_write_too_long : (Instr.tableWrite 1 .route 0 28 (List.replicate 253 0)).wellFormed = false := by
  decide +kernel

theorem test_wellFormed_host_write_needs_its_bytes :
    (HostCommand.tableWrite 1 .poll 0 2 [5, 2, 0]).wellFormed = false
      ∧ (HostCommand.tableWrite 1 .poll 0 2 [5, 2, 0, 0]).wellFormed = true := by decide

/-! ## Decoding: frames written out from sections 11.2 and 11.5 -/

/-- The command a frame is decoded to. -/
def decoded (kind : Byte) (payload : List Byte) : Option HostCommand :=
  match decodeFrame kind payload with
  | .ok c => some c
  | .error _ => none

/-- The check a frame fails. -/
def failed (kind : Byte) (payload : List Byte) : Option FrameError :=
  match decodeFrame kind payload with
  | .ok _ => none
  | .error e => some e

/-- Kinds 1, 5, 8, 9, 10 and 13 carry their tag alone. -/
theorem test_decode_plain_frames :
    decoded 1 [7] = some (.nop 7) ∧ decoded 5 [9] = some (.readState 9) ∧ decoded 8 [1] = some (.clearFault 1)
      ∧ decoded 9 [2] = some (.detach 2) ∧ decoded 10 [3] = some (.detachCancel 3)
      ∧ decoded 13 [4] = some (.resetPart 4) := by decide

/-- Table ids, copies and platform states by their codes; any non-zero switch is on. -/
theorem test_decode_argument_frames :
    decoded 2 [7, 1, 6, 1, 4, 3] = some (.tableWrite 7 .poll 6 1 [4, 3])
      ∧ decoded 3 [7, 4, 1, 2, 3] = some (.tableRead 7 .curve .staging 2 3)
      ∧ decoded 4 [7, 6] = some (.tableCommit 7 .param)
      ∧ decoded 6 [7, 0x80] = some (.rotationLock 7 true) ∧ decoded 7 [7, 0] = some (.chargeInhibit 7 false)
      ∧ decoded 11 [7, 200, 3] = some (.dockOutput 7 200 3)
      ∧ decoded 12 [7, 0] = some (.setPlatformState 7 .sleeping) := by decide

/-- R170: kind before codes before length. -/
theorem test_decode_refusals :
    failed 14 [7] = some .unknownKind ∧ failed 4 [7, 7, 0] = some .badIndex
      ∧ failed 3 [7, 0, 2, 0, 1] = some .badIndex ∧ failed 12 [7, 2] = some .badIndex
      ∧ failed 2 [7, 1, 0, 2, 5, 2, 0] = some .badLength ∧ failed 1 [7, 0] = some .badLength := by decide

/-- The CRC-8 of R89 of the nine characters 1 to 9 is F4H, the check value this generator is known by (general
knowledge, not the manual's). -/
theorem test_crc_check_value : crc8 [0x31, 0x32, 0x33, 0x34, 0x35, 0x36, 0x37, 0x38, 0x39] = 0xF4 := by decide +kernel

/-- An IDENT of section 11.5: header DATA on channel 0 with toggle 0, length 6; baseline 20, extra limit 30. -/
theorem test_decode_ident :
    judgeReply .control (withCrc [1, 6, 1, 9, 8, 7, 20, 30])
      = .data false
          (.ident
            { model := 9, layout := 8, accelerometer := true, backlight := true, detachButton := true, baseline := 20,
              extraLimit := 30 }) := by decide +kernel

/-- A key report on channel 1 with toggle 1: header bits 0 to 2 are 1, bits 3 and 4 are 1, bit 5 is 1. -/
theorem test_decode_keys :
    judgeReply .keys (withCrc [0x29, 3, 1, 30, 44]) = .data true (.keys { pressed := [30, 44], fn := true })
      ∧ judgeReply .keys (withCrc [0x29, 3, 1, 44, 30]) = .failure
      ∧ judgeReply .keys (withCrc [0x29, 2, 0, 128]) = .failure := by decide +kernel

/-- Replies without a payload, a wrong channel, and a bad CRC. -/
theorem test_decode_short_replies :
    judgeReply .output (withCrc [0x1A]) = .ack ∧ judgeReply .keys (withCrc [0x0B]) = .nak
      ∧ judgeReply .motion (withCrc [0x14]) = .stall ∧ judgeReply .keys (withCrc [0x13]) = .failure
      ∧ judgeReply .keys (withCrc [0x0D]) = .failure ∧ judgeReply .keys [0x0B, 0x00] = .failure := by decide

/-! ## The ports (chapter 1) -/

/-- Section 1.5: code 21 turns (100, −32768, 8000) into (32767, 100, −8000). -/
theorem test_mount_worked_case :
    mountTransform 21 100 0x8000 8000 = .three 32767 100 (BitVec.ofInt 16 (-8000)) := by decide

/-- R5: LIDA is first due at tick 16 and CTMP at tick 256; section 1.4: FAILED at 1632 is next due at 2048. -/
theorem test_next_polls :
    State.reset.poll.schedule.lida.next = some 16 ∧ State.reset.poll.schedule.ctmp.next = some 256
      ∧ nextPoll 1024 1632 = some 2048 ∧ nextPoll 16 4294967280 = some 0 := by decide

/-- R15: the level held from 5020 becomes the debounced level at 5060 and not at 5059. -/
theorem test_hall_debounce :
    observeLine 40 true 5059 { debounced := some false, pending := some { level := true, start := 5020, hold := 40 } }
        = ({ debounced := some false, pending := some { level := true, start := 5020, hold := 40 } }, none)
      ∧ observeLine 40 true 5060 { debounced := some false, pending := some { level := true, start := 5020, hold := 40 } }
        = ({ debounced := some true, pending := none }, some true) := by decide

/-- R3: a coil current above 1023 mA is delivered as 1023, a lux reading above 32767 as 32767. -/
theorem test_clamped_readings : coilValue 1100 = 1023 ∧ luxValue 40000 = 32767 ∧ tempValue (-500) = BitVec.ofInt 16 (-400) := by
  decide

/-! ## The Angle Engine (chapter 3) -/

/-- The table of stage results at the axes and the diagonals. -/
theorem test_stage_table :
    stage 8192 0 = 0 ∧ stage 0 8192 = 1024 ∧ stage (BitVec.ofInt 16 (-8192)) 0 = 2048
      ∧ stage 0 (BitVec.ofInt 16 (-8192)) = 3072 ∧ stage 5000 5000 = 512 ∧ stage 0x8000 0x8000 = 2560
      ∧ stage 32767 (BitVec.ofInt 16 (-1)) = 0 ∧ stage (BitVec.ofInt 16 (-1)) 32767 = 1024
      ∧ stage 100 (BitVec.ofInt 16 (-7000)) = 3081 := by decide

/-- A base lying face up and flat. -/
def flatBase : Vector3 := { x := 0, y := 0, z := 16384, timestamp := 0 }

/-- The machine in use as a laptop of section 3.11, before its lid feed: base vector stored, Hf16 at 20000. -/
def laptopState : State :=
  { State.reset with angle := { State.reset.angle with base := some flatBase, filter := some 20000 } }

def laptopLid : Vector3 := { x := 0, y := BitVec.ofInt 16 (-12000), z := BitVec.ofInt 16 (-5000), timestamp := 0 }

/-- Section 3.11: H is 1281, Hf16 20124, Hf 1258, the attitude FACE_UP. -/
theorem test_hinge_worked_case :
    (feedLid laptopLid laptopState).angle.h = 1281 ∧ (feedLid laptopLid laptopState).angle.filter = some 20124
      ∧ (feedLid laptopLid laptopState).hf = some 1258 ∧ (feedLid laptopLid laptopState).angle.attitude = .faceUp := by
  decide

/-- Section 3.11: the filter through the seam and after a step of the hinge. -/
theorem test_filter_worked_cases :
    filterStep 2 10 (some 65000) = 65174 ∧ reportedAngle 65174 = 4073 ∧ filterStep 2 1400 (some 20496) = 20972
      ∧ filterStep 2 1400 (some 20972) = 21329 ∧ filterStep 2 1400 (some 21329) = 21597
      ∧ filterStep 2 1400 (some 21597) = 21798 ∧ reportedAngle 21798 = 1362 ∧ reportedAngle 65528 = 0 := by decide

/-- Section 3.11: a lid held upright and slightly turned. -/
theorem test_orientation_angle : stage (BitVec.ofInt 16 (-3000)) 9000 = 1233 := by decide

/-! ## Posture and orientation (chapters 4 and 5) -/

/-- A machine attached, CLOSED by row 1, with a filtered angle, an attitude and hall levels. -/
def shutState (hf : Option Angle) (attitude : Attitude) (closed folded : Option Bool) : State :=
  { State.reset with
    dock := { State.reset.dock with state := .attached }
    posture :=
      { State.reset.posture with
        posture := .closed, row := some 1, attached := true, heldHf := hf, attitude := attitude, hallClosed := closed
        hallFolded := folded } }

/-- Section 4.8: opening a shut machine, and attaching one with the lid shut. -/
theorem test_posture_matches :
    (shutState (some 195) .faceUp (some false) (some false)).firstMatch = none
      ∧ (shutState (some 262) .faceUp (some false) (some false)).firstMatch = some 3
      ∧ (shutState none .none (some true) (some false)).firstMatch = some 1
      ∧ (shutState (some 3702) .faceDown (some false) (some true)).firstMatch = some 2
      ∧ (shutState (some 20) .faceDown (some false) (some true)).firstMatch = some 2 := by decide

/-- Section 4.4: row 1 widened holds 3948..261. -/
theorem test_posture_widened :
    (shutState (some 261) .faceUp (some true) none).keeps = true ∧ (shutState (some 262) .faceUp (some true) none).keeps = false
      ∧ (shutState (some 3948) .faceUp (some true) none).keeps = true
      ∧ (shutState (some 3947) .faceUp (some true) none).keeps = false := by decide

/-- Section 5.1: the ends of the ROT0 and ROT270 regions at Rotation Margin 171. -/
theorem test_orientation_regions :
    State.reset.qualifying 682 = none ∧ State.reset.qualifying 683 = some .rot0 ∧ State.reset.qualifying 1365 = some .rot0
      ∧ State.reset.qualifying 1366 = none ∧ State.reset.qualifying 3755 = some .rot270
      ∧ State.reset.qualifying 341 = some .rot270 := by decide

/-- A tracker whose held posture SLATE allows ROT90 and ROT270 only. -/
def narrowState (o : Angle) : State :=
  { State.reset with
    orient := { State.reset.orient with table := { State.reset.orient.table with slate := 0b1010 }, heldO := some o } }

/-- R85: from 1024 the tie gives ROT90, from 3500 ROT270 is nearer. -/
theorem test_forced_targets : (narrowState 1024).forcedTarget = .rot90 ∧ (narrowState 3500).forcedTarget = .rot270 := by decide

/-! ## Pen charging and the supply budget (chapters 7 and 8) -/

/-- Section 7.9: curve and request. -/
theorem test_curve_worked_cases :
    curveTarget defaultCurve (some 3950) = 425 ∧ penUnits 425 = 43 ∧ curveTarget defaultCurve (some 3250) = 358
      ∧ penUnits 358 = 36 ∧ curveTarget defaultCurve (some 4195) = 45 ∧ penUnits 45 = 5
      ∧ curveTarget defaultCurve (some 4210) = 40 ∧ penUnits 40 = 5 ∧ curveTarget defaultCurve (some 4080) = 190
      ∧ curveTarget defaultCurve none = 150 := by decide

/-- A pen at a target and a current, with duty 100. -/
def coilState (target : Nat) (current : Value) : State :=
  { State.reset with
    pen := { State.reset.pen with duty := 100, target := target, current := some { value := current, timestamp := 0 } } }

/-- Section 7.9: the duty steps by 2, −2, −1, and by at most 16. -/
theorem test_duty_worked_cases :
    (coilState 200 180).steppedDuty = 102 ∧ (coilState 200 215).steppedDuty = 98 ∧ (coilState 200 201).steppedDuty = 99
      ∧ (coilState 200 0).steppedDuty = 116 := by decide

/-- A CHARGING pen with its faults, retry set and used count. -/
def faultyState (faults : Nat) (later : Bool) (used : Nat) : State :=
  { State.reset with
    pen := { State.reset.pen with state := .charging, faults := faults, laterSet := later, used := used } }

def waitAfter (s : State) : Option Nat := (takeFault .overcurrent s).pen.retryTimer.map (fun t => t.duration)

/-- Section 7.9: retry sets under the defaults. -/
theorem test_retry_sets :
    waitAfter (faultyState 0 false 0) = some 512 ∧ waitAfter (faultyState 1 false 1) = some 512
      ∧ waitAfter (faultyState 2 false 2) = some 6144 ∧ waitAfter (faultyState 3 true 1) = some 6144
      ∧ waitAfter (faultyState 4 true 1) = none ∧ (takeFault .overcurrent (faultyState 4 true 1)).pen.state = .latched := by
  decide

/-- Section 8.6: the allocations of a release while awake and of sleep under the default Sleep Budget. -/
theorem test_allocation_worked_cases :
    divideBudget 120 ⟨50, 20, 43, 30⟩ = ⟨50, 20, 43, 7⟩ ∧ divideBudget 60 ⟨0, 20, 43, 30⟩ = ⟨0, 20, 40, 0⟩
      ∧ divideBudget 24 ⟨0, 20, 43, 30⟩ = ⟨0, 20, 4, 0⟩ ∧ divideBudget 100 ⟨50, 20, 43, 30⟩ = ⟨50, 20, 30, 0⟩ := by decide

/-! ## Parts of the states that meet the hypotheses of the statements

Each `witness_<Name>` below shows that the hypotheses of `Obligations.<Name>` can be met, every clause by a state of its
own, at a boundary value where the clause has one. -/

/-- A parameter at another value. -/
def withParam (p : Param) (n : Nat) (s : State) : State := { s with params := s.params.set p.index n }

def atTick (t : Tick) (s : State) : State := { s with tick := t }

/-- A one-value record of a source. -/
def oneRecord (src : Source) (v : Value) : Sample := { source := src, timestamp := 0, unsettled := false, values := .one v }

/-- A lid record. -/
def lidRecord (x y z : Value) : Sample := { source := .lida, timestamp := 0, unsettled := false, values := .three x y z }

/-- A traversal that comes to entry 11 after so many visits. -/
def traversalOf (r : Sample) (visits : Nat) : Traversal := { record := r, entry := 11, visits := visits, visited := [], fed := [] }

/-- The state in which that traversal is in flight and entry 11 holds `e`. -/
def walkingTo (e : RouteEntry) (r : Sample) (visits : Nat) (s : State) : State :=
  { s with route := { s.route with table := s.route.table.set 11 e, walking := some (traversalOf r visits) } }

/-- An enabled entry that acts on every sample. -/
def actingEntry : RouteEntry := { plainRoute with enabled := true }

/-- A pen CHARGING with a current feed stamped 20, a target and a duty of 0, granted what it asks for. -/
def chargingState (current : Value) (target : Nat) : State :=
  { State.reset with
    tick := 31
    pen :=
      { State.reset.pen with state := .charging, target := target, current := some { value := current, timestamp := 20 } }
    supply := { State.reset.supply with requests := ⟨0, 0, 15, 0⟩, grants := ⟨0, 0, 15, 0⟩ } }

def penIn (state : PenState) (s : State) : State := { s with pen := { s.pen with state := state } }

def dockIn (state : DockState) (s : State) : State := { s with dock := { s.dock with state := state } }

def platformIn (p : Platform) (s : State) : State := { s with advisor := { s.advisor with platform := p } }

/-- An exchange on a channel, on the wire. -/
def exchangeOn (c : Channel) : Cycle := { tick := 0, channel := c, rest := [], afterMark := true, discarded := false }

def onWire (c : Channel) (s : State) : State := { s with dock := { s.dock with cycle := some (exchangeOn c) } }

/-- A timer started at tick 0, in a state at the tick at which it expires. -/
def timerOf (duration : Nat) : Option Timer := some { start := 0, duration := duration }

/-! ## Witnesses: TICK -/

/-- What of an order of arrival is still to come: HALC's sample, the place kept for LIDA, COIL's sample. -/
def toCome : List Coming :=
  [{ source := .halc, values := some (.one 1), afterMark := true }, { source := .lida, values := none, afterMark := false },
    { source := .coil, values := some (.one 77), afterMark := true }]

def comingState (s : State) : State := { s with poll := { s.poll with coming := toCome } }

def fifoOf (n : Nat) (s : State) : State := { s with intake := { s.intake with fifo := List.replicate n (oneRecord .ctmp 250) } }

/-- With fifteen records the FIFO has room for one of the two samples. -/
theorem witness_TickAdvancesTheCount :
    State.reset.NoPeriod ∧ (penIn .charging (atTick 16 State.reset)).NoPeriod
      ∧ (comingState (fifoOf 15 State.reset)).ComingOnce
      ∧ (landRest (comingState (fifoOf 15 State.reset))).recordsOf .halc ≠ []
      ∧ (landRest (comingState (fifoOf 15 State.reset))).intake.gaps.get .coil = true := by
  unfold State.NoPeriod State.ComingOnce; decide +kernel

/-- HALC asserted at the boundary of tick 5060, with the line as given. -/
def lineState (debounced : Option Bool) (pending : Option PendingLevel) : State :=
  { State.reset with tick := 5059, lines := { State.reset.lines with halc := { debounced := debounced, pending := pending } } }

def halcUp : LineLevels := { quietLines with halc := true }

theorem witness_LinesAreDebounced :
    (landRest (comingState (fifoOf 7 State.reset))).intake.fifo.length ≤ 9
      ∧ waitsForPort [.halc, .lida] .halc = false ∧ waitsForPort [.basa, .halc] .halc = true
      ∧ (lineState (some true) none).lines.halc.debounced = some (levelOf halcUp .halc)
      ∧ (lineState (some false) (some { level := true, start := 5020, hold := 40 })).lines.halc.debounced
          ≠ some (levelOf halcUp .halc)
      ∧ 40 ≤ ((5059 + 1 : Tick) - 5020).toNat ∧ ((5059 + 1 : Tick) - 5021).toNat < 40
      ∧ (lineState none (some { level := false, start := 5000, hold := 40 })).lines.halc.debounced
          ≠ some (levelOf halcUp .halc)
      ∧ (withParam .hallHold 0 (lineState none none)).param Line.halc.hold = 0
      ∧ 0 < (lineState none none).param Line.halc.hold := by decide +kernel

/-- PCEL at a period of 8 ticks, due at tick 264. -/
def fastCell (s : State) : State :=
  { s with
    tick := 263
    poll := { s.poll with schedule := { s.poll.schedule with pcel := { code := 6, next := some 264, settle := true } } } }

/-- A control period falls at tick 288, where PCEL is due too, and leaves the pen CHARGING. -/
def periodCell : State :=
  { chargingState 100 150 with
    tick := 287
    pen := { (chargingState 100 150).pen with current := some { value := 100, timestamp := 287 } }
    poll := { State.reset.poll with schedule := { State.reset.poll.schedule with pcel := { code := 5, next := some 288, settle := true } } } }

theorem witness_ConverterReadsArrive :
    (atTick 15 State.reset).NoPeriod ∧ ((atTick 15 State.reset).poll.schedule.get .coil).next = some (15 + 1)
      ∧ (fifoOf 9 State.reset).intake.fifo.length ≤ 9
      ∧ (fastCell State.reset).pen.state ≠ .charging
      ∧ (penIn .charging (fastCell State.reset)).NoPeriod
      ∧ ((fastCell State.reset).poll.schedule.get .pcel).next = some (263 + 1)
      ∧ ¬ periodCell.NoPeriod ∧ (periodCell.poll.schedule.get .pcel).next = some (287 + 1)
      ∧ (after (.tick quietLines quietReadings []) periodCell).pen.state = .charging
      ∧ waitsForPort [.coil, .lida] .coil = false ∧ waitsForPort [.lida, .coil] .coil = true
      ∧ (State.reset.poll.schedule.get .ctmp).next ≠ some (0 + 1) := by unfold State.NoPeriod; decide +kernel

/-- LIDA comes due at tick 16 while its poll of tick 0 still waits. -/
def overrunState : State :=
  { State.reset with
    tick := 15, poll := { State.reset.poll with waiting := [{ source := .lida, due := 0, afterMark := true }] } }

theorem witness_PollOverrunDropsTheWaitingPoll :
    overrunState.NoPeriod ∧ overrunState.PeriodQuiet (after (.tick quietLines quietReadings []) overrunState)
      ∧ (overrunState.poll.schedule.get Bus.lida.polled).next = some (overrunState.tick + 1)
      ∧ ∃ w ∈ overrunState.poll.waiting, w.source = .lida := by
  unfold State.PeriodQuiet State.NoPeriod; decide +kernel

/-- An ATTACHED dock with so many cycles run and this waiting list. -/
def cycleState (cycles : Nat) (waiting : Waiting) : State :=
  { State.reset with dock := { State.reset.dock with state := .attached, cycles := cycles, waiting := waiting } }

/-- An ATTACHED dock whose channel 2 runs at cadence 5, next due at a tick, with fifteen key reports. -/
def motionState (due : Tick) : State :=
  { cycleState 16 waitingEmpty with
    dock :=
      { (cycleState 16 waitingEmpty).dock with
        keys := List.replicate 15 { pressed := [], fn := false, synthetic := false, queued := 0 }
        motionRunning := true, motionNext := some due, cadence := 5 } }

/-- An exchange on channel 0 with the whole cycle still to come. -/
def openingState : State :=
  { cycleState 0 { waitingEmpty with grant := some 20, cadence := some 5 } with
    dock :=
      { (cycleState 0 { waitingEmpty with grant := some 20, cadence := some 5 }).dock with
        cycle := some { exchangeOn .control with rest := [.output, .keys, .motion] } } }

/-- Each exchange is the first wanted one of some cycle: channel 0 in IDENTIFYING and in every sixteenth cycle, channel 3
with each kind of message, channel 1 with fourteen reports, channel 2 at its due tick, and none at all; then the cycles that
do not open, and the NAK of an exchange. -/
theorem witness_TickOpensADockCycle :
    State.reset.NoPeriod ∧ State.reset.dock.cycle = none ∧ State.reset.advisor.power = .run
      ∧ State.reset.PeriodQuiet (after (.tick quietLines quietReadings []) State.reset)
      ∧ (dockIn .identifying State.reset).Wants 1 .control ∧ (cycleState 15 waitingEmpty).Wants 1 .control
      ∧ ¬ (cycleState 14 { waitingEmpty with lights := some (200, 3) }).Wants 1 .control
      ∧ (cycleState 14 { waitingEmpty with lights := some (200, 3) }).Wants 1 .output
      ∧ (cycleState 14 { waitingEmpty with grant := some 20 }).Wants 1 .output
      ∧ (cycleState 14 { waitingEmpty with cadence := some 5 }).Wants 1 .output
      ∧ ({ cycleState 14 waitingEmpty with dock := { (cycleState 14 waitingEmpty).dock with outgoing := some (.grant 20) } }
          : State).Wants 1 .output
      ∧ ¬ (cycleState 16 waitingEmpty).Wants 1 .control ∧ ¬ (cycleState 16 waitingEmpty).Wants 1 .output
      ∧ (cycleState 16 waitingEmpty).Wants 1 .keys
      ∧ ¬ (motionState 1).Wants 1 .control ∧ ¬ (motionState 1).Wants 1 .output ∧ ¬ (motionState 1).Wants 1 .keys
      ∧ (motionState 1).linked = true ∧ (motionState 1).dock.motionNext = some 1 ∧ ((1 : Tick) - 1).toNat < 2147483648
      ∧ (motionState 2).dock.motionNext = some 2 ∧ ¬ ((1 : Tick) - 2).toNat < 2147483648
      ∧ State.reset.dock.state = .detached ∧ (onWire .keys (cycleState 0 waitingEmpty)).dock.cycle ≠ none
      ∧ ¬ (7 : Tick).toNat % 8 = 0
      ∧ openingState.dock.cycle = some { exchangeOn .control with rest := [.output, .keys, .motion] }
      ∧ openingState.dock.state = .attached ∧ judgeReply .control (withCrc [0x03]) = .nak
      ∧ openingState.Wants 0 .output := by
  simp only [State.Wants, State.PeriodQuiet, State.NoPeriod]
  and_intros <;> decide +kernel

/-- The same with a first current above OC Limit, or a coupling or a taper condition that stood before this period. -/
def watchedState (current duty : Nat) (cell : Option Value) (coupling taper : Option Tick) : State :=
  { chargingState (BitVec.ofNat 16 current) 150 with
    tick := 4095
    pen :=
      { (chargingState 0 150).pen with
        current := some { value := BitVec.ofNat 16 current, timestamp := 4090 }, duty := duty, cell := cell
        couplingStart := coupling, taperStart := taper } }

def currentOf (current : Nat) : Stamped := { value := BitVec.ofNat 16 current, timestamp := 4090 }

theorem witness_ControlPeriodRegulatesTheCoil :
    (chargingState 100 150).PeriodDue { value := 100, timestamp := 20 }
      ∧ (chargingState 100 150).gateClosed .inhibit = false ∧ (chargingState 100 150).gateClosed .sleep = false
      ∧ (100 : Value).toInt ≤ (chargingState 100 150).param .ocLimit
      ∧ (chargingState 901 150).PeriodDue { value := 901, timestamp := 20 } ∧ (chargingState 901 150).pen.overLimit = false
      ∧ ((chargingState 901 150).param .ocLimit : Int) < (901 : Value).toInt
      ∧ (chargingState 100 150).pen.duty < (chargingState 100 150).param .couplingDuty
      ∧ (watchedState 39 700 none (some 3585) none).PeriodDue (currentOf 39)
      ∧ (watchedState 39 700 none (some 3585) none).param .couplingDuty ≤ 700
      ∧ (39 : Int) < (watchedState 39 700 none (some 3585) none).param .couplingFloor
      ∧ ((4096 : Tick) - 3585).toNat < (watchedState 39 700 none (some 3585) none).param .couplingTime
      ∧ (watchedState 29 0 (some 4150) none (some 2049)).PeriodDue (currentOf 29)
      ∧ ((watchedState 29 0 (some 4150) none (some 2049)).param .fullVoltage : Int) ≤ (4150 : Value).toInt
      ∧ (29 : Int) < (watchedState 29 0 (some 4150) none (some 2049)).param .taperCurrent
      ∧ ((4096 : Tick) - 2049).toNat < (watchedState 29 0 (some 4150) none (some 2049)).param .fullDwell
      ∧ (chargingState 100 150).supply.requests.pen
          = penUnits (curveTarget (chargingState 100 150).pen.curve (chargingState 100 150).pen.cell)
      ∧ (watchedState 29 0 (some 4150) none none).supply.requests.pen
          ≠ penUnits (curveTarget (watchedState 29 0 (some 4150) none none).pen.curve (some 4150))
      ∧ (chargingState 100 150).pen.target ≤ 10 * (chargingState 100 150).supply.grants.pen
      ∧ (chargingState 100 151).PeriodDue { value := 100, timestamp := 20 }
      ∧ 10 * (chargingState 100 151).supply.grants.pen < (chargingState 100 151).pen.target := by
  unfold State.PeriodDue; decide +kernel

/-- A control period that finds 901 mA for the second time, after so many faults and so many retries of a FIRST set. -/
def overState (faults used : Nat) : State :=
  { chargingState 901 150 with
    pen := { (chargingState 901 150).pen with overLimit := true, faults := faults, used := used } }

/-- The coupling and the taper condition have stood their whole time; a feed 32 ticks old, none at all, a grant of 4. -/
theorem witness_OvercurrentStartsARetryWait :
    (overState 4 0).PeriodDue { value := 901, timestamp := 20 } ∧ ((overState 4 0).param .ocLimit : Int) < (901 : Value).toInt
      ∧ (overState 4 0).pen.overLimit = true ∧ (overState 4 0).param .retryLimitMode = 1 ∧ 5 ≤ min 255 ((overState 4 0).pen.faults + 1)
      ∧ (overState 3 1).PeriodDue { value := 901, timestamp := 20 } ∧ ¬ 5 ≤ min 255 ((overState 3 1).pen.faults + 1)
      ∧ (overState 3 1).pen.used < (overState 3 1).param .firstSetRetries
      ∧ (overState 3 2).param .firstSetRetries ≤ (overState 3 2).pen.used
      ∧ (watchedState 39 700 none (some 3584) none).PeriodDue (currentOf 39)
      ∧ (watchedState 39 700 none (some 3584) none).param .couplingTime ≤ ((4096 : Tick) - 3584).toNat
      ∧ (watchedState 29 0 (some 4150) none (some 2048)).PeriodDue (currentOf 29)
      ∧ (watchedState 29 0 (some 4150) none (some 2048)).param .fullDwell ≤ ((4096 : Tick) - 2048).toNat
      ∧ (chargingState 100 150).pen.state = .charging ∧ 32 ≤ ((32 : Tick) - 0).toNat ∧ ((32 : Tick) - 1).toNat < 32
      ∧ (penIn .charging (atTick 31 State.reset)).pen.current = none
      ∧ ({ chargingState 100 0 with supply := { (chargingState 100 0).supply with grants := ⟨0, 0, 4, 0⟩ } }
          : State).supply.grants.pen < 5 := by
  unfold State.PeriodDue; decide +kernel

/-! ## Witnesses: the Sensor Bus -/

theorem witness_BusPollStartTakesTheHead :
    overrunState.poll.onBus = none ∧ overrunState.poll.waiting = [{ source := .lida, due := 0, afterMark := true }]
      ∧ State.reset.poll.waiting = [] := by decide +kernel

/-- A poll of LIDA in progress since tick 0, the source with this health, at tick 5. -/
def pollingState (h : BusHealth) : State :=
  { State.reset with
    tick := 5
    poll :=
      { State.reset.poll with
        onBus := some { source := .lida, started := 0, afterMark := true }
        health := { State.reset.poll.health with lida := h } } }

def sixteenRecords (s : State) : State :=
  { s with intake := { s.intake with fifo := List.replicate 16 (oneRecord .ctmp 250) } }

/-- The place kept for LIDA stands between HALC's sample and COIL's; with thirteen records all three find room, with fourteen
COIL's finds none. -/
theorem witness_PollSuccessDeliversItsSample :
    (pollingState ⟨.ok, 0⟩).poll.onBus = some { source := .lida, started := 0, afterMark := true }
      ∧ (pollingState ⟨.ok, 0⟩).poll.coming = [] ∧ (pollingState ⟨.ok, 0⟩).intake.fifo.length < 16
      ∧ 16 ≤ (sixteenRecords (pollingState ⟨.ok, 0⟩)).intake.fifo.length
      ∧ (comingState (fifoOf 13 (pollingState ⟨.ok, 0⟩))).poll.coming
          = [{ source := .halc, values := some (.one 1), afterMark := true }]
            ++ { source := .lida, values := none, afterMark := false }
              :: [{ source := .coil, values := some (.one 77), afterMark := true }]
      ∧ (comingState (fifoOf 13 (pollingState ⟨.ok, 0⟩))).ComingOnce
      ∧ (after (.pollSuccess { x := 1, y := 2, z := 3, lux := 0 })
          (comingState (fifoOf 14 (pollingState ⟨.ok, 0⟩)))).intake.gaps.get .coil = true
      ∧ ((pollingState ⟨.ok, 0⟩).poll.health.get .lida).health ≠ .failed
      ∧ ((pollingState ⟨.failed, 3⟩).poll.health.get .lida).health = .failed := by
  unfold State.ComingOnce; decide +kernel

theorem witness_PollFailuresLeadToFailed :
    (pollingState ⟨.ok, 1⟩).poll.onBus = some { source := .lida, started := 0, afterMark := true }
      ∧ 5 ≤ ((pollingState ⟨.ok, 1⟩).tick - 0).toNat
      ∧ ((pollingState ⟨.failed, 3⟩).poll.health.get .lida).health = .failed
      ∧ ((pollingState ⟨.ok, 1⟩).poll.health.get .lida).failures < 2
      ∧ ((pollingState ⟨.ok, 2⟩).poll.health.get .lida).failures = 2 := by decide +kernel

/-! ## Witnesses: the Route Engine -/

/-- One record of a source at the head of the FIFO. -/
def arrivedState (r : Sample) : State := { State.reset with intake := { State.reset.intake with fifo := [r] } }

/-- LIDA's head entry is enabled with a next link, HALC's ends at once; a disabled one is made of LIDG's. -/
theorem witness_TraversalBeginVisitsTheHeadEntry :
    (arrivedState (lidRecord 1 2 3)).route.walking = none ∧ (arrivedState (lidRecord 1 2 3)).route.hold = false
      ∧ (arrivedState (lidRecord 1 2 3)).intake.fifo = lidRecord 1 2 3 :: []
      ∧ (State.reset.routeEntry (headEntry .lida)).next = some 11 ∧ (State.reset.routeEntry (headEntry .lida)).enabled = true
      ∧ headEntry .lida < State.reset.route.runtime.length
      ∧ (State.reset.routeEntry (headEntry .halc)).next = none
      ∧ ({ State.reset with route := { State.reset.route with table := State.reset.route.table.set 1 plainRoute } }
          : State).routeEntry (headEntry .lidg) = plainRoute
      ∧ State.reset.intake.fifo = [] := by decide +kernel

/-- Fourteen visits made: the fifteenth goes on, the sixteenth does not. -/
theorem witness_RouteVisitFollowsTheNextLink :
    (walkingTo { actingEntry with next := some 12 } (lidRecord 1 2 3) 14 State.reset).route.walking
        = some (traversalOf (lidRecord 1 2 3) 14)
      ∧ ((walkingTo { actingEntry with next := some 12 } (lidRecord 1 2 3) 14 State.reset).routeEntry 11).next = some 12
      ∧ (traversalOf (lidRecord 1 2 3) 14).visits + 1 < 16
      ∧ ((walkingTo { actingEntry with next := some 12 } (lidRecord 1 2 3) 14 State.reset).routeEntry 11).enabled = true
      ∧ 11 ∉ (traversalOf (lidRecord 1 2 3) 14).visited ∧ 11 < State.reset.route.runtime.length
      ∧ ((walkingTo { plainRoute with next := some 12 } (lidRecord 1 2 3) 14 State.reset).routeEntry 11).enabled = false := by
  decide +kernel

theorem witness_SilentVisitsOnlyWalkOn :
    ((walkingTo { plainRoute with next := some 12 } (lidRecord 1 2 3) 14 State.reset).routeEntry 11).next = some 12
      ∧ ((walkingTo { plainRoute with next := some 12 } (lidRecord 1 2 3) 14 State.reset).routeEntry 11).enabled = false
      ∧ (((walkingTo { actingEntry with next := some 12, decimation := 2 } (lidRecord 1 2 3) 14 State.reset).routeRuntime
            11).counter + 1) % 2 = 0 + 1 := by decide +kernel

theorem witness_RouteVisitEndsTheTraversal :
    ((walkingTo actingEntry (lidRecord 1 2 3) 1 State.reset).routeEntry 11).next = none
      ∧ 16 ≤ (traversalOf (lidRecord 1 2 3) 15).visits + 1
      ∧ ((walkingTo { actingEntry with next := some 12 } (lidRecord 1 2 3) 15 State.reset).routeEntry 11).next ≠ none
      ∧ (walkingTo actingEntry (lidRecord 1 2 3) 1 State.reset).route.hold = false := by decide +kernel

/-- A TEST alone of a value of the record, with its bounds. -/
def testEntry (select : TestSelect) (low high : Value) : RouteEntry :=
  { actingEntry with test := true, wake := true, select := select, low := low, high := high, next := some 12 }

theorem witness_TestComparesTheSelectedNumber :
    (walkingTo (testEntry .value1 0 9) (oneRecord .als 5) 1 State.reset).TestsOnly (traversalOf (oneRecord .als 5) 1) 12
      ∧ testNumber ((walkingTo (testEntry .value1 0 9) (oneRecord .als 5) 1 State.reset).routeEntry 11).select
          (traversalOf (oneRecord .als 5) 1).record.values = none := by
  unfold State.TestsOnly State.ActsAt; decide +kernel

/-- The value 5 at the upper bound is inside, one above it outside; from UNKNOWN, OUTSIDE is reported and is motion. -/
theorem witness_TestReportsItsChanges :
    (walkingTo (testEntry .value0 0 5) (oneRecord .als 5) 1 State.reset).TestsOnly (traversalOf (oneRecord .als 5) 1) 12
      ∧ testNumber .value0 (traversalOf (oneRecord .als 5) 1).record.values = some 5
      ∧ (walkingTo (testEntry .value0 0 4) (oneRecord .als 5) 1 State.reset).TestsOnly (traversalOf (oneRecord .als 5) 1) 12
      ∧ (4 : Value).toInt < 5
      ∧ ((walkingTo (testEntry .value0 0 4) (oneRecord .als 5) 1 State.reset).routeRuntime 11).test ≠ .outside
      ∧ (traversalOf (oneRecord .als 5) 1).record.unsettled = false := by
  unfold State.TestsOnly State.ActsAt; decide +kernel

/-- A FORWARD alone, with the copy allowed into the Batch Store or not. -/
def forwardEntry (batch : Bool) : RouteEntry := { actingEntry with forward := true, batchAllowed := batch, next := some 12 }

/-- That FORWARD coming up, the platform in a state. -/
def forwardState (batch : Bool) (p : Platform) : State :=
  walkingTo (forwardEntry batch) (oneRecord .als 5) 1 (platformIn p State.reset)

def alsCopy : Forwarded := { source := .als, entry := 3, gap := false, unsettled := false, timestamp := 0, values := .one 5 }

def fullQueue (s : State) : State := { s with host := { s.host with samples := List.replicate 48 alsCopy } }

theorem witness_ForwardGoesByPlatformState :
    (forwardState false .awake).ForwardsOnly (traversalOf (oneRecord .als 5) 1) 12
      ∧ (forwardState false .awake).sampleCount < 48 ∧ 48 ≤ (fullQueue (forwardState false .awake)).sampleCount
      ∧ (forwardState false .asleep).ForwardsOnly (traversalOf (oneRecord .als 5) 1) 12
      ∧ ((forwardState false .asleep).routeEntry 11).batchAllowed = false
      ∧ (forwardState true .asleep).ForwardsOnly (traversalOf (oneRecord .als 5) 1) 12
      ∧ ((forwardState true .asleep).routeEntry 11).batchAllowed = true := by
  unfold State.ForwardsOnly State.ActsAt; decide +kernel

/-- A bank holding so many records. -/
def bankOf (role : BankRole) (n : Nat) : Bank := { role := role, records := List.replicate n alsCopy, gapBefore := false, gapAfter := false }

def banksState (a b : Bank) (order : List BankId) : State :=
  { forwardState true .asleep with batch := { bankA := a, bankB := b, order := order } }

theorem witness_BatchBanksTakeForwardedCopies :
    (banksState (bankOf .fill 62) bankFree [.a]).ForwardsOnly (traversalOf (oneRecord .als 5) 1) 12
      ∧ (banksState (bankOf .fill 62) bankFree [.a]).batch.filling = some .a
      ∧ ((banksState (bankOf .fill 62) bankFree [.a]).batch.bank .a).records.length < 63
      ∧ ((banksState (bankOf .fill 63) bankFree [.a]).batch.bank .a).records.length = 63
      ∧ (banksState (bankOf .ready 64) bankFree [.a]).batch.filling = none
      ∧ (banksState (bankOf .ready 64) bankFree [.a]).batch.freeOne = some .b
      ∧ (banksState (bankOf .ready 64) (bankOf .ready 64) [.a, .b]).batch.freeOne = none
      ∧ (banksState (bankOf .ready 64) (bankOf .ready 64) [.a, .b]).batch.order.head? = some .a
      ∧ (banksState (bankOf .ready 64) (bankOf .ready 64) [.a, .b]).param .batchOverflow = 1
      ∧ (withParam .batchOverflow 0 (banksState (bankOf .ready 64) (bankOf .ready 64) [.a, .b])).param .batchOverflow = 0
      ∧ (banksState (bankOf .ready 64) (bankOf .ready 64) [.a, .b]).batch.order.getLast? = some .b := by
  unfold State.ForwardsOnly State.ActsAt; decide +kernel

/-! ## Witnesses: the Angle Engine -/

/-- Base and lid vectors stamped 0, at a tick. -/
def vectorState (t : Tick) : State :=
  { State.reset with tick := t, angle := { State.reset.angle with base := some flatBase, lid := some laptopLid } }

theorem witness_AgedVectorsAreDiscarded :
    65536 ≤ ((vectorState 65536).tick - flatBase.timestamp).toNat
      ∧ ¬ 65536 ≤ ((vectorState 65535).tick - flatBase.timestamp).toNat
      ∧ (vectorState 65536).angle.lid = some laptopLid := by decide +kernel

theorem witness_ReversedVectorTurnsTheStageHalfway :
    (1 : Value) ≠ 0 ∧ (0x7FFF : Value) ≠ 0 ∧ (1 : Value) ≠ 0x8000 ∧ (0x7FFF : Value) ≠ 0x8000 := by decide

/-- An ANGLE_LID feed of a vector coming up, with this base vector, at a tick. -/
def lidFeedState (x y z : Value) (base : Option Vector3) (t : Tick) : State :=
  walkingTo { actingEntry with feed := some .angleLid } (lidRecord x y z) 1
    { State.reset with tick := t, angle := { State.reset.angle with base := base } }

def tiltOf (v : Vector3) : Nat := v.y.toInt.natAbs + v.z.toInt.natAbs

/-- An ANGLE_BASE feed of a vector coming up, with this lid vector, at a tick. -/
def baseFeedState (x y z : Value) (lid : Option Vector3) (t : Tick) : State :=
  walkingTo { actingEntry with feed := some .angleBase } (lidRecord x y z) 1
    { State.reset with tick := t, angle := { State.reset.angle with lid := lid, filter := some 20000 } }

/-- An ANGLE_LID feed coming up, over a base vector face up and too old, with this filtered angle: the hinge result is STALE and
carries that angle. -/
def hingeFeed (x y : Value) (hf : Nat) (s : State) : State :=
  walkingTo { actingEntry with feed := some .angleLid } (lidRecord x y 0) 1
    { s with
      tick := 257, angle := { s.angle with base := some flatBase, filter := some (BitVec.ofNat 16 (16 * hf)) } }

/-- The state with the hinge result of the next visit held, before it is classified. -/
def hingeFed (s : State) : State :=
  { s with
    posture :=
      { s.posture with heldHf := (after .routeVisit s).hf, attitude := (after .routeVisit s).angle.attitude } }

/-- A feed of an upper end of the ROT90 region, O = 2389. -/
def turnFeed (s : State) : State := hingeFeed (BitVec.ofInt 16 (-8660)) (BitVec.ofInt 16 (-5000)) 228 s

def withOrient (f : OrientBlock → OrientBlock) (s : State) : State := { s with orient := f s.orient }

def withPosture (f : PostureBlock → PostureBlock) (s : State) : State := { s with posture := f s.posture }

/-- A machine just attached, its posture UNKNOWN. -/
def unknownState : State :=
  { State.reset with
    dock := { State.reset.dock with state := .attached }
    posture := { State.reset.posture with posture := .unknown, attached := true } }

/-- The built-in Posture Table with dwell 0 for LAPTOP. -/
def quickTable : List PostureRow := defaultPosture.set 2 ⟨true, .named .laptop, 228, 2048, .faceUp, .any, 0, 57⟩

/-- A candidate orientation at the end of its dwell. -/
def rotationState : State :=
  { State.reset with
    tick := 512, orient := { State.reset.orient with candidate := some .rot90, dwell := timerOf 512 } }

/-- A locked tracker with this held O and flat flag. -/
def lockedState (heldO : Option Angle) (flat : Bool) : State :=
  { State.reset with orient := { State.reset.orient with locked := true, heldO := heldO, heldFlat := flat } }

/-- The outcomes of an orientation update, and the tracker after a posture adopted at once on the same feed. -/
theorem witness_LidFeedUpdatesTheAngles_orientation :
    (turnFeed State.reset).Feeds (traversalOf (lidRecord (BitVec.ofInt 16 (-8660)) (BitVec.ofInt 16 (-5000)) 0) 1) .angleLid
      ∧ (8660 : Nat) + 5000 ≥ State.reset.param .flatFloor
      ∧ stage (BitVec.ofInt 16 (-8660)) (BitVec.ofInt 16 (-5000)) = 2389
      ∧ State.reset.qualifying 2389 = some .rot90 ∧ State.reset.qualifying 2390 = none
      ∧ State.reset.qualifying 1024 = some State.reset.orient.current ∧ State.reset.orient.locked = false
      ∧ (lockedState none false).orient.locked = true
      ∧ Orientation.rot90 ≠ State.reset.orient.current ∧ inSet State.reset.allowedSet .rot90 = true
      ∧ inSet (withOrient (fun r => { r with posture := .closed }) State.reset).allowedSet .rot90 = false
      ∧ rotationState.orient.candidate = some .rot90 ∧ State.reset.orient.candidate = none
      ∧ 0 < State.reset.param .rotationDwell
      ∧ (withParam .rotationDwell 0 (turnFeed State.reset)).param .rotationDwell = 0
      ∧ (after .routeVisit (withParam .rotationDwell 0 (turnFeed State.reset))).orient.current = .rot90
      ∧ (hingeFed (turnFeed unknownState)).AdoptsAtOnce 3 ∧ (hingeFed (turnFeed unknownState)).rowPosture 3 = .laptop
      ∧ inSet (State.reset.orient.table.get .laptop) .rot0 = true
      ∧ (after .routeVisit (turnFeed State.reset)).orient.candidate = some .rot90
      ∧ inSet (State.reset.orient.table.get .laptop) .rot90 = false
      ∧ (withOrient (fun r => { r with current := .rot90 }) (turnFeed unknownState)).orient.current = .rot90
      ∧ (after .routeVisit (withOrient (fun r => { r with current := .rot90 }) (turnFeed unknownState))).orient.current = .rot0 := by
  unfold State.Feeds State.ActsAt State.AdoptsAtOnce; and_intros <;> decide +kernel

/-- CLOSED by row 1, with no Hf and no attitude held and the hall line closed or not. -/
def lidShut (closed : Bool) : State := shutState none .none (some closed) (some false)

/-- The same with row 2 as the current row, which no longer matches. -/
def rowTwo (s : State) : State := withPosture (fun q => { q with row := some 2 }) s

/-- With dwell 0 for LAPTOP. -/
def quick (s : State) : State := withPosture (fun q => { q with table := quickTable }) s

/-- With LAPTOP's row as the candidate. -/
def awaitThree (s : State) : State := withPosture (fun q => { q with candidate := some 3 }) s

/-- The outcomes of a hinge result's classification. -/
theorem witness_LidFeedUpdatesTheAngles_classification :
    State.reset.posture.attached = false
      ∧ (∀ n ∈ rowNumbers12, ¬ (hingeFed (turnFeed State.reset)).AdoptsAtOnce n)
      ∧ (hingeFed (hingeFeed 0 5000 228 unknownState)).AdoptsAtOnce 3
      ∧ (hingeFed (hingeFeed 0 5000 2504 unknownState)).firstMatch = none
      ∧ (hingeFed (hingeFeed 0 5000 261 (lidShut true))).keeps = true
      ∧ (hingeFed (hingeFeed 0 5000 195 (lidShut false))).keeps = false
      ∧ (hingeFed (hingeFeed 0 5000 195 (lidShut false))).firstMatch = none
      ∧ (hingeFed (hingeFeed 0 5000 227 (rowTwo (lidShut true)))).keeps = false
      ∧ (hingeFed (hingeFeed 0 5000 227 (rowTwo (lidShut true)))).firstMatch = some 1
      ∧ (hingeFed (hingeFeed 0 5000 262 (lidShut false))).keeps = false
      ∧ (hingeFed (hingeFeed 0 5000 262 (lidShut false))).firstMatch = some 3
      ∧ (awaitThree (lidShut false)).posture.candidate = some 3
      ∧ 0 < ((hingeFed (hingeFeed 0 5000 262 (lidShut false))).postureRow 3).dwell
      ∧ (hingeFed (hingeFeed 0 5000 262 (quick (lidShut false)))).AdoptsAtOnce 3
      ∧ (hingeFed (baseFeedState 0 0 16384 (some laptopLid) 256)).posture.heldHf ≠ none := by
  unfold State.AdoptsAtOnce; and_intros <;> decide +kernel

theorem witness_LidFeedUpdatesTheAngles :
    (lidFeedState 2000 48 3024 (some flatBase) 256).Feeds (traversalOf (lidRecord 2000 48 3024) 1) .angleLid
      ∧ ¬ (2000 : Value).toInt.natAbs + (48 : Value).toInt.natAbs < (lidFeedState 2000 48 3024 (some flatBase) 256).param .flatFloor
      ∧ (2000 : Value).toInt.natAbs + (47 : Value).toInt.natAbs < State.reset.param .flatFloor
      ∧ (lidFeedState 2000 48 3024 none 256).angle.base = none
      ∧ State.reset.param .staleLimit < ((lidFeedState 2000 48 3024 (some flatBase) 257).tick - flatBase.timestamp).toNat
      ∧ ((lidFeedState 2000 48 3024 (some flatBase) 256).tick - flatBase.timestamp).toNat ≤ State.reset.param .staleLimit
      ∧ State.reset.param .tiltFloor ≤ tiltOf flatBase
      ∧ State.reset.param .tiltFloor ≤ tiltOf { x := 2000, y := 48, z := 3024, timestamp := 0 }
      ∧ ¬ State.reset.param .tiltFloor ≤ tiltOf { x := 2000, y := 48, z := 3023, timestamp := 0 }
      ∧ State.reset.angle.filter = none ∧ laptopState.angle.filter = some 20000
      ∧ (baseFeedState 0 48 3024 (some laptopLid) 256).Feeds (traversalOf (lidRecord 0 48 3024) 1) .angleBase
      ∧ (traversalOf (lidRecord 0 48 3024) 1).record.unsettled = false
      ∧ (baseFeedState 0 48 3024 none 256).angle.lid = none
      ∧ ((baseFeedState 0 48 3024 (some laptopLid) 256).tick - laptopLid.timestamp).toNat ≤ State.reset.param .staleLimit
      ∧ State.reset.param .staleLimit < ((baseFeedState 0 48 3024 (some laptopLid) 257).tick - laptopLid.timestamp).toNat
      ∧ State.reset.param .tiltFloor ≤ tiltOf laptopLid := by
  unfold State.Feeds State.ActsAt; decide +kernel

/-! ## Witnesses: posture and orientation -/

/-- CLOSED by row 1 with a dwell timer of 256 ticks for row 3, at its expiry. -/
def dwellState (hf : Angle) (closed : Bool) (candidate : Option Nat) : State :=
  { shutState (some hf) .faceUp (some closed) (some false) with
    tick := 256
    posture :=
      { (shutState (some hf) .faceUp (some closed) (some false)).posture with candidate := candidate, dwell := timerOf 256 } }

theorem witness_PostureDwellExpiryAdoptsTheCandidate :
    (dwellState 261 true (some 3)).due (dwellState 261 true (some 3)).posture.dwell = true
      ∧ (dwellState 261 true (some 3)).posture.attached = true ∧ (dwellState 261 true (some 3)).posture.posture ≠ .unknown
      ∧ (dwellState 261 true (some 3)).posture.row = some 1 ∧ (dwellState 261 true (some 3)).rowMatches true 1 = true
      ∧ (dwellState 262 false (some 3)).rowMatches true 1 = false ∧ (dwellState 262 false (some 3)).posture.candidate = some 3
      ∧ (dwellState 262 false (some 3)).firstMatch = some 3
      ∧ (dwellState 262 false (some 3)).rowPosture 3 ≠ (dwellState 262 false (some 3)).posture.posture := by decide +kernel

/-- A HALL_CLOSED feed coming up. -/
def hallFeedState (level : Value) (s : State) : State :=
  walkingTo { actingEntry with feed := some .hallClosed } (oneRecord .halc level) 1 s

/-- The state with the level fed, before it is classified. -/
def hallFed (level : Bool) (s : State) : State := { s with posture := { s.posture with hallClosed := some level } }

/-- The same for a HALL_FOLDED feed. -/
def foldFeedState (level : Value) (s : State) : State :=
  walkingTo { actingEntry with feed := some .hallFolded } (oneRecord .half level) 1 s

def foldFed (level : Bool) (s : State) : State := { s with posture := { s.posture with hallFolded := some level } }

theorem witness_HallFeedClassifiesAtOnce :
    (hallFeedState 1 State.reset).Feeds (traversalOf (oneRecord .halc 1) 1) .hallClosed
      ∧ State.reset.posture.attached = false
      ∧ unknownState.posture.attached = true ∧ unknownState.posture.posture = .unknown
      ∧ (hallFed true (hallFeedState 1 unknownState)).firstMatch = some 1
      ∧ (hallFed false (hallFeedState 0 unknownState)).firstMatch = none
      ∧ (hallFed false (shutState (some 262) .faceUp (some true) (some false))).keeps = false
      ∧ (hallFed false (shutState (some 262) .faceUp (some true) (some false))).firstMatch = some 3
      ∧ (hallFed false (shutState (some 262) .faceUp (some true) (some false))).rowPosture 3 ≠ .closed
      ∧ 0 < ((shutState (some 262) .faceUp (some true) (some false)).postureRow 3).dwell
      ∧ (hallFed true (shutState (some 261) .faceUp (some false) (some false))).keeps = true
      ∧ (foldFeedState 1 State.reset).Feeds (traversalOf (oneRecord .half 1) 1) .hallFolded
      ∧ (foldFed true (foldFeedState 1 unknownState)).firstMatch = some 2
      ∧ (foldFed false (foldFeedState 0 unknownState)).firstMatch = none
      ∧ (foldFed true (shutState (some 3702) .faceDown (some false) (some false))).keeps = false
      ∧ (foldFed true (shutState (some 3702) .faceDown (some false) (some false))).firstMatch = some 2
      ∧ (foldFed true (shutState (some 3702) .faceDown (some false) (some false))).rowPosture 2 ≠ .closed
      ∧ 0 < (State.reset.postureRow 2).dwell
      ∧ (hallFed true (hallFeedState 1 unknownState)).AdoptsAtOnce 1
      ∧ (hallFed false (shutState (some 195) .faceUp (some true) (some false))).keeps = false
      ∧ (hallFed false (shutState (some 195) .faceUp (some true) (some false))).firstMatch = none
      ∧ (hallFed true (rowTwo (shutState (some 227) .faceUp (some false) (some false)))).keeps = false
      ∧ (hallFed true (rowTwo (shutState (some 227) .faceUp (some false) (some false)))).firstMatch = some 1
      ∧ (hallFed true (rowTwo (shutState (some 227) .faceUp (some false) (some false)))).rowPosture 1 = .closed
      ∧ (awaitThree (shutState (some 262) .faceUp (some true) (some false))).posture.candidate = some 3
      ∧ (hallFed false (quick (shutState (some 262) .faceUp (some true) (some false)))).AdoptsAtOnce 3 := by
  unfold State.Feeds State.ActsAt State.AdoptsAtOnce; and_intros <;> decide +kernel

theorem witness_RotationDwellExpiryAdoptsTheCandidate :
    rotationState.due rotationState.orient.dwell = true ∧ rotationState.orient.candidate = some .rot90 := by decide +kernel

theorem witness_OrientationRegionsAreDisjoint :
    1 ≤ (withParam .rotationMargin 1 State.reset).param .rotationMargin
      ∧ .rot0 ∈ (withParam .rotationMargin 1 State.reset).inRegion 1535
      ∧ .rot90 ∈ (withParam .rotationMargin 1 State.reset).inRegion 1537 := by decide +kernel

/-- The dwell of LAPTOP at its end, with this orientation and this held O. -/
def forcingState (current : Orientation) (heldO : Option Angle) : State :=
  { dwellState 262 false (some 3) with
    orient := { State.reset.orient with posture := .closed, current := current, heldO := heldO } }

theorem witness_AdoptedPostureForcesAnAllowedOrientation :
    (forcingState .rot90 (some 2100)).due (forcingState .rot90 (some 2100)).posture.dwell = true
      ∧ (forcingState .rot90 (some 2100)).keeps = false ∧ (forcingState .rot90 (some 2100)).posture.attached = true
      ∧ (forcingState .rot90 (some 2100)).posture.candidate = some 3
      ∧ (forcingState .rot90 (some 2100)).firstMatch = some 3
      ∧ (forcingState .rot90 (some 2100)).rowPosture 3 = .laptop
      ∧ inSet ((forcingState .rot90 (some 2100)).orient.table.get .laptop) .rot90 = false
      ∧ (forcingState .rot90 none).orient.heldO = none
      ∧ inSet ((forcingState .rot0 none).orient.table.get .laptop) .rot0 = true
      ∧ State.reset.orient.table.get .closed = 0 := by decide +kernel

theorem witness_RotationLockHoldsTheOrientation :
    State.reset.orient.locked = false ∧ (lockedState (some 2389) false).orient.locked = true
      ∧ (lockedState (some 2389) false).qualifying 2389 = some .rot90
      ∧ (lockedState (some 2389) false).orient.current ≠ .rot90
      ∧ inSet (lockedState (some 2389) false).allowedSet .rot90 = true
      ∧ (lockedState (some 2389) false).orient.candidate = none
      ∧ 0 < (lockedState (some 2389) false).param .rotationDwell
      ∧ (lockedState none false).orient.heldO = none ∧ (lockedState (some 2389) true).orient.heldFlat = true := by
  decide +kernel

/-! ## Witnesses: the keyboard dock -/

/-- A report of key 30 on channel 1 with toggle 0, and with toggle 1. -/
def keysFrame : List Byte := withCrc [0x09, 2, 0, 30]

def keysFrameOdd : List Byte := withCrc [0x29, 2, 0, 30]

theorem witness_KeyReportsAreQueuedOnce :
    (onWire .keys (dockIn .attached State.reset)).dock.cycle = some (exchangeOn .keys)
      ∧ (exchangeOn .keys).discarded = false ∧ (exchangeOn .keys).channel = .keys
      ∧ (onWire .keys (dockIn .attached State.reset)).linked = true
      ∧ (onWire .keys (dockIn .attached State.reset)).dock.state = .attached
      ∧ (onWire .keys (dockIn .settling State.reset)).dock.state = .settling
      ∧ (onWire .keys (dockIn .settling State.reset)).linked = true
      ∧ (platformIn .asleep (onWire .keys (dockIn .attached State.reset))).advisor.platform = .asleep
      ∧ judgeReply .keys keysFrame = .data false (.keys { pressed := [30], fn := false })
      ∧ judgeReply .keys keysFrameOdd = .data true (.keys { pressed := [30], fn := false })
      ∧ (onWire .keys (dockIn .attached State.reset)).dock.toggles.get .keys = false := by decide +kernel

/-- The identity of section 11.5's IDENT as `test_decode_ident` has it. -/
def someIdentity : Identity :=
  { model := 9, layout := 8, accelerometer := true, backlight := true, detachButton := true, baseline := 20, extraLimit := 30 }

def identifyingState : State := onWire .control (dockIn .identifying State.reset)

/-- A linked dock with that identity and an exchange on a channel, the platform and the latch in a state, under a budget. -/
def baseState (c : Channel) (d : DockState) (p : Platform) (l : LatchState) (budget : Nat) : State :=
  { onWire c (dockIn d (platformIn p State.reset)) with
    dock := { (onWire c (dockIn d State.reset)).dock with identity := some someIdentity }
    latch := { latchReset with state := l }, supply := { State.reset.supply with budget := budget } }

/-- A place kept for BASA with COIL's sample behind it. -/
def motionPlace (s : State) : State :=
  { s with
    poll :=
      { s.poll with
        coming :=
          [{ source := .basa, values := none, afterMark := false },
            { source := .coil, values := some (.one 77), afterMark := true }] } }

/-- The IDENT of `someIdentity`. -/
def identFrame : List Byte := withCrc [1, 6, 1, 9, 8, 7, 20, 30]

/-- A cycle whose first exchange is on the wire. -/
def wholeCycle : Cycle := { exchangeOn .control with rest := [.output, .keys, .motion] }

def withDock (f : DockBlock → DockBlock) (s : State) : State := { s with dock := f s.dock }

theorem witness_IdentBeginsSettling :
    identifyingState.dock.cycle = some (exchangeOn .control) ∧ (exchangeOn .control).discarded = false
      ∧ (exchangeOn .control).channel = .control ∧ identifyingState.dock.state = .identifying
      ∧ judgeReply .control (withCrc [1, 6, 1, 9, 8, 7, 20, 30])
          = .data (identifyingState.dock.toggles.get .control) (.ident someIdentity)
      ∧ 0 < identifyingState.param .attachSettle ∧ (withParam .attachSettle 0 identifyingState).param .attachSettle = 0
      ∧ judgeReply .control (withCrc [1, 2, 2, 31]) = .data false (.power 31)
      ∧ judgeReply .control (withCrc [1, 1, 3]) = .data false .button
      ∧ (baseState .control .attached .awake .locked 50).dock.cycle = some (exchangeOn .control)
      ∧ (baseState .control .attached .awake .locked 50).linked = true
      ∧ (baseState .control .attached .awake .locked 50).dock.toggles.get .control = false
      ∧ (baseState .control .attached .awake .locked 50).dock.identity = some someIdentity
      ∧ (baseState .control .settling .awake .locked 50).linked = true
      ∧ (baseState .control .attached .awake .locked 50).param .latchDraw ≤ 50
      ∧ ¬ (baseState .control .attached .awake .locked 49).param .latchDraw ≤ 49
      ∧ (baseState .control .attached .asleep .locked 50).advisor.platform = .asleep
      ∧ (baseState .control .attached .waking .locked 50).advisor.platform = .waking
      ∧ judgeReply .motion (withCrc [0x11, 6, 1, 0, 2, 0, 3, 0]) = .data false (.motion 1 2 3)
      ∧ judgeReply .motion (withCrc [0x31, 6, 1, 0, 2, 0, 3, 0]) = .data true (.motion 1 2 3)
      ∧ (baseState .motion .attached .awake .locked 50).dock.cycle = some (exchangeOn .motion)
      ∧ (baseState .motion .attached .awake .locked 50).dock.toggles.get .motion = false
      ∧ (∀ k ∈ (comingState (baseState .motion .attached .awake .locked 50)).poll.coming, k.source = .basa → k.values ≠ none)
      ∧ (motionPlace (baseState .motion .attached .awake .locked 50)).poll.coming
          = [] ++ { source := .basa, values := none, afterMark := false }
            :: [{ source := .coil, values := some (.one 77), afterMark := true }]
      ∧ identifyingState.dock.halted = false ∧ .output ∉ (exchangeOn .control).rest
      ∧ (after (.dockReply identFrame) identifyingState).dock.cycle = none
      ∧ (after (.dockReply identFrame) identifyingState).dock.cadence ≠ 0 ∧ someIdentity.accelerometer = true
      ∧ wholeCycle.rest.head? = some .output ∧ identifyingState.dock.outgoing = none
      ∧ identifyingState.dock.waiting.lights = none
      ∧ (withDock (fun d => { d with cycle := some wholeCycle }) identifyingState).dock.cycle = some wholeCycle
      ∧ (after (.dockReply identFrame) (withDock (fun d => { d with cycle := some wholeCycle }) identifyingState)).dock.outgoing
          = some (.grant 20)
      ∧ (withDock (fun d => { d with halted := true }) identifyingState).dock.halted = true := by
  and_intros <;> decide +kernel

/-- An ATTACHED dock after so many silent exchanges, with one on the wire and the latch in a state. -/
def silentState (silence : Nat) (latch : LatchState) : State :=
  { onWire .keys (dockIn .attached State.reset) with
    dock := { (onWire .keys (dockIn .attached State.reset)).dock with silence := silence }
    latch := { latchReset with state := latch } }

theorem witness_SilentExchangesLeadToDetached :
    (silentState 6 .locked).dock.cycle = some (exchangeOn .keys) ∧ (exchangeOn .keys).discarded = false
      ∧ (silentState 6 .locked).dock.silence + 1 < (silentState 6 .locked).param .silenceLimit
      ∧ (silentState 7 .locked).param .silenceLimit ≤ (silentState 7 .locked).dock.silence + 1
      ∧ (silentState 7 .locked).linkActive = true ∧ (silentState 7 .locked).linked = true
      ∧ (silentState 7 .locked).latch.state = .locked ∧ (silentState 7 .opened).latch.state ≠ .locked
      ∧ (onWire .output (cycleState 0 waitingEmpty)).dock.cycle = some (exchangeOn .output)
      ∧ .output ∉ (exchangeOn .output).rest ∧ judgeReply .output (withCrc [0x1A]) = .ack
      ∧ judgeReply .output (withCrc [0x1B]) = .nak ∧ judgeReply .output (withCrc [0x1C]) = .stall
      ∧ judgeReply .output [0x1C, 0] = .failure
      ∧ (onWire .output (cycleState 0 waitingEmpty)).dock.silence + 1 < State.reset.param .silenceLimit := by decide +kernel

/-- A dock in a state after so many reattaches, a key held or not, the latch in a state, channel 1 on the wire. -/
def stallState (d : DockState) (reattaches : Nat) (held : Bool) (latch : LatchState) : State :=
  { onWire .keys (dockIn d State.reset) with
    dock := { (onWire .keys (dockIn d State.reset)).dock with reattaches := reattaches, lastPressed := held }
    latch := { latchReset with state := latch } }

/-- IDENTIFYING at the end of its 100 ticks, on this attempt. -/
def lateIdent (attempts : Nat) : State :=
  { State.reset with
    tick := 100
    dock := { State.reset.dock with state := .identifying, attempts := attempts, identifyTimer := timerOf 100 } }

theorem witness_StallsReattachOrFault :
    (stallState .attached 2 true .preparing).dock.cycle = some (exchangeOn .keys)
      ∧ (exchangeOn .keys).channel ≠ .output ∧ judgeReply .keys (withCrc [0x0C]) = .stall
      ∧ (stallState .attached 2 true .preparing).linked = true ∧ (stallState .settling 3 false .locked).linked = true
      ∧ (stallState .attached 2 true .preparing).dock.reattaches < 3
      ∧ 3 ≤ (stallState .settling 3 false .locked).dock.reattaches
      ∧ (stallState .attached 2 true .preparing).latch.state ≠ .locked
      ∧ (stallState .settling 3 false .locked).dock.state = .settling
      ∧ judgeReply .control (withCrc [0x04]) = .stall ∧ (exchangeOn .control).channel = .control
      ∧ (onWire .control (lateIdent 2)).dock.cycle = some (exchangeOn .control)
      ∧ (onWire .control (lateIdent 2)).dock.state = .identifying ∧ (onWire .control (lateIdent 2)).dock.attempts < 3
      ∧ 3 ≤ (onWire .control (lateIdent 3)).dock.attempts := by decide +kernel

/-- A DOCK_SENSE feed coming up. -/
def senseState : State := walkingTo { actingEntry with feed := some .dockSense } (oneRecord .dsns 1) 1 State.reset

/-- A DOCK_SENSE feed of 0 coming up. -/
def senseLost (s : State) : State := walkingTo { actingEntry with feed := some .dockSense } (oneRecord .dsns 0) 1 s

theorem witness_AttachmentsBeginWithAResetPulse :
    senseState.Feeds (traversalOf (oneRecord .dsns 1) 1) .dockSense
      ∧ (traversalOf (oneRecord .dsns 1) 1).record.values.first ≠ 0 ∧ senseState.dock.state = .detached
      ∧ (dockIn .resetting State.reset).dock.state = .resetting
      ∧ (lateIdent 2).due (lateIdent 2).dock.identifyTimer = true ∧ (lateIdent 2).dock.state = .identifying
      ∧ (lateIdent 2).dock.attempts < 3 ∧ (lateIdent 3).due (lateIdent 3).dock.identifyTimer = true
      ∧ 3 ≤ (lateIdent 3).dock.attempts
      ∧ (senseLost (stallState .attached 0 true .opened)).Feeds (traversalOf (oneRecord .dsns 0) 1) .dockSense
      ∧ (traversalOf (oneRecord .dsns 0) 1).record.values.first = 0
      ∧ (senseLost (stallState .attached 0 true .opened)).dock.state ≠ .detached
      ∧ (senseLost (stallState .attached 0 true .opened)).linked = true
      ∧ (senseLost (stallState .attached 0 true .opened)).latch.state ≠ .locked
      ∧ (senseLost (stallState .settling 0 false .locked)).dock.state = .settling
      ∧ (senseLost (dockIn .dockFault State.reset)).dock.state ≠ .detached
      ∧ (senseLost (dockIn .dockFault State.reset)).linked = false
      ∧ (senseLost State.reset).dock.state = .detached := by
  unfold State.Feeds State.ActsAt; decide +kernel

/-- SETTLING at the end of its settle time, with a key report remembered or none. -/
def settledState (remembered : Option KeySet) : State :=
  { State.reset with
    tick := 256
    dock := { State.reset.dock with state := .settling, settleTimer := timerOf 256, remembered := remembered } }

theorem witness_SettleTimerExpiryAttaches :
    (settledState none).due (settledState none).dock.settleTimer = true ∧ (settledState none).dock.state = .settling
      ∧ (settledState (some { pressed := [30], fn := false })).due
          (settledState (some { pressed := [30], fn := false })).dock.settleTimer = true
      ∧ (settledState (some { pressed := [], fn := true })).dock.state = .settling := by decide +kernel

/-- An ATTACHED dock with a latch and a budget. -/
def releaseState (latch : LatchState) (budget : Nat) : State :=
  { dockIn .attached State.reset with
    latch := { latchReset with state := latch }, supply := { State.reset.supply with budget := budget } }

theorem witness_DetachRequestsARelease :
    State.reset.dock.state ≠ .attached ∧ (releaseState .opened 150).dock.state = .attached
      ∧ (releaseState .opened 150).latch.state ≠ .locked ∧ (releaseState .locked 49).latch.state = .locked
      ∧ (releaseState .locked 49).supply.budget < (releaseState .locked 49).param .latchDraw
      ∧ (releaseState .locked 50).param .latchDraw ≤ (releaseState .locked 50).supply.budget := by decide +kernel

/-- A release PREPARING for 32 ticks, and one whose window has passed. -/
def preparedState : State :=
  { State.reset with tick := 32, latch := { state := .preparing, preparation := timerOf 32, window := none } }

def windowPassed : State :=
  { State.reset with tick := 2048, latch := { state := .opened, preparation := none, window := timerOf 2048 } }

theorem witness_PreparationTimerOpensTheLatch :
    preparedState.latch.preparation = some { start := preparedState.tick - BitVec.ofNat 32 32, duration := 32 }
      ∧ 32 < 4294967296 ∧ preparedState.latch.state = .preparing := by decide +kernel

theorem witness_ReleasesEndWithTheirOutcome :
    windowPassed.due windowPassed.latch.window = true ∧ windowPassed.latch.state = .opened
      ∧ windowPassed.latch.state ≠ .locked ∧ State.reset.latch.state = .locked := by decide +kernel

/-! ## Witnesses: pen charging and the supply budget -/

/-- A PEN_PRESENCE feed coming up. -/
def presenceState (level : Value) (s : State) : State :=
  walkingTo { actingEntry with feed := some .penPresence } (oneRecord .penp level) 1 s

/-- A feed of a charge reading coming up. -/
def chargeFeed (target : Target) (src : Source) (v : Value) (s : State) : State :=
  walkingTo { actingEntry with feed := some target } (oneRecord src v) 1 s

/-- A PAUSED pen with the MONITOR gate closed and every other gate open, or the inhibit flag set. -/
def staleState (inhibit : Bool) : State :=
  { chargingState 100 0 with
    pen := { (chargingState 100 0).pen with state := .paused, monitorClosed := true, inhibit := inhibit } }

/-- A CHARGING pen, just rested. -/
def restedPen : State := { chargingState 100 0 with pen := { (chargingState 100 0).pen with restCheck := true } }

/-- An inserted pen finds every gate open under the reset budget and the gate BUDGET closed under a budget of 4. The full
voltage is met at its very value; the temperature limit must be passed. -/
theorem witness_PresenceFeedsInsertAndRemoveThePen :
    (presenceState 1 State.reset).Feeds (traversalOf (oneRecord .penp 1) 1) .penPresence
      ∧ State.reset.pen.state = .absent
      ∧ (after .routeVisit (presenceState 1 State.reset)).leadingGate = none
      ∧ (after .routeVisit (presenceState 1 { State.reset with supply := { State.reset.supply with budget := 4 } })).leadingGate
          = some .budget
      ∧ (presenceState 0 (penIn .topped State.reset)).Feeds (traversalOf (oneRecord .penp 0) 1) .penPresence
      ∧ (penIn .topped State.reset).pen.state ≠ .absent ∧ (penIn .topped State.reset).CoilGuarded
      ∧ (chargeFeed .chargeCurrent .coil 100 (staleState false)).Feeds (traversalOf (oneRecord .coil 100) 1) .chargeCurrent
      ∧ (traversalOf (oneRecord .coil 100) 1).record.unsettled = false
      ∧ State.reset.pen.monitorClosed = false ∧ (staleState false).pen.monitorClosed = true
      ∧ (staleState false).pen.state = .paused ∧ (staleState false).gateClosed .inhibit = false
      ∧ (staleState false).gateClosed .budget = false ∧ (staleState false).gateClosed .sleep = false
      ∧ (after .routeVisit (chargeFeed .chargeCurrent .coil 100 (staleState true))).leadingGate = some .inhibit
      ∧ (chargeFeed .chargeCell .pcel 4150 restedPen).Feeds (traversalOf (oneRecord .pcel 4150) 1) .chargeCell
      ∧ restedPen.pen.state = .charging ∧ restedPen.pen.restCheck = true
      ∧ (restedPen.param .fullVoltage : Int) ≤ (4150 : Value).toInt
      ∧ ¬ (restedPen.param .fullVoltage : Int) ≤ (4149 : Value).toInt
      ∧ (chargeFeed .chargeTemp .ctmp 851 restedPen).Feeds (traversalOf (oneRecord .ctmp 851) 1) .chargeTemp
      ∧ (restedPen.param .otLimit : Int) < (851 : Value).toInt ∧ ¬ (restedPen.param .otLimit : Int) < (850 : Value).toInt := by
  unfold State.Feeds State.ActsAt State.CoilGuarded
  and_intros <;> decide +kernel

/-- RETRY_WAIT after OVERTEMP at the end of its wait, the coil at a temperature, with a grant and the inhibit flag. -/
def retryState (temperature : Value) (inhibit : Bool) : State :=
  { State.reset with
    tick := 512
    pen :=
      { State.reset.pen with
        state := .retryWait, faultRecord := some .overtemp, temperature := some temperature, inhibit := inhibit
        retryTimer := timerOf 512 }
    supply := { State.reset.supply with requests := ⟨0, 0, 15, 0⟩, grants := ⟨0, 0, 15, 0⟩ } }

def hotLimit (s : State) : Int := (s.param .otLimit : Int) - 50

def restedState (budget : Nat) : State :=
  { State.reset with
    tick := 1024, pen := { State.reset.pen with state := .topped, restTimer := timerOf 1024 }
    supply := { State.reset.supply with budget := budget } }

def goodRunState : State :=
  { State.reset with tick := 2048, pen := { State.reset.pen with state := .charging, goodRun := timerOf 2048 } }

theorem witness_PenTimersLeadBackToTheGates :
    (retryState 0 false).due (retryState 0 false).pen.retryTimer = true ∧ (retryState 0 false).pen.state = .retryWait
      ∧ hotLimit (retryState (BitVec.ofInt 16 (hotLimit State.reset)) false)
          ≤ (BitVec.ofInt 16 (hotLimit State.reset)).toInt
      ∧ (BitVec.ofInt 16 (hotLimit State.reset - 1)).toInt < hotLimit State.reset
      ∧ (retryState 0 false).leadingGate = none ∧ (retryState 0 true).leadingGate = some .inhibit
      ∧ (restedState 150).due (restedState 150).pen.restTimer = true ∧ (restedState 150).pen.state = .topped
      ∧ (after .restTimerExpiry (restedState 150)).leadingGate = none
      ∧ (after .restTimerExpiry (restedState 4)).leadingGate = some .budget
      ∧ goodRunState.due goodRunState.pen.goodRun = true := by decide +kernel

def inhibitedIn (p : PenState) (on : Bool) : State :=
  { chargingState 100 150 with pen := { (chargingState 100 150).pen with state := p, inhibit := on } }

theorem witness_HostClearsAndInhibitsThePen :
    State.reset.pen.state ≠ .latched ∧ (penIn .latched State.reset).pen.state = .latched
      ∧ (after (.clearFault 0) (penIn .latched State.reset)).leadingGate = none
      ∧ (after (.clearFault 0) (inhibitedIn .latched true)).leadingGate = some .inhibit
      ∧ (inhibitedIn .charging false).pen.inhibit = false ∧ (inhibitedIn .charging false).pen.state = .charging
      ∧ (inhibitedIn .paused true).pen.inhibit = true ∧ (inhibitedIn .paused true).gateClosed .budget = false
      ∧ (inhibitedIn .paused true).gateClosed .sleep = false ∧ (inhibitedIn .paused true).gateClosed .monitor = false := by
  decide +kernel

/-- An allocation to be made: the budget, the requests of base and pen, a pen in a state that holds no grant, the dock. -/
def allocating (budget base pen : Nat) (p : PenState) (d : DockState) : State :=
  { dockIn d (penIn p State.reset) with
    supply :=
      { budget := budget, requests := { latch := 0, base := base, pen := pen, extra := 0 }
        grants := { latch := 0, base := 0, pen := 0, extra := 0 } } }

theorem witness_AllocationServesInPriorityOrder_handing_on :
    divideBudget 150 State.reset.supply.requests = State.reset.supply.grants
      ∧ (divideBudget 5 (allocating 5 0 5 .paused .detached).supply.requests).pen = 5
      ∧ (allocate (allocating 5 0 5 .paused .detached)).leadingGate = none
      ∧ (allocate (allocating 5 0 5 .paused .detached)).pen.state = .charging
      ∧ (allocate (allocating 4 0 5 .paused .detached)).leadingGate = some .budget
      ∧ (allocating 4 0 5 .paused .detached).pen.leading ≠ some .budget
      ∧ (divideBudget 4 (allocating 4 0 5 .paused .detached).supply.requests).pen
          ≠ (allocating 4 0 5 .paused .detached).supply.grants.pen
      ∧ (allocating 5 0 5 .charging .detached).gateClosed .inhibit = false
      ∧ (allocating 5 0 5 .charging .detached).gateClosed .sleep = false
      ∧ (allocating 5 0 5 .topped .detached).pen.state ≠ .paused ∧ (allocating 5 0 5 .topped .detached).pen.state ≠ .charging
      ∧ (divideBudget 6 (allocating 6 1 5 .absent .attached).supply.requests).base ≠ 0
      ∧ (allocating 6 1 5 .absent .attached).linked = true ∧ (allocating 6 1 5 .absent .attached).dock.halted = false
      ∧ (divideBudget 5 (allocating 5 0 5 .absent .attached).supply.requests).base = 0
      ∧ (allocating 6 1 5 .absent .detached).linked = false
      ∧ (withDock (fun d => { d with halted := true }) (allocating 6 1 5 .absent .attached)).dock.halted = true := by
  and_intros <;> decide +kernel

theorem witness_AllocationServesInPriorityOrder_events : (allocating 5 0 5 .paused .detached).OneEntryPerKind := by
  refine ⟨by decide, ?_⟩
  intro t content h
  cases h

/-- A budget one short of the requests, and one that covers them. -/
theorem witness_AllocationServesInPriorityOrder :
    (⟨50, 20, 43, 30⟩ : Shares).latch + 20 + 43 + 30 ≤ 143
      ∧ (divideBudget 142 ⟨50, 20, 43, 30⟩).extra < 30 ∧ (divideBudget 112 ⟨50, 20, 43, 30⟩).pen < 43
      ∧ (divideBudget 69 ⟨50, 20, 43, 30⟩).base < 20 ∧ (divideBudget 49 ⟨50, 20, 43, 30⟩).latch < 50
      ∧ divideBudget 150 ⟨50, 0, 0, 0⟩ ≠ State.reset.supply.grants := by decide +kernel

/-! ## Witnesses: sleep advice and platform state -/

/-- What `Obligations.AdviceIsGivenAndTimesOut` calls ready, as a test of one row. -/
def readyRow (s : State) (n : Nat) : Bool :=
  (s.policyRow n).wakes = false && s.policyHolds (s.policyRow n) && s.armedAt n
    && decide ((s.policyRow n).inactivity ≤ (s.tick - s.advisor.lastActivity).toNat)

/-- The inactivity timer expires at a tick, the posture CLOSED. -/
def idleState (t : Tick) : State :=
  { State.reset with
    tick := t
    advisor := { State.reset.advisor with heldPosture := .closed, idleTimer := some { start := 0, duration := t.toNat } } }

/-- ADVISED by row 1, not answered in time. -/
def unansweredState : State :=
  { State.reset with
    tick := 5120
    advisor :=
      { State.reset.advisor with
        platform := .advised, advising := some 1, adviceTimer := timerOf 5120, heldPosture := .closed, lastActivity := 5120
        armed := State.reset.advisor.armed.set 0 false } }

def sleepingState (p : Posture) : State :=
  { State.reset with advisor := { State.reset.advisor with platform := .asleep, heldPosture := p, heldDock := .attached } }

/-- The same under a policy whose one row accepts MOTION in every posture. -/
def motionWakes : State :=
  { sleepingState .laptop with
    advisor :=
      { (sleepingState .laptop).advisor with
        table := [{ plainPolicy with enabled := true, wakes := true, postures := 0b11111111, causes := 0b00000010 }] } }

def activityFeed (s : State) : State := walkingTo { actingEntry with feed := some .activity } (oneRecord .als 5) 1 s

theorem witness_AdviceIsGivenAndTimesOut :
    (idleState 1024).due (idleState 1024).advisor.idleTimer = true ∧ (idleState 1024).advisor.platform = .awake
      ∧ readyRow (idleState 1024) 1 = true
      ∧ (idleState 1023).due (idleState 1023).advisor.idleTimer = true
      ∧ (∀ n ∈ rowNumbers8, readyRow (idleState 1023) n = false)
      ∧ unansweredState.due unansweredState.advisor.adviceTimer = true ∧ unansweredState.advisor.platform = .advised
      ∧ unansweredState.advisor.advising = some 1 ∧ (∀ n ∈ rowNumbers8, readyRow unansweredState n = false)
      ∧ 1 ∈ rowNumbers8 ∧ unansweredState.policyHolds (unansweredState.policyRow 1) = true
      ∧ (sleepingState .closed).advisor.platform = .asleep ∧ (∀ n ∈ rowNumbers8, ¬ (sleepingState .closed).Accepts .keys n)
      ∧ (sleepingState .laptop).Accepts .keys 3 ∧ ¬ (sleepingState .laptop).Accepts .keys 1
      ∧ ¬ (sleepingState .laptop).Accepts .keys 2 ∧ (sleepingState .laptop).Accepts .button 5
      ∧ motionWakes.Accepts .motion 1 ∧ (∀ n ∈ rowNumbers8, ¬ (sleepingState .laptop).Accepts .motion n)
      ∧ (activityFeed motionWakes).Feeds (traversalOf (oneRecord .als 5) 1) .activity
      ∧ ((activityFeed motionWakes).routeEntry 11).test = false
      ∧ ((activityFeed motionWakes).routeEntry 11).forward = false
      ∧ (traversalOf (oneRecord .als 5) 1).record.unsettled = false
      ∧ (idleState 1023).Awaits 1
      ∧ (∀ m ∈ rowNumbers8, (idleState 1023).Awaits m →
          ((idleState 1023).policyRow 1).inactivity ≤ ((idleState 1023).policyRow m).inactivity)
      ∧ (after .inactivityTimerExpiry (idleState 1023)).advisor.idleTimer = some { start := 1023, duration := 1 }
      ∧ (∀ m ∈ rowNumbers8, ¬ unansweredState.Awaits m)
      ∧ unansweredState.armedAt 1 = false := by
  unfold State.Accepts State.Feeds State.ActsAt State.Awaits
  and_intros <;> decide +kernel

/-- A bank A in use with the platform in a state. -/
def banksIn (p : Platform) (a : Bank) : State :=
  { platformIn p State.reset with batch := { bankA := a, bankB := bankFree, order := [.a] } }

theorem witness_PlatformStateIsHandedOn :
    (platformIn .asleep State.reset).advisor.platform = .asleep ∧ State.reset.advisor.platform = .awake
      ∧ (platformIn .advised State.reset).advisor.platform ≠ .asleep
      ∧ (platformIn .waking State.reset).advisor.platform ≠ .awake
      ∧ (penIn .charging State.reset).pen.state = .charging
      ∧ (withParam .chargeInSleep 0 (penIn .charging State.reset)).param .chargeInSleep = 0
      ∧ ((deliverAny (banksIn .awake (bankOf .drain 3))).batch.bank .a).role = .drain
      ∧ ((deliverAny (banksIn .awake (bankOf .ready 64))).batch.bank .a).role ≠ .drain
      ∧ ((deliverAny (banksIn .waking (bankOf .fill 3))).batch.bank .a).role = .fill
      ∧ ((deliverAny (banksIn .waking (bankOf .fill 3))).batch.bank .a).records ≠ []
      ∧ ((deliverAny (banksIn .waking (bankOf .fill 0))).batch.bank .a).records = []
      ∧ ((deliverAny (banksIn .waking (bankOf .ready 64))).batch.bank .a).role ≠ .fill := by decide +kernel

/-! ## Witnesses: the Host Link -/

/-- EDGE mode with every holding empty and a release OPEN, whose end raises an event. -/
def edgeState : State :=
  { withParam .attentionMode 1 State.reset with
    latch := { latchReset with state := .opened }, host := { State.reset.host with events := [] } }

/-- LEVEL mode by the forcing of sleep, the parameter asking for EDGE, an event held. -/
def forcedState : State :=
  { withParam .attentionMode 1 State.reset with advisor := { State.reset.advisor with forcing := true } }

theorem witness_AttentionLineFollowsTheHoldings :
    (after (.nop 1) State.reset).levelMode = true
      ∧ (after (.setPlatformState 1 .awake) forcedState).levelMode = false ∧ forcedState.levelMode = true
      ∧ edgeState.levelMode = false ∧ (after (.detachCancel 1) edgeState).levelMode = false
      ∧ edgeState.holdings.filled (after (.detachCancel 1) edgeState).holdings = true
      ∧ edgeState.holdings.filled (after .busPollStart edgeState).holdings = false := by decide +kernel

/-- With nothing to deliver but what the arguments give. -/
def holdingState (slot : Option Response) (keys : List KeyReport) (samples : List Forwarded) : State :=
  { State.reset with
    dock := { State.reset.dock with keys := keys }
    host := { State.reset.host with slot := slot, events := [], samples := samples } }

def someReport : KeyReport := { pressed := [30], fn := false, synthetic := false, queued := 0 }

/-- A READY bank of 64 records, with nothing else to deliver. -/
def readyBank : State :=
  { holdingState none [] [] with batch := { bankA := bankOf .ready 64, bankB := bankFree, order := [.a] } }

/-- The content of the BATCH frame in flight, by its length. -/
def batchInFlight (s : State) : Nat :=
  match s.host.transaction with
  | some x => (match x.frame with | .batch _ _ _ content => content.length | _ => 0)
  | none => 0

theorem witness_ChipSelectFallSelectsInOrder :
    (after .chipSelectFall State.reset).host.transaction ≠ none ∧ State.reset.host.transaction = none
      ∧ (holdingState (some { tag := 1, kind := 1, body := .ack }) [] []).host.slot = some { tag := 1, kind := 1, body := .ack }
      ∧ State.reset.host.slot = none ∧ State.reset.host.events ≠ []
      ∧ (holdingState none [someReport] []).host.events = [] ∧ (holdingState none [someReport] []).dock.keys ≠ []
      ∧ (holdingState none [] [alsCopy]).dock.keys = [] ∧ (holdingState none [] [alsCopy]).host.samples ≠ []
      ∧ readyBank.host.samples = [] ∧ readyBank.batch.selected = some .a
      ∧ 0 < batchInFlight (after .chipSelectFall readyBank) ∧ batchInFlight (after .chipSelectFall readyBank) < 64
      ∧ (holdingState none [] []).batch.selected = none := by decide +kernel

/-- Clocked too little: nothing at all, or the upstream frame whole with a downstream frame of length 2 cut short. -/
theorem witness_BrokenTransactionsGiveBackTheirContent :
    (eventKinds State.reset.host.events).Nodup ∧ State.reset.host.transaction = none
      ∧ exec .chipSelectFall State.reset = .next (after .chipSelectFall State.reset)
      ∧ (∃ x, (after .chipSelectFall State.reset).host.transaction = some x ∧ ([] : List Byte).length < x.bytes.length)
      ∧ downstreamDone [1, 2, 0, 5] = false := by
  refine ⟨by decide +kernel, by decide, rfl, ?_, by decide⟩
  exact ⟨{ frame := .events [.started .powerOn], flagEvents := false, flagKeys := false, flagSamples := false,
           flagBatch := false }, by decide +kernel, by decide +kernel⟩

/-- An IDLE frame in flight: three bytes. -/
def idleFrame : Transaction := { frame := .idle, flagEvents := false, flagKeys := false, flagSamples := false, flagBatch := false }

def inTransaction (s : State) : State := { s with host := { s.host with transaction := some idleFrame } }

/-- Codes at the ends of their ranges, and lengths one off. -/
theorem witness_CompleteTransactionsTakeTheirCommand_checks :
    ¬ FrameCodesPass 4 [7, 7] ∧ FrameCodesPass 4 [7, 6] ∧ ¬ FrameCodesPass 3 [7, 6, 2] ∧ FrameCodesPass 3 [7, 6, 1]
      ∧ ¬ FrameCodesPass 12 [7, 2] ∧ FrameCodesPass 12 [7, 1] ∧ FrameCodesPass 2 [7, 6, 0, 1, 5]
      ∧ ¬ FrameLengthFits 2 [7, 6, 0, 1, 5] ∧ FrameLengthFits 2 [7, 6, 0, 1, 5, 0] ∧ FrameLengthFits 2 [7, 6, 0, 0]
      ∧ ¬ FrameLengthFits 3 [7, 6, 1, 0] ∧ FrameLengthFits 3 [7, 6, 1, 0, 1] ∧ FrameCodesPass 3 [7]
      ∧ ¬ FrameLengthFits 1 [7, 0] ∧ FrameLengthFits 1 [7] ∧ FrameCodesPass 6 [7, 2] ∧ FrameLengthFits 6 [7, 2] := by
  simp [FrameCodesPass, FrameLengthFits, TableId.ofCode, TableId.entrySize, byteAt]

theorem witness_CompleteTransactionsTakeTheirCommand :
    (inTransaction State.reset).host.transaction = some idleFrame
      ∧ (HostCommand.nop 7).wellFormed = true ∧ idleFrame.bytes.length ≤ ((HostCommand.nop 7).frameBytes ++ []).length
      ∧ 13 < (14 : Byte).toNat ∧ idleFrame.bytes.length ≤ 3 + ([] : List Byte).length
      ∧ (after (.chipSelectRise [1, 1, 0, 7]) (inTransaction State.reset)).host.slot
          = some { tag := 7, kind := 1, body := .ack } := by decide +kernel

/-- The longest payload: 28 route entries, 256 bytes, whose length byte is 0. -/
theorem witness_HostFramesDecodeToTheirCommand :
    (HostCommand.tableWrite 1 .route 20 28 (List.replicate 252 9)).wellFormed = true
      ∧ byteAt (HostCommand.tableWrite 1 .route 20 28 (List.replicate 252 9)).frameBytes 1 = 0
      ∧ (HostCommand.nop 7).wellFormed = true := by decide +kernel

/-- A response in flight, and a BATCH frame of so many records. -/
def responseFrame (r : Response) : Transaction := { idleFrame with frame := .response r }

def batchFrame (n : Nat) : Transaction := { idleFrame with frame := .batch .a false false (List.replicate n alsCopy) }

/-- Five records of bank A in flight, so many left in it. -/
def drainedState (left : Nat) : State :=
  { State.reset with
    batch := { bankA := bankOf .drain left, bankB := bankFree, order := [.a] }
    host := { State.reset.host with transaction := some (batchFrame 5) } }

/-- 27 route entries fill 243 of the 249 bytes of a read; 28 are too many; the last index is 47. -/
theorem witness_QueriesAreAnswered :
    State.reset.host.transaction = none
      ∧ (inTransaction State.reset).host.transaction = some idleFrame ∧ idleFrame.frame = .idle
      ∧ (drainedState 0).host.transaction = some (batchFrame 5) ∧ (batchFrame 5).frame = .batch .a false false (List.replicate 5 alsCopy)
      ∧ ((drainedState 0).batch.bank .a).records = [] ∧ ((drainedState 1).batch.bank .a).records ≠ []
      ∧ (responseFrame { tag := 1, kind := 1, body := .ack }).frame = .response { tag := 1, kind := 1, body := .ack }
      ∧ (27 : Byte) ≠ 0 ∧ (21 : Byte).toNat + (27 : Byte).toNat ≤ TableId.route.capacity
      ∧ (27 : Byte).toNat * TableId.route.entrySize ≤ 249 ∧ 249 < (28 : Byte).toNat * TableId.route.entrySize
      ∧ TableId.route.capacity < (22 : Byte).toNat + (27 : Byte).toNat := by decide +kernel

def routeHeld (s : State) : State := { s with route := { s.route with hold := true } }

theorem witness_TableWritesReachTheStagingCopy :
    ([5, 2] : List Byte).length = (1 : Byte).toNat * TableId.poll.entrySize
      ∧ (State.reset.staging.get .poll).length = TableId.poll.capacity
      ∧ (6 : Byte).toNat + (1 : Byte).toNat ≤ TableId.poll.capacity
      ∧ ¬ (7 : Byte).toNat + (1 : Byte).toNat ≤ TableId.poll.capacity
      ∧ (State.reset.staging.get .route).length = TableId.route.capacity ∧ (routeHeld State.reset).route.hold = true := by
  decide +kernel

/-- The staging copy of the route table with a first entry of zeros, that of the posture table with no row enabled, that of
the curve with two equal voltages. -/
def badStaging : State :=
  { State.reset with
    staging :=
      { State.reset.staging with
        route := State.reset.staging.route.set 0 (List.replicate 9 0)
        posture := State.reset.staging.posture.map (fun e => e.map (fun _ => 0))
        curve := State.reset.staging.curve.set 1 (State.reset.staging.curve.getD 0 []) } }

/-- A staging copy of the Poll Table whose first entry holds a Run code of 0, so that LIDA's period changes; one of the
Orientation Table that allows ROT90 alone in SLATE; one of the Sleep Policy Table without an enabled row. -/
def newStaging : State :=
  { State.reset with
    staging :=
      { State.reset.staging with
        poll := State.reset.staging.poll.set 0 [0, 0]
        orient := State.reset.staging.orient.map (fun e => e.map (fun _ => 2))
        policy := State.reset.staging.policy.map (fun e => e.map (fun _ => 0)) } }

/-- What the commit of a Sleep Policy Table judges: its rows, all armed but the one that advises. -/
def armedWith (s : State) : State :=
  { s with
    advisor :=
      { s.advisor with
        table := s.staging.policy.map readPolicyRow
        armed := rowNumbers8.map (fun n => decide (s.advisor.advising ≠ some n)) } }

/-- ASLEEP with a pen in a state, Charge In Sleep at one value and at another in the staging copy. -/
def sleepCharge (p : PenState) (old new : Nat) : State :=
  { withParam .chargeInSleep old (platformIn .asleep (penIn p State.reset)) with
    staging := { State.reset.staging with param := State.reset.staging.param.set Param.chargeInSleep.index [BitVec.ofNat 8 new, 0] } }

theorem witness_TableCommitsApplyTheStagingCopy :
    (routeHeld State.reset).route.hold = true ∧ State.reset.route.hold = false
      ∧ (routeFault badStaging.staging.route).isSome = true ∧ routeFault State.reset.staging.route = none
      ∧ State.reset.route.walking = none
      ∧ (walkingTo actingEntry (oneRecord .als 5) 1 State.reset).route.walking ≠ none
      ∧ allPolled[0]? = some .lida ∧ (after (.tableCommit 1 .poll) newStaging).period .lida ≠ newStaging.period .lida
      ∧ (after (.tableCommit 1 .poll) newStaging).period .als = newStaging.period .als
      ∧ (∃ e ∈ State.reset.staging.posture, (readPostureRow e).enabled = true)
      ∧ (∀ e ∈ badStaging.staging.posture, (readPostureRow e).enabled = false)
      ∧ inSet ((readOrientTable State.reset.staging.orient).get .slate) .rot0 = true
      ∧ (readOrientTable newStaging.staging.orient).get newStaging.orient.posture ≠ 0
      ∧ inSet ((readOrientTable newStaging.staging.orient).get newStaging.orient.posture) newStaging.orient.current = false
      ∧ (∀ k, k < 7 → wordAt (State.reset.staging.curve.getD k []) 0 < wordAt (State.reset.staging.curve.getD (k + 1) []) 0)
      ∧ State.reset.staging.curve.length = 8 ∧ badStaging.staging.curve.length = 8
      ∧ wordAt (badStaging.staging.curve.getD (0 + 1) []) 0 ≤ wordAt (badStaging.staging.curve.getD 0 []) 0
      ∧ (platformIn .asleep State.reset).advisor.platform = .asleep
      ∧ readyRow (armedWith (idleState 1024)) 1 = true ∧ (idleState 1024).advisor.platform = .awake
      ∧ (∀ n ∈ rowNumbers8, readyRow (armedWith newStaging) n = false) ∧ newStaging.advisor.platform = .awake
      ∧ unansweredState.advisor.platform = .advised ∧ unansweredState.advisor.advising = some 1
      ∧ (armedWith unansweredState).policyHolds ((armedWith unansweredState).policyRow 1) = true
      ∧ (armedWith { unansweredState with staging := newStaging.staging }).policyHolds
          ((armedWith { unansweredState with staging := newStaging.staging }).policyRow 1) = false
      ∧ (∀ n ∈ rowNumbers8, readyRow (armedWith { unansweredState with staging := newStaging.staging }) n = false)
      ∧ State.reset.staging.param.length = 41 ∧ State.reset.latch.state = .locked ∧ preparedState.latch.state ≠ .locked
      ∧ State.reset.supply.grants = divideBudget State.reset.supply.budget State.reset.supply.requests
      ∧ (sleepCharge .charging 1 0).pen.state = .charging ∧ (sleepCharge .charging 1 0).param .chargeInSleep ≠ 0
      ∧ (after (.tableCommit 1 .param) (sleepCharge .charging 1 0)).param .chargeInSleep = 0
      ∧ (sleepCharge .paused 0 1).pen.state = .paused
      ∧ (after (.tableCommit 1 .param) (sleepCharge .paused 0 1)).param .chargeInSleep ≠ 0 := by decide +kernel

theorem witness_DockOutputQueuesTheLights :
    State.reset.dock.state ≠ .attached ∧ (dockIn .attached State.reset).dock.state = .attached
      ∧ (dockIn .attached State.reset).dock.halted = false
      ∧ ({ State.reset with dock := { State.reset.dock with state := .attached, halted := true } } : State).dock.halted = true := by
  decide

/-! ## Witnesses: the invariants -/

/-- A settle timer about to expire with thirteen reports, one more remembered and one awaited. -/
def replayState : State :=
  { settledState (some { pressed := [30], fn := false }) with
    pending := [.settleTimerExpiry]
    dock :=
      { (settledState (some { pressed := [30], fn := false })).dock with
        keys := List.replicate 13 someReport, cycle := some (exchangeOn .keys) } }

theorem witness_StepsKeepTheQueuesBounded :
    (fullQueue (sixteenRecords (comingState State.reset))).QueuesBounded
      ∧ step (fullQueue (sixteenRecords (comingState State.reset))) = .next (fullQueue (sixteenRecords (comingState State.reset)))
      ∧ replayState.KeysBounded ∧ replayState.ReplayFits
      ∧ step replayState = exec .settleTimerExpiry { replayState with pending := [] } := by
  refine ⟨by unfold State.QueuesBounded State.ComingOnce; decide +kernel, rfl, ⟨by decide, by decide, ?_, ?_, by decide⟩, ?_, rfl⟩
  · intro c h _ _; decide
  · intro k h _; decide
  · intro c k h _ _ h' _; decide

theorem witness_StepsKeepOneEntryPerKind :
    State.reset.OneEntryPerKind ∧ step State.reset = .next State.reset := by
  refine ⟨⟨by decide, fun t content h => ?_⟩, rfl⟩
  cases (show (none : Option Transaction) = some t from h)

theorem witness_StepsKeepTheBudgetAllocated : State.reset.Allocated ∧ step State.reset = .next State.reset :=
  ⟨by unfold State.Allocated; decide +kernel, rfl⟩

theorem witness_StepsKeepTheCopiesInAgreement : State.reset.CopiesAgree ∧ step State.reset = .next State.reset :=
  ⟨by unfold State.CopiesAgree; decide +kernel, rfl⟩

theorem witness_StepsKeepTheCoilGuarded : State.reset.CoilGuarded ∧ step State.reset = .next State.reset :=
  ⟨by unfold State.CoilGuarded; decide +kernel, rfl⟩

/-! ## One command each, with the result the manual gives -/

/-- R1: after 4294967295 the count wraps to 0; a soft reset keeps it, a power-on reset sets it to 0. -/
theorem test_tick_count :
    (after (.tick quietLines quietReadings []) (atTick 4294967295 State.reset)).tick = 0
      ∧ (after (.resetPart 7) (atTick 5000 State.reset)).tick = 5000
      ∧ (after .powerOnReset (atTick 5000 State.reset)).tick = 0 := by decide +kernel

/-- R177: STARTED says SOFT, and no response is placed. -/
theorem test_soft_reset_started :
    (after (.resetPart 7) State.reset).host.events = [.started .soft] ∧ (after (.resetPart 7) State.reset).host.slot = none := by
  decide +kernel

/-- The order of section 1.7's worked sequence: the TICK names LIDA before COIL, so the poll's sample arrives before the read's. -/
theorem test_ports_order :
    ((after (.pollSuccess { x := 1, y := 2, z := 3, lux := 0 })
        (after (.tick quietLines quietReadings [.lida, .coil])
          { atTick 15 State.reset with
            poll := { State.reset.poll with onBus := some { source := .lida, started := 15, afterMark := true } } })).intake.fifo.map
        Sample.source) = [.lida, .coil]
      ∧ ((after (.tick quietLines quietReadings []) (atTick 15 State.reset)).intake.fifo.map Sample.source) = [.coil] := by
  decide +kernel

/-- R16: at the first boundary after a reset every observed level becomes the pending one, with the holds 40, 100, 50. -/
theorem test_first_levels :
    (after (.tick { quietLines with halc := true } quietReadings []) State.reset).lines
      = { halc := { debounced := none, pending := some { level := true, start := 1, hold := 40 } }
          half := { debounced := none, pending := some { level := false, start := 1, hold := 40 } }
          penp := { debounced := none, pending := some { level := false, start := 1, hold := 100 } }
          dsns := { debounced := none, pending := some { level := false, start := 1, hold := 50 } } } := by decide +kernel

/-- R26: the sixteenth visit, at an entry with a next link, adds the entry to CHAIN_OVERRUN. -/
theorem test_chain_overrun :
    (after .routeVisit (walkingTo { plainRoute with next := some 11 } (lidRecord 1 2 3) 15 State.reset)).host.events
      = [.started .powerOn, .chainOverrun [11]] := by decide +kernel

/-- R117: a pen inserted requests ceil(150 / 10) = 15 units, is granted them, and charges with reason INSERTED. -/
theorem test_pen_inserted :
    (after .routeVisit (presenceState 1 State.reset)).supply.grants = ⟨0, 0, 15, 0⟩
      ∧ (after .routeVisit (presenceState 1 State.reset)).host.events
          = [.started .powerOn, .budget ⟨0, 0, 15, 0⟩, .pen .charging .inserted 0] := by decide +kernel

/-- R110 and section 8.6: an accepted DETACH places the LATCH request of 50 units and prepares for 32 ticks. -/
theorem test_detach_accepted :
    (after (.detach 3) (releaseState .locked 150)).supply.grants = ⟨50, 0, 0, 0⟩
      ∧ (after (.detach 3) (releaseState .locked 150)).latch.preparation = timerOf 32
      ∧ (after (.detach 3) (releaseState .locked 150)).host.slot = some { tag := 3, kind := 9, body := .ack } := by
  decide +kernel

/-- R151 and the default policy: CLOSED for 1024 ticks, row 1 advises. -/
theorem test_lid_shut_advice :
    (after .inactivityTimerExpiry (idleState 1024)).advisor.platform = .advised
      ∧ (after .inactivityTimerExpiry (idleState 1024)).host.events = [.started .powerOn, .sleepAdvice .advise 1]
      ∧ (after .inactivityTimerExpiry (idleState 1024)).advisor.adviceTimer = some { start := 1024, duration := 10240 } := by
  decide +kernel

/-- R165: the first transaction after a reset delivers STARTED, and the header flags are clear. -/
theorem test_first_transaction :
    (after .chipSelectFall State.reset).host.transaction
      = some { frame := .events [.started .powerOn], flagEvents := false, flagKeys := false, flagSamples := false,
               flagBatch := false } := by decide +kernel

end Sys2Proof.Tests
end

section
/-! The age of the stored vectors (R46): what VECTOR_AGE_DISCARD makes of the Angle Engine, and its statement. -/

namespace Sys2Proof.Machine

theorem exec_vectorAgeDiscard (s : State) : exec .vectorAgeDiscard s = .next (settleAttention s (discardAged s)) := rfl

theorem State.aged_iff (s : State) (v : Option Vector3) :
    s.aged v = true ↔ ∃ x, v = some x ∧ 65536 ≤ (s.tick - x.timestamp).toNat := by
  cases v with
  | none => simp [State.aged]
  | some x =>
    have hage : s.aged (some x) = true ↔ 65536 ≤ (s.tick - x.timestamp).toNat := decide_eq_true_iff
    simp only [hage, Option.some.injEq, exists_eq_left']

/-- The age of a vector depends on the tick only, and the discard of the base vector leaves that. -/
@[simp] theorem discardBase_aged (s : State) (v : Option Vector3) : (discardBase s).aged v = s.aged v := rfl

/-- Each stored vector is judged by its own age: discarding one does not touch the judgement of the other. -/
theorem discardAged_angle (s : State) :
    (discardAged s).angle =
      { s.angle with
        base := if s.aged s.angle.base then none else s.angle.base
        attitude := if s.aged s.angle.base then .none else s.angle.attitude
        lid := if s.aged s.angle.lid then none else s.angle.lid } := by
  by_cases hbase : s.aged s.angle.base
  · by_cases hlid : s.aged s.angle.lid <;> simp only [discardAged, hbase, hlid, if_true, discardBase_aged,
      discardBase_angle_lid, Bool.false_eq_true, if_false] <;> rfl
  · by_cases hlid : s.aged s.angle.lid <;> simp only [discardAged, hbase, hlid, if_true, Bool.false_eq_true, if_false]

/-- An absent vector is stale, whatever else the engine has stored (R49). -/
theorem State.hingeOutcome_none (s : State) : s.hingeOutcome none = .error .stale := rfl

/-- Settles O22: the command is `discardAged` under the attention line, so the angle block is read off
`discardAged_angle`, a discarded vector is the absent one of `State.hingeOutcome_none`, and the frame is the two frames in
turn. -/
theorem agedVectorsAreDiscarded : Obligations.AgedVectorsAreDiscarded := by
  intro s
  refine ⟨_, exec_vectorAgeDiscard s, ?_⟩
  simp only [settleAttention_angle, discardAged_angle, ← State.aged_iff, true_and]
  refine ⟨fun hbase => ?_, fun hbase => ?_, fun hlid => ?_, fun hlid => ?_, ?_⟩
  · simp only [if_pos hbase, State.hingeOutcome_none, and_self]
  · simp only [if_neg hbase, and_self]
  · simp only [if_pos hlid, State.hingeOutcome_none, and_self]
  · exact if_neg hlid
  · exact (discardAged_frame s).seq (settleAttention_frame s _) (by decide) (by decide)

end Sys2Proof.Machine
end

section
/-! The latch coil (R111): when PREPARATION_TIMER_EXPIRY opens the latch, where the coil is on, and the statement about
both. -/

namespace Sys2Proof.Machine

/-! ## Timers -/

/-- Tick differences are modular, so the time since a start does not depend on where the count has wrapped (R1). -/
theorem State.since_tick_sub (s : State) (d : Nat) (hd : d < 4294967296) : s.since (s.tick - BitVec.ofNat 32 d) = d := by
  unfold State.since
  bv_omega

/-- A timer is due at its expiry tick. -/
theorem State.due_at_expiry (s : State) (d : Nat) (hd : d < 4294967296) :
    s.due (some { start := s.tick - BitVec.ofNat 32 d, duration := d }) = true :=
  decide_eq_true (Nat.le_of_eq (s.since_tick_sub d hd).symm)

/-! ## The end of the preparation -/

/-- Opening the latch fills no holding and leaves the line's mode, so the attention line only ages. -/
theorem settleAttention_openLatch (s : State) : settleAttention s (openLatch s) = (openLatch s).lineKept :=
  settle_lineKept (holdings_congr rfl rfl rfl rfl rfl) (levelMode_congr rfl rfl)

theorem exec_preparationTimerExpiry_of_due {s : State} (hdue : s.due s.latch.preparation = true)
    (hstate : s.latch.state = .preparing) : exec .preparationTimerExpiry s = .next (openLatch s).lineKept := by
  have hexec : exec .preparationTimerExpiry s = execPreparationTimerExpiry s := rfl
  have hguard : (s.due s.latch.preparation && s.latch.state = .preparing) = true := by simp [hdue, hstate]
  rw [hexec, execPreparationTimerExpiry, if_pos hguard, finish, settleAttention_openLatch]

/-! ## The coil -/

theorem State.latchCoil_iff (s : State) : s.latchCoil = true ↔ s.latch.state = .opened := decide_eq_true_iff

theorem State.latchCoil_eq_false {s : State} (h : s.latch.state = .locked) : s.latchCoil = false := by
  simp [State.latchCoil, h]

/-- The end of a release gives the latch its reset values; the steps after that write other blocks. -/
theorem endRelease_latch (o : LatchOutcome) (s : State) : (endRelease o s).latch = latchReset := by
  have hplace : ∀ u : State, (placeLatch 0 u).latch = u.latch := fun u => placeLatch_frame 0 u .latch (by decide)
  have hhold : ∀ u : State, (holdLatch true u).latch = u.latch := fun u => holdLatch_frame true u .latch (by decide)
  rw [endRelease, raise_latch, hplace, hhold]

/-- Settles O39: the expiry is `openLatch` at a due timer, and both an end of a release and a reset leave the latch as
`latchReset`, which is LOCKED. -/
theorem preparationTimerOpensTheLatch : Obligations.PreparationTimerOpensTheLatch := by
  refine ⟨fun s d htimer hd hstate => ?_, State.latchCoil_iff, fun outcome s => ?_, fun now why => ?_⟩
  · have hdue : s.due s.latch.preparation = true := htimer ▸ s.due_at_expiry d hd
    exact exec_preparationTimerExpiry_of_due hdue hstate
  · exact State.latchCoil_eq_false (congrArg LatchBlock.state (endRelease_latch outcome s))
  · exact State.latchCoil_eq_false rfl

end Sys2Proof.Machine
end

section
/-! The Supply Budget (R139, R140): the division of the budget, what an allocation hands on, and the GRANT message that
tells the base of its grants, from the entry to SETTLING to the departure. -/

namespace Sys2Proof.Machine

/-! ## The division (R139) -/

/-- A consumer granted less than it asked for has taken all that remained, so the ones after it get nothing. -/
theorem divideBudget_serves (b : Nat) (r : Shares) :
    let g := divideBudget b r
    g.latch + g.base + g.pen + g.extra ≤ b
      ∧ (g.latch < r.latch → g.base = 0 ∧ g.pen = 0 ∧ g.extra = 0)
      ∧ (g.base < r.base → g.pen = 0 ∧ g.extra = 0) ∧ (g.pen < r.pen → g.extra = 0) := by
  simp only [divideBudget]
  omega

theorem divideBudget_of_fits {b : Nat} {r : Shares} (h : r.latch + r.base + r.pen + r.extra ≤ b) :
    divideBudget b r = r := by
  obtain ⟨latch, base, pen, extra⟩ := r
  dsimp only at h
  simp only [divideBudget, Shares.mk.injEq]
  omega

/-! ## The kinds of the pending events (R168) -/

theorem mergeEvent_kind {x e : Event} (h : x.kind = e.kind) : (mergeEvent x e).kind = e.kind := by
  unfold mergeEvent
  split <;> rfl

theorem eventKinds_addEvent (list : List Event) (e : Event) :
    eventKinds (addEvent list e) = if e.kind ∈ eventKinds list then eventKinds list else eventKinds list ++ [e.kind] := by
  induction list with
  | nil => rfl
  | cons x rest ih =>
    by_cases hx : x.kind = e.kind
    · simp [addEvent, eventKinds, hx, mergeEvent_kind hx]
    · have hcons : eventKinds (addEvent (x :: rest) e) = x.kind :: eventKinds (addEvent rest e) := by
        rw [addEvent, if_neg hx, eventKinds, List.map_cons, eventKinds]
      have hmem : e.kind ∈ eventKinds (x :: rest) ↔ e.kind ∈ eventKinds rest := by
        simp [eventKinds, Ne.symm hx]
      rw [hcons, ih, apply_ite (x.kind :: ·)]
      simp only [hmem]
      rfl

theorem eventKinds_prefix_addEvent (list : List Event) (e : Event) : eventKinds list <+: eventKinds (addEvent list e) := by
  rw [eventKinds_addEvent]
  split
  · exact List.prefix_rfl
  · exact List.prefix_append _ _

theorem eventKinds_addEvent_nodup {list : List Event} (h : (eventKinds list).Nodup) (e : Event) :
    (eventKinds (addEvent list e)).Nodup := by
  rw [eventKinds_addEvent]
  split
  · exact h
  · next hnew =>
    refine List.nodup_append.2 ⟨h, List.pairwise_singleton _ _, fun k hk k' hk' heq => hnew ?_⟩
    rwa [← List.mem_singleton.1 hk', ← heq]

/-- With one entry for each kind, the kind names the event. -/
theorem eq_of_kind_eq {list : List Event} (h : (eventKinds list).Nodup) {x y : Event} (hx : x ∈ list) (hy : y ∈ list)
    (hk : x.kind = y.kind) : x = y := by
  induction list with
  | nil => cases hx
  | cons z rest ih =>
    obtain ⟨hz, hrest⟩ := List.nodup_cons.1 h
    have hother : ∀ e ∈ rest, e.kind ≠ z.kind := fun e he heq => hz (heq ▸ List.mem_map_of_mem he)
    cases hx with
    | head =>
      cases hy with
      | head => rfl
      | tail _ hy => exact absurd hk.symm (hother y hy)
    | tail _ hx =>
      cases hy with
      | head => exact absurd hk (hother x hx)
      | tail _ hy => exact ih hrest hx hy

/-! ## What stays of channel 3 (R92, R94) -/

/-- The way to channel 3 and what it carries besides GRANT and CADENCE are the same in two states, and a closed way lets
nothing through. -/
structure ChannelKept (s t : State) : Prop where
  state : t.dock.state = s.dock.state
  halted : t.dock.halted = s.dock.halted
  outgoing : t.dock.outgoing = s.dock.outgoing
  lights : t.dock.waiting.lights = s.dock.waiting.lights
  closed : s.linked = false ∨ s.dock.halted = true → t.dock.waiting = s.dock.waiting

/-- Beyond that, the grants and the GRANT message are the same: of channel 3 only the CADENCE message may differ. -/
structure GrantKept (s t : State) : Prop extends ChannelKept s t where
  grant : t.dock.waiting.grant = s.dock.waiting.grant
  supply : t.supply = s.supply

theorem ChannelKept.linked {s t : State} (h : ChannelKept s t) : t.linked = s.linked := by
  unfold State.linked
  rw [h.state]

theorem ChannelKept.trans {s t u : State} (h : ChannelKept s t) (k : ChannelKept t u) : ChannelKept s u where
  state := k.state.trans h.state
  halted := k.halted.trans h.halted
  outgoing := k.outgoing.trans h.outgoing
  lights := k.lights.trans h.lights
  closed hc := (k.closed (by rwa [h.linked, h.halted])).trans (h.closed hc)

theorem GrantKept.trans {s t u : State} (h : GrantKept s t) (k : GrantKept t u) : GrantKept s u where
  toChannelKept := h.toChannelKept.trans k.toChannelKept
  grant := k.grant.trans h.grant
  supply := k.supply.trans h.supply

theorem ChannelKept.of_dock {s t : State} (h : t.dock = s.dock) : ChannelKept s t := by
  constructor <;> simp [h]

/-- A write beside the way to channel 3, its waiting messages and the supply. -/
theorem GrantKept.of_link {s t : State} (state : t.dock.state = s.dock.state) (halted : t.dock.halted = s.dock.halted)
    (outgoing : t.dock.outgoing = s.dock.outgoing) (waiting : t.dock.waiting = s.dock.waiting)
    (supply : t.supply = s.supply) : GrantKept s t :=
  ⟨⟨state, halted, outgoing, by rw [waiting], fun _ => waiting⟩, by rw [waiting], supply⟩

theorem GrantKept.of_dock {s t : State} (hdock : t.dock = s.dock) (hsupply : t.supply = s.supply) : GrantKept s t :=
  ⟨.of_dock hdock, by rw [hdock], hsupply⟩

theorem GrantKept.refl (s : State) : GrantKept s s := .of_dock rfl rfl

theorem SameBut.dock_state {l : List Block} {s t : State} (h : SameBut l s t) (hl : Block.dockState ∉ l) :
    t.dock.state = s.dock.state := congrArg Prod.fst (h .dockState hl)

/-- An operation whose frame leaves the dock's link and the supply alone. -/
theorem GrantKept.of_frame {l : List Block} {s t : State} (h : SameBut l s t)
    (hl : ∀ b ∈ [Block.dockState, .dockLink, .supply], b ∉ l) : GrantKept s t := by
  have hlink := h .dockLink (hl _ (by decide))
  simp only [Block.same, Prod.mk.injEq] at hlink
  obtain ⟨-, -, hhalted, houtgoing, hwaiting, -⟩ := hlink
  exact .of_link (h.dock_state (hl _ (by decide))) hhalted houtgoing hwaiting (h .supply (hl _ (by decide)))

/-! ## Messages to channel 3 (R92, R94, R95) -/

theorem queueMessage_of_open (m : OutMessage) {s : State} (hlink : s.linked = true) (hhalt : s.dock.halted = false) :
    (queueMessage m s).dock.waiting = s.dock.waiting.put m := by
  simp [queueMessage, hlink, hhalt]

/-- A message is discarded, or joins the waiting ones of an open channel. -/
theorem queueMessage_cases (m : OutMessage) (s : State) :
    queueMessage m s = s ∨
      ((s.linked = true ∧ s.dock.halted = false)
        ∧ queueMessage m s = { s with dock := { s.dock with waiting := s.dock.waiting.put m } }) := by
  by_cases h : (s.linked && !s.dock.halted) = true
  · exact .inr ⟨by simpa using h, if_pos h⟩
  · exact .inl (if_neg h)

theorem queueGrant_channel (n : Nat) (s : State) : ChannelKept s (queueMessage (.grant n) s) := by
  obtain h | ⟨hopen, h⟩ := queueMessage_cases (.grant n) s
  · exact h.symm ▸ .of_dock rfl
  · rw [h]
    exact ⟨rfl, rfl, rfl, rfl, fun hc => by simp [hopen] at hc⟩

theorem queueCadence_grantKept (c : Nat) (s : State) : GrantKept s (queueMessage (.cadence c) s) := by
  obtain h | ⟨hopen, h⟩ := queueMessage_cases (.cadence c) s
  · exact h.symm ▸ GrantKept.refl s
  · rw [h]
    exact ⟨⟨rfl, rfl, rfl, rfl, fun hc => by simp [hopen] at hc⟩, rfl, rfl⟩

/-! ## The shared operations keep the GRANT message -/

theorem setSettle_grantKept (p : Polled) (s : State) : GrantKept s (setSettle p s) := by
  unfold setSettle
  split
  · exact GrantKept.refl s
  · refine GrantKept.trans ?_ (.of_frame (writeSettle_frame p true _) (by decide))
    cases p <;> exact .of_link rfl rfl rfl rfl rfl

theorem handCadence_grantKept (c : Nat) (s : State) : GrantKept s (handCadence c s) :=
  GrantKept.trans
    (t := { s with dock := { s.dock with cadence := c, motionNext := nextPoll (cadencePeriod c) s.tick } })
    (.of_link rfl rfl rfl rfl rfl) (queueCadence_grantKept c _)

theorem reschedule_grantKept (p : Polled) (s : State) : GrantKept s (reschedule p s) := by
  have hcode : GrantKept s (writeCode p (s.chosenCode p) s) := .of_frame (writeCode_frame _ _ _) (by decide)
  have hnew : ∀ u, GrantKept u (renewNext p (setSettle p (withdrawIfOff p u))) := fun u =>
    ((GrantKept.of_frame (withdrawIfOff_frame p u) (by decide)).trans (setSettle_grantKept p _)).trans
      (.of_frame (renewNext_frame p _) (by decide))
  unfold reschedule
  dsimp only
  split <;> split
  · exact hcode.trans (handCadence_grantKept _ _)
  · exact (hcode.trans (hnew _)).trans (handCadence_grantKept _ _)
  · exact hcode
  · exact hcode.trans (hnew _)

theorem recomputeCadences_grantKept (s : State) : GrantKept s (recomputeCadences s) :=
  ((((((reschedule_grantKept .lida s).trans (reschedule_grantKept .lidg _)).trans (reschedule_grantKept .als _)).trans
    (reschedule_grantKept .coil _)).trans (reschedule_grantKept .pcel _)).trans (reschedule_grantKept .ctmp _)).trans
    (reschedule_grantKept .basa _)

/-- A write to the Sleep Advisor alone, after which the part power is chosen anew. -/
theorem repower_grantKept {s t : State} (hdock : t.dock = s.dock) (hsupply : t.supply = s.supply) :
    GrantKept s (repower t) := by
  have ht : GrantKept s t := .of_dock hdock hsupply
  unfold repower
  split
  · exact ht
  · exact ht.trans (GrantKept.trans (t := { t with advisor := { t.advisor with power := t.choosePower } })
      (.of_dock rfl rfl) (recomputeCadences_grantKept _))

theorem holdDock_grantKept (d : DockState) (s : State) : GrantKept s (holdDock d s) := by
  unfold holdDock
  exact repower_grantKept rfl rfl

theorem holdLatch_grantKept (locked : Bool) (s : State) : GrantKept s (holdLatch locked s) := by
  unfold holdLatch
  exact repower_grantKept rfl rfl

theorem holdPenCharging_grantKept (charging : Bool) (s : State) : GrantKept s (holdPenCharging charging s) := by
  unfold holdPenCharging
  exact repower_grantKept rfl rfl

theorem takeCause_grantKept (c : WakeCause) (s : State) : GrantKept s (takeCause c s) := by
  unfold takeCause
  split
  · split
    · exact GrantKept.refl s
    · exact repower_grantKept rfl rfl
  · exact GrantKept.refl s

theorem advisorTakes_grantKept (changed activity : Bool) (cause : Option WakeCause) (s : State) :
    GrantKept s (advisorTakes changed activity cause s) := by
  have hactive : GrantKept s
      (if activity then { s with advisor := { s.advisor with lastActivity := s.tick } } else s) := by
    split
    · exact .of_dock rfl rfl
    · exact GrantKept.refl s
  unfold advisorTakes
  dsimp only
  split
  · split
    · exact hactive.trans (.of_frame (sleepEvaluate_frame _) (by decide))
    · exact hactive
  · split
    · exact hactive.trans (.of_frame (retestAdvice_frame _) (by decide))
    · exact hactive
  · split
    · exact hactive
    · exact hactive.trans (takeCause_grantKept _ _)
  · exact hactive

theorem changePosture_grantKept (p : Posture) (row : Option Nat) (s : State) : GrantKept s (changePosture p row s) := by
  have hreport : ∀ u, GrantKept s u →
      GrantKept s (advisorTakes true true (some .posture) (holdPosture p (trackPosture p u))) := fun u h =>
    ((h.trans (.of_frame (trackPosture_frame p u) (by decide))).trans
      (.of_frame (holdPosture_frame p _) (by decide))).trans (advisorTakes_grantKept _ _ _ _)
  unfold changePosture
  dsimp only
  split
  · exact hreport _ (.of_dock rfl rfl)
  · refine (hreport _ ?_).trans (advisorTakes_grantKept false true none _)
    exact .of_dock rfl rfl

theorem postureAttach_grantKept (s : State) : GrantKept s (postureAttach s) :=
  GrantKept.trans (t := { s with posture := { s.posture with heldHf := none, attached := true } })
    (.of_dock rfl rfl)
    (changePosture_grantKept _ _ _)

theorem postureDetach_grantKept (s : State) : GrantKept s (postureDetach s) :=
  GrantKept.trans (t := { s with posture := { s.posture with attached := false } })
    (.of_dock rfl rfl)
    (changePosture_grantKept _ _ _)

theorem replayKeys_grantKept (s : State) : GrantKept s (replayKeys s) := by
  have hnone : GrantKept s { s with dock := { s.dock with remembered := none } } :=
    .of_link rfl rfl rfl rfl rfl
  unfold replayKeys
  dsimp only
  split
  · exact hnone
  · next k _ =>
    split
    · exact hnone
    · unfold queueKeys
      refine GrantKept.trans ?_ (advisorTakes_grantKept false true (some .keys) _)
      exact .of_link rfl rfl rfl rfl rfl

theorem startMotion_grantKept (accelerometer : Bool) (s : State) : GrantKept s (startMotion accelerometer s) := by
  have hrun : GrantKept s
      { s with
        dock :=
          { s.dock with
            motionRunning := accelerometer, motionNext := nextPoll (cadencePeriod s.dock.cadence) s.tick } } :=
    .of_link rfl rfl rfl rfl rfl
  unfold startMotion
  dsimp only
  split
  · exact hrun.trans (setSettle_grantKept _ _)
  · exact hrun

/-! ## The pen's gates (R115, R120) -/

theorem handPen_grantKept (source dest : PenState) (s : State) : GrantKept s (handPen source dest s) := by
  have hcharging : GrantKept s
      (if (source = .charging) ↔ (dest = .charging) then s
       else holdPenCharging (decide (dest = .charging)) (recomputeCadences s)) := by
    split
    · exact GrantKept.refl s
    · exact (recomputeCadences_grantKept s).trans (holdPenCharging_grantKept _ _)
  unfold handPen
  dsimp only
  split
  · exact hcharging
  · exact hcharging.trans (.of_frame (holdPenPresent_frame _ _) (by decide))

theorem handPen_platform (source dest : PenState) (s : State) :
    (handPen source dest s).advisor.platform = s.advisor.platform := by
  have hcadences : (recomputeCadences s).advisor = s.advisor := recomputeCadences_frame s .advisor (by decide)
  unfold handPen holdPenCharging holdPenPresent
  dsimp only
  split <;> split <;> simp only [repower_advisor, hcadences]

theorem enterPen_pen (dest : PenState) (leading : Option Gate) (why : PenReason) (s : State) :
    (enterPen dest leading why s).pen = (movePen dest leading s).pen :=
  handPen_frame s.pen.state dest (movePen dest leading s) .pen (by decide)

theorem movePen_faults (dest : PenState) (leading : Option Gate) (s : State) :
    (movePen dest leading s).pen.faults = s.pen.faults := by
  unfold movePen
  dsimp only
  split <;> rfl

/-- A change of pen state raises one PEN event and no other (R116). -/
theorem enterPen_events (dest : PenState) (leading : Option Gate) (why : PenReason) (s : State) :
    (enterPen dest leading why s).host.events = addEvent s.host.events (.pen dest why s.pen.faults) := by
  have hpen := enterPen_pen dest leading why s
  have hevents : (handPen s.pen.state dest (movePen dest leading s)).host.events = s.host.events :=
    handPen_frame _ _ _ .events (by decide)
  unfold enterPen raisePen at hpen ⊢
  rw [raise_pen] at hpen
  rw [raise_host_events, hevents, hpen, movePen_faults]
  rfl

theorem enterPen_grantKept (dest : PenState) (leading : Option Gate) (why : PenReason) (s : State) :
    GrantKept s (enterPen dest leading why s) :=
  ((GrantKept.of_frame (movePen_frame dest leading s) (by decide)).trans (handPen_grantKept _ _ _)).trans
    (.of_frame (raisePen_frame why _) (by decide))

/-- What the gates depend on is all that decides the leading one. -/
theorem State.leadingGate_congr {s t : State} (hinhibit : t.pen.inhibit = s.pen.inhibit)
    (hmonitor : t.pen.monitorClosed = s.pen.monitorClosed) (hsupply : t.supply = s.supply)
    (hplatform : t.advisor.platform = s.advisor.platform) (hparams : t.params = s.params) :
    t.leadingGate = s.leadingGate := by
  have hclosed : t.gateClosed = s.gateClosed := by
    funext g
    cases g <;> simp [State.gateClosed, State.param, hinhibit, hmonitor, hsupply, hplatform, hparams]
  rw [State.leadingGate, hclosed, State.leadingGate]

theorem enterPen_leadingGate (dest : PenState) (leading : Option Gate) (why : PenReason) (s : State) :
    (enterPen dest leading why s).leadingGate = s.leadingGate := by
  have hpen := enterPen_pen dest leading why s
  refine State.leadingGate_congr ?_ ?_ (enterPen_grantKept dest leading why s).supply (handPen_platform _ _ _)
    (enterPen_frame dest leading why s .params (by decide))
  all_goals
    rw [hpen, movePen]
    dsimp only
    split <;> rfl

/-! ### Re-reading the gates -/

/-- The gates re-read leave the state, change the pen's state, or report a new leading gate of a PAUSED pen (R120). -/
theorem rereadGates_cases (s : State) :
    rereadGates s = s ∨ (∃ dest leading why, rereadGates s = enterPen dest leading why s)
      ∨ ∃ g, rereadGates s = raisePen (.gate g) { s with pen := { s.pen with leading := some g } } := by
  unfold rereadGates pauseLeading
  split
  · split
    · split
      · exact .inl rfl
      · exact .inr (.inl ⟨_, _, _, rfl⟩)
    · exact .inl rfl
  · split
    · exact .inr (.inl ⟨_, _, _, rfl⟩)
    · split
      · exact .inl rfl
      · exact .inr (.inr ⟨_, rfl⟩)
  all_goals exact .inl rfl

theorem rereadGates_grantKept (s : State) : GrantKept s (rereadGates s) := by
  obtain h | ⟨dest, leading, why, h⟩ | ⟨g, h⟩ := rereadGates_cases s <;> rw [h]
  · exact GrantKept.refl s
  · exact enterPen_grantKept dest leading why s
  · exact .of_dock rfl rfl

theorem rereadGates_leadingGate (s : State) : (rereadGates s).leadingGate = s.leadingGate := by
  obtain h | ⟨dest, leading, why, h⟩ | ⟨g, h⟩ := rereadGates_cases s <;> rw [h]
  · exact enterPen_leadingGate dest leading why s
  · exact State.leadingGate_congr rfl rfl rfl rfl rfl

/-- The gates re-read raise a PEN event at most. -/
theorem rereadGates_events (s : State) :
    (rereadGates s).host.events = s.host.events
      ∨ ∃ p why faults, (rereadGates s).host.events = addEvent s.host.events (.pen p why faults) := by
  obtain h | ⟨dest, leading, why, h⟩ | ⟨g, h⟩ := rereadGates_cases s <;> rw [h]
  · exact .inl rfl
  · exact .inr ⟨_, _, _, enterPen_events dest leading why s⟩
  · exact .inr ⟨_, _, _, rfl⟩

theorem rereadGates_resumes {s : State} (hstate : s.pen.state = .paused) (hgate : s.leadingGate = none) :
    rereadGates s = enterPen .charging none .resumed s := by
  simp only [rereadGates, hstate, hgate]

theorem rereadGates_stays_paused {s : State} {g : Gate} (hstate : s.pen.state = .paused) (hgate : s.leadingGate = some g) :
    (rereadGates s).pen = { s.pen with leading := some g }
      ∧ (s.pen.leading ≠ some g → .pen .paused (.gate g) s.pen.faults ∈ (rereadGates s).host.events) := by
  have hreread : rereadGates s =
      if s.pen.leading = some g then s
      else raisePen (.gate g) { s with pen := { s.pen with leading := some g } } := by
    simp only [rereadGates, hstate, hgate]
  rw [hreread]
  by_cases hleading : s.pen.leading = some g
  · rw [if_pos hleading]
    exact ⟨by rw [← hleading], fun hne => absurd hleading hne⟩
  · rw [if_neg hleading, ← hstate]
    exact ⟨rfl, fun _ => mem_addEvent_self _ _ (by simp [Event.kind])⟩

theorem rereadGates_of_charging {s : State} (hstate : s.pen.state = .charging) (hinhibit : s.gateClosed .inhibit = false)
    (hsleep : s.gateClosed .sleep = false) : rereadGates s = s := by
  simp [rereadGates, hstate, hinhibit, hsleep]

theorem rereadGates_of_other {s : State} (hpaused : s.pen.state ≠ .paused) (hcharging : s.pen.state ≠ .charging) :
    rereadGates s = s := by
  unfold rereadGates
  split <;> first | rfl | contradiction

/-! ## The stages of an allocation (R140) -/

def State.newGrants (s : State) : Shares := divideBudget s.supply.budget s.supply.requests

/-- The first stage: the grants are taken. -/
def takeGrants (s : State) : State := { s with supply := { s.supply with grants := s.newGrants } }

/-- The second stage: a change of them is announced. -/
def announceGrants (s : State) : State :=
  if s.newGrants = s.supply.grants then takeGrants s else raise (.budget s.newGrants) (takeGrants s)

/-- The third stage: the pen's gates are re-read. -/
def regateGrants (s : State) : State :=
  if s.newGrants.pen = s.supply.grants.pen then announceGrants s else rereadGates (announceGrants s)

theorem allocate_eq (s : State) :
    allocate s =
      if s.newGrants.base + s.newGrants.extra = s.supply.grants.base + s.supply.grants.extra then regateGrants s
      else queueMessage (.grant (s.newGrants.base + s.newGrants.extra)) (regateGrants s) := rfl

theorem takeGrants_of_eq {s : State} (h : s.newGrants = s.supply.grants) : takeGrants s = s := by
  rw [takeGrants, h]

theorem announceGrants_cases (s : State) :
    announceGrants s = takeGrants s ∨ announceGrants s = raise (.budget s.newGrants) (takeGrants s) := by
  unfold announceGrants
  split
  · exact .inl rfl
  · exact .inr rfl

theorem announceGrants_pen (s : State) : (announceGrants s).pen = s.pen := by
  obtain h | h := announceGrants_cases s <;> rw [h] <;> rfl

theorem announceGrants_grantKept (s : State) : GrantKept (takeGrants s) (announceGrants s) := by
  obtain h | h := announceGrants_cases s <;> rw [h]
  · exact GrantKept.refl _
  · exact .of_frame (raise_frame _ _) (by decide)

theorem announceGrants_gateClosed {s : State} {g : Gate} (hg : g ≠ .budget) :
    (announceGrants s).gateClosed g = s.gateClosed g := by
  obtain h | h := announceGrants_cases s <;> rw [h] <;> cases g <;> first | rfl | contradiction

theorem regateGrants_grantKept (s : State) : GrantKept (takeGrants s) (regateGrants s) := by
  unfold regateGrants
  split
  · exact announceGrants_grantKept s
  · exact (announceGrants_grantKept s).trans (rereadGates_grantKept _)

/-- What the first three stages leave of channel 3 is what stood there before: the grants are taken beside the dock. -/
theorem regateGrants_channel (s : State) : ChannelKept s (regateGrants s) :=
  (ChannelKept.of_dock (s := s) (t := takeGrants s) rfl).trans (regateGrants_grantKept s).toChannelKept

theorem regateGrants_grant (s : State) : (regateGrants s).dock.waiting.grant = s.dock.waiting.grant :=
  (regateGrants_grantKept s).grant

/-- The base's GRANT, the last stage, touches its link only. -/
theorem allocate_after_regate (s : State) : SameBut [.dockLink] (regateGrants s) (allocate s) := by
  rw [allocate_eq]
  split
  · exact SameBut.refl _ _
  · exact queueMessage_frame _ _

theorem allocate_channel (s : State) : ChannelKept s (allocate s) := by
  rw [allocate_eq]
  split
  · exact regateGrants_channel s
  · exact (regateGrants_channel s).trans (queueGrant_channel _ _)

theorem allocate_supply (s : State) : (allocate s).supply = { s.supply with grants := s.newGrants } :=
  (allocate_after_regate s .supply (by decide)).trans (regateGrants_grantKept s).supply

theorem allocate_pen (s : State) : (allocate s).pen = (regateGrants s).pen := allocate_after_regate s .pen (by decide)

theorem allocate_events (s : State) : (allocate s).host.events = (regateGrants s).host.events :=
  allocate_after_regate s .events (by decide)

theorem allocate_of_unchanged {s : State} (h : s.newGrants = s.supply.grants) : allocate s = s := by
  simp only [allocate_eq, regateGrants, announceGrants, h, if_true]
  exact takeGrants_of_eq h

/-! ## What an allocation hands on (R140) -/

/-- The events of an allocation that changes the grants: BUDGET, and after it a PEN event at most. -/
theorem allocate_events_of_changed {s : State} (h : s.newGrants ≠ s.supply.grants) :
    (allocate s).host.events = addEvent s.host.events (.budget s.newGrants)
      ∨ ∃ p why faults,
          (allocate s).host.events = addEvent (addEvent s.host.events (.budget s.newGrants)) (.pen p why faults) := by
  have hbudget : (announceGrants s).host.events = addEvent s.host.events (.budget s.newGrants) := by
    rw [announceGrants, if_neg h]
    rfl
  rw [allocate_events, regateGrants, ← hbudget]
  split
  · exact .inl rfl
  · exact rereadGates_events _

theorem allocate_reports_budget {s : State} (h : s.newGrants ≠ s.supply.grants) :
    .budget s.newGrants ∈ (allocate s).host.events
      ∧ eventKinds s.host.events <+: eventKinds (allocate s).host.events
      ∧ (s.OneEntryPerKind → ∀ g, .budget g ∈ (allocate s).host.events → g = s.newGrants) := by
  have hbudget : .budget s.newGrants ∈ addEvent s.host.events (.budget s.newGrants) :=
    mem_addEvent_self _ _ (by simp [Event.kind])
  have hprefix := eventKinds_prefix_addEvent s.host.events (.budget s.newGrants)
  have hunique : ∀ list : List Event, .budget s.newGrants ∈ list → (eventKinds list).Nodup →
      ∀ g, .budget g ∈ list → g = s.newGrants := fun list hnew hnodup g hg => Event.budget.inj (eq_of_kind_eq hnodup hg hnew rfl)
  obtain hevents | ⟨p, why, faults, hevents⟩ := allocate_events_of_changed h <;> rw [hevents]
  · exact ⟨hbudget, hprefix, fun hone => hunique _ hbudget (eventKinds_addEvent_nodup hone.1 _)⟩
  · have hkept : .budget s.newGrants ∈ addEvent (addEvent s.host.events (.budget s.newGrants)) (.pen p why faults) :=
      mem_addEvent_other hbudget (by simp [Event.kind])
    exact ⟨hkept, hprefix.trans (eventKinds_prefix_addEvent _ _),
      fun hone => hunique _ hkept (eventKinds_addEvent_nodup (eventKinds_addEvent_nodup hone.1 _) _)⟩

theorem allocate_pen_of_same {s : State} (h : s.newGrants.pen = s.supply.grants.pen) : (allocate s).pen = s.pen := by
  rw [allocate_pen, regateGrants, if_pos h, announceGrants_pen]

/-- A changed PEN grant re-reads the gates, which the rest of the allocation leaves as they are. -/
theorem allocate_rereads {s : State} (h : s.newGrants.pen ≠ s.supply.grants.pen) :
    (allocate s).pen = (rereadGates (announceGrants s)).pen
      ∧ (allocate s).host.events = (rereadGates (announceGrants s)).host.events
      ∧ (allocate s).leadingGate = (announceGrants s).leadingGate := by
  have hregate : regateGrants s = rereadGates (announceGrants s) := if_neg h
  have hlast := hregate ▸ allocate_after_regate s
  have hpen := hlast .pen (by decide)
  refine ⟨hpen, hlast .events (by decide), ?_⟩
  exact (State.leadingGate_congr (congrArg PenBlock.inhibit hpen) (congrArg PenBlock.monitorClosed hpen)
    (hlast .supply (by decide)) (congrArg AdvisorBlock.platform (hlast .advisor (by decide)))
    (hlast .params (by decide))).trans (rereadGates_leadingGate _)

theorem allocate_gates {s : State} (h : s.newGrants.pen ≠ s.supply.grants.pen) :
    (s.pen.state = .paused → (allocate s).leadingGate = none →
        (allocate s).pen.state = .charging ∧ (allocate s).pen.duty = 0
          ∧ .pen .charging .resumed s.pen.faults ∈ (allocate s).host.events)
      ∧ (∀ g, s.pen.state = .paused → (allocate s).leadingGate = some g →
          (allocate s).pen = { s.pen with leading := some g }
            ∧ (s.pen.leading ≠ some g → .pen .paused (.gate g) s.pen.faults ∈ (allocate s).host.events))
      ∧ (s.pen.state = .charging → s.gateClosed .inhibit = false → s.gateClosed .sleep = false →
          (allocate s).pen = s.pen)
      ∧ (s.pen.state ≠ .paused → s.pen.state ≠ .charging → (allocate s).pen = s.pen) := by
  obtain ⟨hpen, hevents, hleading⟩ := allocate_rereads h
  rw [hpen, hevents, hleading]
  have hsame := announceGrants_pen s
  simp only [← hsame]
  refine ⟨fun hstate hopen => ?_, fun g => rereadGates_stays_paused, fun hstate hinhibit hsleep => ?_,
    fun hpaused hcharging => ?_⟩
  · rw [rereadGates_resumes hstate hopen, enterPen_events, enterPen_pen]
    exact ⟨rfl, by simp [movePen, PenBlock.clearRun], mem_addEvent_self _ _ (by simp [Event.kind])⟩
  · rw [rereadGates_of_charging hstate] <;> rwa [announceGrants_gateClosed (by decide)]
  · rw [rereadGates_of_other hpaused hcharging]

theorem allocate_grant_of_changed {s : State}
    (h : s.newGrants.base + s.newGrants.extra ≠ s.supply.grants.base + s.supply.grants.extra) (hlink : s.linked = true)
    (hhalt : s.dock.halted = false) :
    (allocate s).dock.waiting.grant = some (s.newGrants.base + s.newGrants.extra) := by
  have hkept := regateGrants_channel s
  rw [allocate_eq, if_neg h, queueMessage_of_open _ (hkept.linked.trans hlink) (hkept.halted.trans hhalt)]
  rfl

theorem allocate_grant_of_same {s : State}
    (h : s.newGrants.base + s.newGrants.extra = s.supply.grants.base + s.supply.grants.extra) :
    (allocate s).dock.waiting.grant = s.dock.waiting.grant := by
  rw [allocate_eq, if_pos h, regateGrants_grant]

/-- Placing requests is an allocation at most. -/
theorem placeRequests_channel (r : Shares) (s : State) : ChannelKept s (placeRequests r s) := by
  unfold placeRequests
  split
  · exact .of_dock rfl
  · exact (ChannelKept.of_dock (s := s) (t := { s with supply := { s.supply with requests := r } }) rfl).trans
      (allocate_channel _)

/-! ## The GRANT message in step with the grants (R102, R140) -/

/-- The way to channel 3 is open and the sum of BASE and EXTRA waits there. -/
structure State.GrantWaits (s : State) : Prop where
  linked : s.linked = true
  halted : s.dock.halted = false
  grant : s.dock.waiting.grant = some s.grantTotal

theorem queueMessage_grantTotal (m : OutMessage) (s : State) : (queueMessage m s).grantTotal = s.grantTotal :=
  congrArg (fun b : SupplyBlock => b.grants.base + b.grants.extra) (queueMessage_frame m s .supply (by decide))

theorem State.GrantWaits.kept {s t : State} (h : s.GrantWaits) (k : GrantKept s t) : t.GrantWaits where
  linked := k.linked.trans h.linked
  halted := k.halted.trans h.halted
  grant := by rw [k.grant, h.grant, State.grantTotal, State.grantTotal, k.supply]

theorem queueGrant_waits {s : State} (hlink : s.linked = true) (hhalt : s.dock.halted = false) :
    (queueMessage (.grant s.grantTotal) s).GrantWaits where
  linked := (queueGrant_channel _ s).linked.trans hlink
  halted := (queueGrant_channel _ s).halted.trans hhalt
  grant := by
    rw [queueMessage_of_open _ hlink hhalt, queueMessage_grantTotal]
    rfl

/-- An allocation brings the waiting GRANT up to date: a changed sum replaces it, an unchanged one is what it says. -/
theorem State.GrantWaits.after_allocate {s : State} (h : s.GrantWaits) : (allocate s).GrantWaits where
  linked := (allocate_channel s).linked.trans h.linked
  halted := (allocate_channel s).halted.trans h.halted
  grant := by
    rw [State.grantTotal, allocate_supply]
    by_cases hsum : s.newGrants.base + s.newGrants.extra = s.supply.grants.base + s.supply.grants.extra
    · rw [allocate_grant_of_same hsum, h.grant, State.grantTotal, hsum]
    · exact allocate_grant_of_changed hsum h.linked h.halted

theorem State.GrantWaits.after_placeRequests {s : State} (h : s.GrantWaits) (r : Shares) :
    (placeRequests r s).GrantWaits := by
  unfold placeRequests
  split
  · exact h
  · exact State.GrantWaits.after_allocate (s := { s with supply := { s.supply with requests := r } })
      ⟨h.linked, h.halted, h.grant⟩

/-! ## Changes of dock state (R99) -/

/-- Of what `GrantKept` speaks of, a change of dock state writes the state alone. -/
theorem changeDock_grantKept (dest : DockState) (why : DockReason) (s : State) :
    GrantKept { s with dock := { s.dock with state := dest } } (changeDock dest why s) := by
  unfold changeDock
  refine GrantKept.trans ?_ (holdDock_grantKept dest _)
  exact .of_link rfl rfl rfl rfl rfl

theorem enterDock_grantKept (dest : DockState) (why : DockReason) (s : State) :
    GrantKept { s with dock := { s.dock with state := dest } } (enterDock dest why s) := by
  have hchange := changeDock_grantKept dest why s
  unfold enterDock
  dsimp only
  split
  · exact hchange.trans (advisorTakes_grantKept _ _ _ _)
  · exact hchange
  all_goals exact hchange.trans (advisorTakes_grantKept _ _ _ _)

/-- The entry to ATTACHED stays on the link, and of the grants only the EXTRA request it places changes any (R103). -/
theorem State.GrantWaits.after_enterAttached {s : State} (h : s.GrantWaits) : (enterAttached s).GrantWaits := by
  have hattached : (changeDock .attached .none s).GrantWaits :=
    State.GrantWaits.kept (s := { s with dock := { s.dock with state := .attached } }) ⟨rfl, h.halted, h.grant⟩
      (changeDock_grantKept _ _ _)
  have hkeys : (replayKeys (postureAttach (clearFilter (changeDock .attached .none s)))).GrantWaits :=
    ((hattached.kept (.of_frame (clearFilter_frame _) (by decide))).kept (postureAttach_grantKept _)).kept
      (replayKeys_grantKept _)
  have hreported : ∀ u : State, u.GrantWaits →
      (advisorTakes true true (some .dock) (placeExtra u.dock.extraHeld u)).GrantWaits := fun u hu =>
    (hu.after_placeRequests _).kept (advisorTakes_grantKept _ _ _ _)
  exact hreported _ hkeys

/-- The entry to SETTLING queues the grants as they result, and what follows in the same step keeps them told (R102). -/
theorem enterSettling_waits (i : Identity) {s : State} (hhalt : s.dock.halted = false) : (enterSettling i s).GrantWaits := by
  have hentered := enterDock_grantKept .settling .none { s with dock := { s.dock with identity := some i } }
  have hplaced : ∀ u : State, u.dock.state = .settling → u.dock.halted = false →
      (placeBase i.baseline { u with dock := { u.dock with cycles := 0, extraHeld := 0 } }).dock.state = .settling
        ∧ (placeBase i.baseline { u with dock := { u.dock with cycles := 0, extraHeld := 0 } }).dock.halted = false :=
    fun u hstate hu => ⟨(placeRequests_channel _ _).state.trans hstate, (placeRequests_channel _ _).halted.trans hu⟩
  have hqueued : ∀ u : State, u.dock.state = .settling ∧ u.dock.halted = false →
      (startMotion i.accelerometer
        (queueMessage (.cadence u.dock.cadence) (queueMessage (.grant u.grantTotal) u))).GrantWaits :=
    fun u ⟨hstate, hu⟩ =>
      ((queueGrant_waits (by simp [State.linked, hstate]) hu).kept (queueCadence_grantKept _ _)).kept
        (startMotion_grantKept _ _)
  have hsettled : ∀ u : State, u.GrantWaits →
      (if u.param .attachSettle = 0 then enterAttached u
       else { u with dock := { u.dock with settleTimer := u.timer (u.param .attachSettle) } }).GrantWaits := by
    intro u h
    split
    · exact h.after_enterAttached
    · exact ⟨h.linked, h.halted, h.grant⟩
  exact hsettled _ (hqueued _ (hplaced _ hentered.state (hentered.halted.trans hhalt)))

/-! ## A departure (R104) -/

theorem endReleaseIfAny_channel (outcome : LatchOutcome) (s : State) : ChannelKept s (endReleaseIfAny outcome s) := by
  have hhold : GrantKept s (holdLatch true { s with latch := latchReset }) :=
    GrantKept.trans (s := s) (t := { s with latch := latchReset }) (.of_dock rfl rfl) (holdLatch_grantKept true _)
  unfold endReleaseIfAny endRelease
  split
  · exact .of_dock rfl
  · exact (hhold.toChannelKept.trans (placeRequests_channel _ _)).trans (.of_dock rfl)

/-- Channel 3 is emptied, and with the link gone nothing of the departure's later steps reaches it. -/
theorem depart_channel {dest : DockState} (why : DockReason) (s : State) (h : dest ≠ .settling) (h' : dest ≠ .attached) :
    (depart dest why s).dock.waiting = waitingEmpty ∧ (depart dest why s).dock.outgoing = none := by
  have hleft :
      (if s.dock.state = .attached then releaseKeys (enterDock dest why s) else enterDock dest why s).dock.state = dest := by
    have hentered : (enterDock dest why s).dock.state = dest := (enterDock_grantKept dest why s).state
    split
    · exact ((releaseKeys_frame _).dock_state (by decide)).trans hentered
    · exact hentered
  have hdropped : ∀ u : State, u.dock.state = dest →
      (dropRequests { u with dock := { u.dock with remembered := none } }).dock.state = dest := fun u hu =>
    (placeRequests_channel _ _).state.trans hu
  have hrest : ∀ u : State, ChannelKept u
      (endReleaseIfAny .cancelled (if s.dock.state = .attached then postureDetach u else u)) := by
    intro u
    refine ChannelKept.trans ?_ (endReleaseIfAny_channel _ _)
    split
    · exact (postureDetach_grantKept u).toChannelKept
    · exact .of_dock rfl
  have hstopped : ∀ u : State, u.dock.state = dest → (discardBase (stopChannels u)).linked = false := fun u hu => by
    simp [State.linked, stopChannels, hu, h, h']
  have hempty : ∀ u : State, u.dock.state = dest →
      let t := endReleaseIfAny .cancelled
        (if s.dock.state = .attached then postureDetach (discardBase (stopChannels u)) else discardBase (stopChannels u))
      t.dock.waiting = waitingEmpty ∧ t.dock.outgoing = none := fun u hu =>
    ⟨(hrest _).closed (.inl (hstopped u hu)), (hrest _).outgoing⟩
  exact hempty _ (hdropped _ hleft)

/-! ## The statement -/

/-- Settles O44: the division by arithmetic, an allocation stage by stage through `allocate_eq`, the entry to SETTLING by
keeping `State.GrantWaits` along its steps, and a departure by the closed way of `ChannelKept`. -/
theorem allocationServesInPriorityOrder : Obligations.AllocationServesInPriorityOrder := by
  refine ⟨fun b r => ?_, fun s => ?_, fun i s hhalt => (enterSettling_waits i hhalt).grant, fun dest why s hdest => ?_⟩
  · obtain ⟨hsum, hlatch, hbase, hpen⟩ := divideBudget_serves b r
    exact ⟨_, rfl, rfl, rfl, rfl, rfl, hsum, divideBudget_of_fits, hlatch, hbase, hpen⟩
  · exact ⟨_, rfl, allocate_supply s, allocate_of_unchanged, allocate_reports_budget, allocate_pen_of_same,
      allocate_gates,
      fun hsum hlink hhalt => ⟨allocate_grant_of_changed hsum hlink hhalt, (allocate_channel s).lights⟩,
      allocate_grant_of_same, (allocate_channel s).closed, allocate_frame s⟩
  · refine depart_channel why s ?_ ?_ <;> rintro rfl <;> simp at hdest

end Sys2Proof.Machine
end

section
/-! What every operation of the blocks keeps of the others: the kinds of the pending events, whether the host is up, what is on
its way to Intake, and, for the operations that make no exchange, the Dock Link (`Steady`); and three of the invariants
(`Guarded`). Said once for each operation, in the order of the Machine files. -/

namespace Sys2Proof.Machine

-- One theorem after another, as in the model's tests: a theorem that waits for a kernel evaluation holds a thread.
set_option Elab.async false

/-! ## The relations -/

/-- What a settle mark set now cannot change of a sample on its way; of a line's sample, everything. -/
def Coming.shape (c : Coming) : Source × Option Values × Bool := (c.source, c.values, (polledOf c.source).isSome || c.afterMark)

/-- What a settle mark set now cannot change of an exchange on the wire. -/
def Cycle.shape (c : Cycle) : Tick × Channel × List Channel × Bool := (c.tick, c.channel, c.rest, c.discarded)

/-- The next-due tick of channel 2 is the one of the cadence kept, taken now (R97). -/
def State.MotionTracks (s : State) : Prop := s.dock.motionNext = nextPoll (cadencePeriod s.dock.cadence) s.tick

/-- The channel-3 messages hold a CADENCE of the cadence kept (R92). -/
def State.CadenceWaits (s : State) : Prop := s.dock.waiting.cadence = some s.dock.cadence

/-- No second pending event of a kind appears, the host stays up or down, and what is on its way to Intake stays. -/
structure Quiet (s t : State) : Prop where
  kinds : (eventKinds s.host.events).Nodup → (eventKinds t.host.events).Nodup
  hostUp : t.advisor.platform.hostUp = s.advisor.platform.hostUp
  coming : t.poll.coming.map Coming.shape = s.poll.coming.map Coming.shape

/-- Beyond that, the health of the Sensor Bus sources stays, and the Dock Link but for the cadence with its due tick and message,
and a GRANT message. -/
structure Steady (s t : State) : Prop extends Quiet s t where
  cycle : t.dock.cycle.map Cycle.shape = s.dock.cycle.map Cycle.shape
  toggles : t.dock.toggles = s.dock.toggles
  silence : t.dock.silence = s.dock.silence
  cycles : t.dock.cycles = s.dock.cycles
  motionRunning : t.dock.motionRunning = s.dock.motionRunning
  sent : t.dock.sent = s.dock.sent
  motion : s.MotionTracks → t.MotionTracks
  cadence : s.linked = true → s.dock.halted = false → s.CadenceWaits → t.CadenceWaits
  channel : ChannelKept s t
  health : t.poll.health = s.poll.health

/-- The invariants of the Supply Budget, of the held copies and of the coil are kept. -/
structure Guarded (s t : State) : Prop where
  allocated : s.Allocated → t.Allocated
  copies : s.CopiesAgree → t.CopiesAgree
  coil : s.CoilGuarded → t.CoilGuarded

/-- Both. -/
structure Safe (s t : State) : Prop where
  steady : Steady s t
  guarded : Guarded s t

theorem Quiet.trans {s t u : State} (h : Quiet s t) (k : Quiet t u) : Quiet s u where
  kinds hs := k.kinds (h.kinds hs)
  hostUp := k.hostUp.trans h.hostUp
  coming := k.coming.trans h.coming

theorem Steady.trans {s t u : State} (h : Steady s t) (k : Steady t u) : Steady s u where
  toQuiet := h.toQuiet.trans k.toQuiet
  cycle := k.cycle.trans h.cycle
  toggles := k.toggles.trans h.toggles
  silence := k.silence.trans h.silence
  cycles := k.cycles.trans h.cycles
  motionRunning := k.motionRunning.trans h.motionRunning
  sent := k.sent.trans h.sent
  motion hs := k.motion (h.motion hs)
  cadence hlink hhalt hs :=
    k.cadence (h.channel.linked.trans hlink) (h.channel.halted.trans hhalt) (h.cadence hlink hhalt hs)
  channel := h.channel.trans k.channel
  health := k.health.trans h.health

theorem Guarded.trans {s t u : State} (h : Guarded s t) (k : Guarded t u) : Guarded s u where
  allocated hs := k.allocated (h.allocated hs)
  copies hs := k.copies (h.copies hs)
  coil hs := k.coil (h.coil hs)

theorem Safe.trans {s t u : State} (h : Safe s t) (k : Safe t u) : Safe s u :=
  ⟨h.steady.trans k.steady, h.guarded.trans k.guarded⟩

/-- A write that leaves the pending events, whether the host is up, what is on its way and the dock. -/
theorem Steady.of_same {s t : State} (events : t.host.events = s.host.events)
    (hostUp : t.advisor.platform.hostUp = s.advisor.platform.hostUp)
    (coming : t.poll.coming.map Coming.shape = s.poll.coming.map Coming.shape) (dock : t.dock = s.dock)
    (tick : t.tick = s.tick) (health : t.poll.health = s.poll.health := by rfl) : Steady s t where
  kinds := by rw [events]; exact id
  hostUp := hostUp
  coming := coming
  cycle := by rw [dock]
  toggles := by rw [dock]
  silence := by rw [dock]
  cycles := by rw [dock]
  motionRunning := by rw [dock]
  sent := by rw [dock]
  motion := by unfold State.MotionTracks; rw [dock, tick]; exact id
  cadence _ _ := by unfold State.CadenceWaits; rw [dock]; exact id
  channel := .of_dock dock
  health := health

theorem Steady.refl (s : State) : Steady s s := .of_same rfl rfl rfl rfl rfl

theorem Guarded.refl (s : State) : Guarded s s := ⟨id, id, id⟩

theorem Safe.refl (s : State) : Safe s s := ⟨.refl s, .refl s⟩

/-- A write beside the pending events, the Advisor, the poll block and the dock's link. -/
theorem Steady.of_frame {l : List Block} {s t : State} (h : SameBut l s t)
    (hl : ∀ b ∈ [Block.tick, .events, .advisor, .poll, .dockLink, .dockState], b ∉ l) : Steady s t := by
  have hlink := h .dockLink (hl _ (by decide))
  simp only [Block.same, Prod.mk.injEq] at hlink
  obtain ⟨htoggles, hsilence, hhalted, houtgoing, hwaiting, hcycles, hrunning, hnext, hcadence, hcycle, hsent⟩ := hlink
  have htick : t.tick = s.tick := h .tick (hl _ (by decide))
  have hevents : t.host.events = s.host.events := h .events (hl _ (by decide))
  have hadvisor : t.advisor = s.advisor := h .advisor (hl _ (by decide))
  have hpoll : t.poll = s.poll := h .poll (hl _ (by decide))
  exact
    { kinds := by rw [hevents]; exact id
      hostUp := by rw [hadvisor]
      coming := by rw [hpoll]
      cycle := by rw [hcycle]
      toggles := htoggles
      silence := hsilence
      cycles := hcycles
      motionRunning := hrunning
      sent := hsent
      motion := by unfold State.MotionTracks; rw [hnext, hcadence, htick]; exact id
      cadence := fun _ _ => by unfold State.CadenceWaits; rw [hwaiting, hcadence]; exact id
      channel := ⟨h.dock_state (hl _ (by decide)), hhalted, houtgoing, by rw [hwaiting], fun _ => hwaiting⟩
      health := by rw [hpoll] }

/-- A write beside the blocks that the three invariants speak of. -/
theorem Guarded.of_frame {l : List Block} {s t : State} (h : SameBut l s t)
    (hl : ∀ b ∈ [Block.params, .advisor, .dockState, .supply, .pen, .posture, .orient, .latch], b ∉ l) : Guarded s t := by
  have hadvisor : t.advisor = s.advisor := h .advisor (hl _ (by decide))
  have hsupply : t.supply = s.supply := h .supply (hl _ (by decide))
  have hparams : t.params = s.params := h .params (hl _ (by decide))
  have hpen : t.pen = s.pen := h .pen (hl _ (by decide))
  have hposture : t.posture = s.posture := h .posture (hl _ (by decide))
  have horient : t.orient = s.orient := h .orient (hl _ (by decide))
  have hlatch : t.latch = s.latch := h .latch (hl _ (by decide))
  have hstate : t.dock.state = s.dock.state := h.dock_state (hl _ (by decide))
  refine ⟨?_, ?_, ?_⟩
  · unfold State.Allocated State.budgetInForce State.param; rw [hadvisor, hsupply, hparams]; exact id
  · unfold State.CopiesAgree State.choosePower; rw [hadvisor, hposture, horient, hstate, hpen, hlatch]; exact id
  · unfold State.CoilGuarded; rw [hpen]; exact id

theorem Safe.of_frame {l : List Block} {s t : State} (h : SameBut l s t)
    (hl : ∀ b ∈ [Block.tick, .events, .poll, .dockLink, .params, .advisor, .dockState, .supply, .pen, .posture, .orient,
      .latch], b ∉ l) : Safe s t :=
  ⟨.of_frame h (fun b hb => hl b (by revert b; decide)), .of_frame h (fun b hb => hl b (by revert b; decide))⟩

/-- What the Advisor is told or decides, seen from the three invariants: the copies with the part power, and whether the host
is up. -/
theorem Guarded.of_advice {s t : State} (h : SameBut adviceBlocks s t) (held : HeldSame s t)
    (asleep : t.advisor.platform = .asleep ↔ s.advisor.platform = .asleep) (power : t.advisor.power = s.advisor.power)
    (hostUp : t.advisor.platform.hostUp = s.advisor.platform.hostUp) : Guarded s t := by
  have hsupply : t.supply = s.supply := h .supply (by decide)
  have hparams : t.params = s.params := h .params (by decide)
  have hpen : t.pen = s.pen := h .pen (by decide)
  have hposture : t.posture = s.posture := h .posture (by decide)
  have horient : t.orient = s.orient := h .orient (by decide)
  have hlatch : t.latch = s.latch := h .latch (by decide)
  have hstate : t.dock.state = s.dock.state := h.dock_state (by decide)
  obtain ⟨hp, hd, hpp, hpc, hll, -, -⟩ := held
  refine ⟨?_, ?_, ?_⟩
  · unfold State.Allocated State.budgetInForce State.param; rw [hostUp, hsupply, hparams]; exact id
  · unfold State.CopiesAgree State.choosePower
    rw [hp, hd, hpp, hpc, hll, power, hposture, horient, hstate, hpen, hlatch]
    simp only [asleep]
    exact id
  · unfold State.CoilGuarded; rw [hpen]; exact id

/-! ## Updates -/

theorem raise_steady (e : Event) (s : State) : Steady s (raise e s) :=
  ⟨⟨fun h => eventKinds_addEvent_nodup h e, rfl, rfl⟩, rfl, rfl, rfl, rfl, rfl, rfl, id, fun _ _ => id, .of_dock rfl, rfl⟩

theorem raise_safe (e : Event) (s : State) : Safe s (raise e s) := ⟨raise_steady e s, id, id, id⟩

/-- A write to the poll block that leaves what is on its way, but for its settle marks. -/
theorem Safe.of_ports {s t : State} (h : SameBut [.poll] s t)
    (hc : t.poll.coming.map Coming.shape = s.poll.coming.map Coming.shape) (hd : t.dock = s.dock)
    (hh : t.poll.health = s.poll.health := by rfl) : Safe s t :=
  ⟨.of_same (h .events (by decide)) (by rw [show t.advisor = s.advisor from h .advisor (by decide)]) hc hd
    (h .tick (by decide)) hh, .of_frame h (by decide)⟩

theorem predateMark_safe (p : Polled) (s : State) : Safe s (predateMark p s) := by
  have hports : ∀ q : Polled,
      (s.poll.coming.map (fun c => if c.source = q.source then { c with afterMark := false } else c)).map Coming.shape
        = s.poll.coming.map Coming.shape := by
    intro q
    have hpolled : (polledOf q.source).isSome = true := by cases q <;> rfl
    rw [List.map_map]
    refine List.map_congr_left fun c _ => ?_
    by_cases h : c.source = q.source <;> simp [Coming.shape, h, hpolled]
  have hcycle : (s.dock.cycle.map (fun c => { c with afterMark := false })).map Cycle.shape
      = s.dock.cycle.map Cycle.shape := by
    rw [Option.map_map]; rfl
  cases p with
  | basa =>
    exact ⟨⟨⟨id, rfl, rfl⟩, hcycle, rfl, rfl, rfl, rfl, rfl, id, fun _ _ => id, ⟨rfl, rfl, rfl, rfl, fun _ => rfl⟩, rfl⟩,
      id, id, id⟩
  | _ => exact ⟨.of_same rfl rfl (hports _) rfl rfl, id, id, id⟩

theorem writeSettle_safe (p : Polled) (mark : Bool) (s : State) : Safe s (writeSettle p mark s) :=
  .of_ports (writeSettle_frame p mark s) rfl rfl

theorem writeCode_safe (p : Polled) (code : Nat) (s : State) : Safe s (writeCode p code s) :=
  .of_ports (writeCode_frame p code s) rfl rfl

theorem renewNext_safe (p : Polled) (s : State) : Safe s (renewNext p s) := .of_ports (renewNext_frame p s) rfl rfl

theorem withdrawPoll_safe (b : Bus) (s : State) : Safe s (withdrawPoll b s) := .of_ports (withdrawPoll_frame b s) rfl rfl

theorem setSettle_safe (p : Polled) (s : State) : Safe s (setSettle p s) := by
  unfold setSettle
  split
  · exact .refl s
  · exact (predateMark_safe p s).trans (writeSettle_safe p true _)

/-! ## Channel 3 and the cadences -/

/-- A GRANT message leaves the CADENCE message that waits. -/
theorem queueGrant_safe (n : Nat) (s : State) : Safe s (queueMessage (.grant n) s) := by
  have hchannel := queueGrant_channel n s
  obtain h | ⟨-, h⟩ := queueMessage_cases (.grant n) s
  · rw [h]; exact .refl s
  · rw [h] at hchannel ⊢
    exact ⟨⟨⟨id, rfl, rfl⟩, rfl, rfl, rfl, rfl, rfl, rfl, id, fun _ _ => id, hchannel, rfl⟩, id, id, id⟩

/-- A cadence handed on takes its due tick and its message with it. -/
theorem handCadence_safe (c : Nat) (s : State) : Safe s (handCadence c s) := by
  have hchannel := (handCadence_grantKept c s).toChannelKept
  let u : State := { s with dock := { s.dock with cadence := c, motionNext := nextPoll (cadencePeriod c) s.tick } }
  have hu : handCadence c s = queueMessage (.cadence c) u := rfl
  obtain h | ⟨-, h⟩ := queueMessage_cases (.cadence c) u
  · rw [hu, h] at hchannel ⊢
    refine ⟨⟨⟨id, rfl, rfl⟩, rfl, rfl, rfl, rfl, rfl, rfl, fun _ => rfl, fun hlink hhalt _ => ?_, hchannel, rfl⟩, id, id, id⟩
    have hopen := congrArg (fun x => x.dock.waiting.cadence) (h.symm.trans (if_pos (by
      rw [show u.linked = true from hlink, show u.dock.halted = false from hhalt]; rfl)))
    exact hopen
  · rw [hu, h] at hchannel ⊢
    exact ⟨⟨⟨id, rfl, rfl⟩, rfl, rfl, rfl, rfl, rfl, rfl, fun _ => rfl, fun _ _ _ => rfl, hchannel, rfl⟩, id, id, id⟩

theorem withdrawIfOff_safe (p : Polled) (s : State) : Safe s (withdrawIfOff p s) := by
  unfold withdrawIfOff
  split
  · split
    · exact withdrawPoll_safe _ s
    · exact .refl s
  · exact .refl s

theorem reschedule_safe (p : Polled) (s : State) : Safe s (reschedule p s) := by
  have hcode := writeCode_safe p (s.chosenCode p) s
  have hnew : ∀ u, Safe u (renewNext p (setSettle p (withdrawIfOff p u))) := fun u =>
    ((withdrawIfOff_safe p u).trans (setSettle_safe p _)).trans (renewNext_safe p _)
  unfold reschedule
  dsimp only
  split <;> split
  · exact hcode.trans (handCadence_safe _ _)
  · exact (hcode.trans (hnew _)).trans (handCadence_safe _ _)
  · exact hcode
  · exact hcode.trans (hnew _)

theorem recomputeCadences_safe (s : State) : Safe s (recomputeCadences s) :=
  ((((((reschedule_safe .lida s).trans (reschedule_safe .lidg _)).trans (reschedule_safe .als _)).trans
    (reschedule_safe .coil _)).trans (reschedule_safe .pcel _)).trans (reschedule_safe .ctmp _)).trans
    (reschedule_safe .basa _)

/-! ## The Sleep Advisor -/

theorem advise_steady (n : Nat) {s : State} (h : s.advisor.platform = .awake) : Steady s (advise n s) :=
  (raise_steady (.sleepAdvice .advise n) s).trans (.of_same rfl (by rw [raise_advisor, h]; rfl) rfl rfl rfl)

theorem sleepEvaluate_steady (s : State) : Steady s (sleepEvaluate s) := by
  have hrearm : Steady s (rearm s) := .of_same rfl rfl rfl rfl rfl
  unfold sleepEvaluate
  split
  · next hawake =>
    dsimp only
    split
    · exact hrearm.trans (advise_steady _ hawake)
    · exact .of_same rfl rfl rfl rfl rfl
  · exact .refl s

/-- An evaluation leaves the part power, and the platform ASLEEP or not. -/
theorem sleepEvaluate_platform (s : State) :
    ((sleepEvaluate s).advisor.platform = .asleep ↔ s.advisor.platform = .asleep)
      ∧ (sleepEvaluate s).advisor.power = s.advisor.power := by
  unfold sleepEvaluate
  split
  · next hawake =>
    dsimp only
    split
    · exact ⟨by rw [hawake]; exact ⟨nofun, nofun⟩, rfl⟩
    · exact ⟨Iff.rfl, rfl⟩
  · exact ⟨Iff.rfl, rfl⟩

theorem sleepEvaluate_safe (s : State) : Safe s (sleepEvaluate s) :=
  have hplatform := sleepEvaluate_platform s
  ⟨sleepEvaluate_steady s, .of_advice (sleepEvaluate_frame s) (sleepEvaluate_held s) hplatform.1 hplatform.2
    (sleepEvaluate_steady s).hostUp⟩

/-- Advice ends in ADVISED only. -/
theorem endAdvice_safe {s : State} (h : s.advisor.platform = .advised) : Safe s (endAdvice s) := by
  let u : State := { s with advisor := { s.advisor with platform := .awake, advising := none, adviceTimer := none } }
  have hu : Steady s u := .of_same rfl (by rw [h]; rfl) rfl rfl rfl
  have hframe : SameBut adviceBlocks s u := by
    intro b hb
    cases b <;> first | rfl | exact absurd (by decide) hb
  have hg : Guarded s u :=
    .of_advice hframe ⟨rfl, rfl, rfl, rfl, rfl, rfl, rfl⟩ (by rw [h]; exact ⟨nofun, nofun⟩) rfl hu.hostUp
  exact (Safe.mk hu hg).trans (sleepEvaluate_safe u)

theorem setArmed_safe (n : Nat) (armed : Bool) (s : State) : Safe s (setArmed n armed s) :=
  ⟨.of_same rfl rfl rfl rfl rfl, id, id, id⟩

theorem retestAdvice_safe {s : State} (h : s.advisor.platform = .advised) : Safe s (retestAdvice s) := by
  unfold retestAdvice
  split
  · exact .refl s
  · split
    · exact .refl s
    · exact ((raise_safe _ s).trans (setArmed_safe _ true _)).trans (endAdvice_safe h)

theorem timeOutAdvice_safe {s : State} (h : s.advisor.platform = .advised) : Safe s (timeOutAdvice s) := by
  unfold timeOutAdvice
  split
  · exact .refl s
  · exact (raise_safe _ s).trans (endAdvice_safe h)

theorem repower_steady (s : State) : Steady s (repower s) := by
  unfold repower
  split
  · exact .refl s
  · exact Steady.trans (t := { s with advisor := { s.advisor with power := s.choosePower } })
      (.of_same rfl rfl rfl rfl rfl) (recomputeCadences_safe _).steady

/-- The part power that a recomputation chooses depends on nothing that the recomputation writes. -/
theorem repower_choosePower (s : State) : (repower s).choosePower = s.choosePower := by
  unfold State.choosePower; rw [repower_advisor]

/-- After a recomputation of the part power the copies agree wherever they did but for the power. -/
theorem repower_copies {s : State} (hp : s.advisor.heldPosture = s.posture.posture) (ho : s.orient.posture = s.posture.posture)
    (hd : s.advisor.heldDock = s.dock.state) (hpp : s.advisor.penPresent = decide (s.pen.state ≠ .absent))
    (hpc : s.advisor.penCharging = decide (s.pen.state = .charging))
    (hl : s.advisor.latchLocked = decide (s.latch.state = .locked)) : (repower s).CopiesAgree := by
  have hf := repower_frame s
  have hpen : (repower s).pen = s.pen := hf .pen (by decide)
  have hposture : (repower s).posture = s.posture := hf .posture (by decide)
  have horient : (repower s).orient = s.orient := hf .orient (by decide)
  have hlatch : (repower s).latch = s.latch := hf .latch (by decide)
  have hstate : (repower s).dock.state = s.dock.state := hf.dock_state (by decide)
  unfold State.CopiesAgree
  rw [repower_choosePower, repower_advisor, hposture, horient, hstate, hpen, hlatch]
  exact ⟨hp, ho, hd, hpp, hpc, hl, rfl⟩

/-- A recomputation of the part power keeps the supply in step and the coil guarded. -/
theorem repower_keeps (s : State) :
    (s.Allocated → (repower s).Allocated) ∧ (s.CoilGuarded → (repower s).CoilGuarded) := by
  have hf := repower_frame s
  have hpen : (repower s).pen = s.pen := hf .pen (by decide)
  have hsupply : (repower s).supply = s.supply := hf .supply (by decide)
  have hparams : (repower s).params = s.params := hf .params (by decide)
  refine ⟨?_, ?_⟩
  · unfold State.Allocated State.budgetInForce State.param; rw [hsupply, hparams, (repower_steady s).hostUp]; exact id
  · unfold State.CoilGuarded; rw [hpen]; exact id

/-- A recomputation of the part power: the copies stay in agreement. -/
theorem repower_safe (s : State) : Safe s (repower s) :=
  ⟨repower_steady s, (repower_keeps s).1, fun ⟨hp, ho, hd, hpp, hpc, hl, _⟩ => repower_copies hp ho hd hpp hpc hl,
    (repower_keeps s).2⟩

theorem takeCause_safe (c : WakeCause) (s : State) : Safe s (takeCause c s) := by
  unfold takeCause
  split
  · next hasleep =>
    split
    · exact .refl s
    · next n _ =>
      let u : State := { raise (.wake c n) s with advisor := { (raise (.wake c n) s).advisor with platform := .waking } }
      have hup : u.advisor.platform.hostUp = s.advisor.platform.hostUp := by rw [hasleep]; rfl
      have hu : Steady s u := (raise_steady (.wake c n) s).trans (.of_same rfl hup rfl rfl rfl)
      refine ⟨hu.trans (repower_steady u), fun h => (repower_keeps u).1 ?_,
        fun ⟨hp, ho, hd, hpp, hpc, hl, _⟩ => repower_copies (s := u) hp ho hd hpp hpc hl,
        fun h => (repower_keeps u).2 h⟩
      unfold State.Allocated State.budgetInForce at h ⊢
      rw [hup]; exact h
  · exact .refl s

theorem advisorTakes_safe (changed activity : Bool) (cause : Option WakeCause) (s : State) :
    Safe s (advisorTakes changed activity cause s) := by
  have hactive : Safe s (if activity then { s with advisor := { s.advisor with lastActivity := s.tick } } else s) := by
    split
    · exact ⟨.of_same rfl rfl rfl rfl rfl, id, id, id⟩
    · exact .refl s
  unfold advisorTakes
  dsimp only
  split
  · split
    · exact hactive.trans (sleepEvaluate_safe _)
    · exact hactive
  · next hadvised =>
    split
    · exact hactive.trans (retestAdvice_safe hadvised)
    · exact hactive
  · split
    · exact hactive
    · exact hactive.trans (takeCause_safe _ _)
  · exact hactive

theorem reportMotion_safe (s : State) : Safe s (reportMotion s) := advisorTakes_safe _ _ _ s

/-- A copy handed to the Advisor, followed by the choice of the part power. -/
theorem hold_steady {s u : State} (hevents : u.host.events = s.host.events)
    (hplatform : u.advisor.platform = s.advisor.platform) (hpoll : u.poll = s.poll) (hdock : u.dock = s.dock)
    (htick : u.tick = s.tick) : Steady s (repower u) :=
  (Steady.of_same hevents (by rw [hplatform]) (by rw [hpoll]) hdock htick (by rw [hpoll])).trans (repower_steady u)

theorem holdDock_steady (d : DockState) (s : State) : Steady s (holdDock d s) := hold_steady rfl rfl rfl rfl rfl

theorem holdLatch_steady (locked : Bool) (s : State) : Steady s (holdLatch locked s) := hold_steady rfl rfl rfl rfl rfl

theorem holdPenCharging_steady (charging : Bool) (s : State) : Steady s (holdPenCharging charging s) :=
  hold_steady rfl rfl rfl rfl rfl

/-! ## The Batch Store -/

theorem enterBank_safe (i : BankId) (n : Nat) (r : Sample) (s : State) : Safe s (enterBank i n r s) := by
  have hbank : ∀ b : Bank, Safe s (clearGap r.source (writeBank i b s)) := fun b =>
    .of_frame ((writeBank_frame i b s).seq (clearGap_frame _ _) (m := [.batch, .gaps]) (by decide) (by decide)) (by decide)
  unfold enterBank
  dsimp only
  split
  · exact ((hbank _).trans (raise_safe _ _)).trans (advisorTakes_safe _ _ _ _)
  · exact hbank _

theorem overflowBatch_safe (n : Nat) (r : Sample) (s : State) : Safe s (overflowBatch n r s) := by
  unfold overflowBatch
  split
  · exact (Safe.of_frame (beginFill_frame _ _ s) (by decide)).trans (enterBank_safe _ _ _ _)
  · exact (Safe.of_frame (writeBank_frame _ _ s) (by decide)).trans (raise_safe _ _)

theorem offerBatch_safe (n : Nat) (r : Sample) (s : State) : Safe s (offerBatch n r s) := by
  unfold offerBatch
  split
  · exact enterBank_safe _ _ _ s
  · split
    · exact (Safe.of_frame (beginFill_frame _ _ s) (by decide)).trans (enterBank_safe _ _ _ _)
    · exact overflowBatch_safe _ _ s

/-! ## The Orientation Tracker -/

theorem changeOrientation_safe (k : Orientation) (why : OrientReason) (s : State) : Safe s (changeOrientation k why s) :=
  Safe.trans (t := { s with orient := { s.orient with current := k, candidate := none, dwell := none } })
    ⟨.of_same rfl rfl rfl rfl rfl, id, id, id⟩ (raise_safe _ _)

theorem clearRotation_safe (s : State) : Safe s (clearRotation s) := ⟨.of_same rfl rfl rfl rfl rfl, id, id, id⟩

theorem reportRotation_safe (s : State) : Safe s (reportRotation s) := advisorTakes_safe _ _ _ s

theorem adoptOrientation_safe (k : Orientation) (s : State) : Safe s (adoptOrientation k s) :=
  (changeOrientation_safe k .rotated s).trans (reportRotation_safe _)

theorem judgeRotation_safe (o : Angle) (s : State) : Safe s (judgeRotation o s) := by
  unfold judgeRotation
  split
  · exact clearRotation_safe s
  · split
    · exact clearRotation_safe s
    · split
      · exact .refl s
      · unfold beginRotation
        split
        · exact adoptOrientation_safe _ s
        · exact ⟨.of_same rfl rfl rfl rfl rfl, id, id, id⟩

theorem takeOrientation_safe (o : Angle) (s : State) : Safe s (takeOrientation o s) := by
  have hheld : Safe s { s with orient := { s.orient with heldO := some o, heldFlat := false } } :=
    ⟨.of_same rfl rfl rfl rfl rfl, id, id, id⟩
  unfold takeOrientation
  dsimp only
  split
  · exact hheld
  · exact hheld.trans (judgeRotation_safe o _)

theorem takeFlat_safe (s : State) : Safe s (takeFlat s) := ⟨.of_same rfl rfl rfl rfl rfl, id, id, id⟩

theorem applyOrientTable_safe (table : PerPosture AllowedSet) (s : State) : Safe s (applyOrientTable table s) := by
  have happlied : Safe s (clearRotation { s with orient := { s.orient with table := table } }) :=
    ⟨.of_same rfl rfl rfl rfl rfl, id, id, id⟩
  unfold applyOrientTable
  dsimp only
  split
  · exact (happlied.trans (changeOrientation_safe _ _ _)).trans (advisorTakes_safe _ _ _ _)
  · exact happlied

theorem lockRotation_safe (on : Bool) (s : State) : Safe s (lockRotation on s) := by
  have hlocked : Safe s { s with orient := { s.orient with locked := on } } :=
    ⟨.of_same rfl rfl rfl rfl rfl, id, id, id⟩
  unfold lockRotation
  split
  · exact .refl s
  · dsimp only
    split
    · exact hlocked.trans (clearRotation_safe _)
    · split
      · split
        · exact hlocked
        · exact hlocked.trans (judgeRotation_safe _ _)
      · exact hlocked

theorem expireRotation_safe (s : State) : Safe s (expireRotation s) := by
  unfold expireRotation
  split
  · exact adoptOrientation_safe _ s
  · exact clearRotation_safe s

/-! ## The Posture Classifier -/

/-- The tracker of a posture told to it. -/
theorem trackPosture_posture (p : Posture) (s : State) : (trackPosture p s).orient.posture = p := by
  unfold trackPosture
  dsimp only
  split
  · rfl
  · split
    · split <;> rfl
    · rfl

theorem trackPosture_steady (p : Posture) (s : State) : Steady s (trackPosture p s) := by
  have htold : Steady s { s with orient := { s.orient with posture := p } } := .of_same rfl rfl rfl rfl rfl
  unfold trackPosture
  dsimp only
  split
  · exact htold.trans (changeOrientation_safe _ _ _).steady
  · split
    · split
      · exact htold
      · exact htold.trans (clearRotation_safe _).steady
    · exact htold

/-- A change of posture is handed to the tracker and to the Advisor before anything reads their copies. -/
theorem changePosture_safe (p : Posture) (row : Option Nat) (s : State) : Safe s (changePosture p row s) := by
  let s1 : State := { s with posture := { s.posture with posture := p, row := row, candidate := none, dwell := none } }
  let s2 := raise (.posture p s1.posture.heldHf row) s1
  let s3 := trackPosture p s2
  let s4 := holdPosture p s3
  have hf : SameBut [.orient, .events] s2 s3 := trackPosture_frame p s2
  have hadvisor : s3.advisor = s.advisor := hf .advisor (by decide)
  have hsupply : s3.supply = s.supply := hf .supply (by decide)
  have hparams : s3.params = s.params := hf .params (by decide)
  have hpen : s3.pen = s.pen := hf .pen (by decide)
  have hlatch : s3.latch = s.latch := hf .latch (by decide)
  have hposture : s3.posture = s1.posture := hf .posture (by decide)
  have hstate : s3.dock.state = s.dock.state := hf.dock_state (by decide)
  have hsteady : Steady s s4 :=
    (((Steady.of_same (s := s) (t := s1) rfl rfl rfl rfl rfl).trans (raise_steady _ s1)).trans
      (trackPosture_steady p s2)).trans (.of_same rfl rfl rfl rfl rfl)
  have hguarded : Guarded s s4 := by
    refine ⟨?_, ?_, ?_⟩
    · unfold State.Allocated State.budgetInForce State.param
      rw [hsteady.hostUp, show s4.supply = s.supply from hsupply, show s4.params = s.params from hparams]; exact id
    · rintro ⟨-, -, hd, hpp, hpc, hl, hpower⟩
      refine ⟨(congrArg PostureBlock.posture hposture).symm, (trackPosture_posture p s2).trans
        (congrArg PostureBlock.posture hposture).symm, ?_, ?_, ?_, ?_, ?_⟩
      · rw [show s4.dock.state = s.dock.state from hstate, ← hd]; exact (congrArg AdvisorBlock.heldDock hadvisor :)
      · rw [show s4.pen = s.pen from hpen, ← hpp]; exact (congrArg AdvisorBlock.penPresent hadvisor :)
      · rw [show s4.pen = s.pen from hpen, ← hpc]; exact (congrArg AdvisorBlock.penCharging hadvisor :)
      · rw [show s4.latch = s.latch from hlatch, ← hl]; exact (congrArg AdvisorBlock.latchLocked hadvisor :)
      · have hchoose : s4.choosePower = s.choosePower := by
          unfold State.choosePower
          simp only [s4, holdPosture, hadvisor]
        rw [hchoose, ← hpower]; exact (congrArg AdvisorBlock.power hadvisor :)
    · unfold State.CoilGuarded; rw [show s4.pen = s.pen from hpen]; exact id
  have hreport := (Safe.mk hsteady hguarded).trans (advisorTakes_safe true true (some .posture) s4)
  unfold changePosture
  dsimp only
  split
  · exact hreport
  · exact hreport.trans (advisorTakes_safe _ _ _ _)

theorem postureAttach_safe (s : State) : Safe s (postureAttach s) :=
  Safe.trans (t := { s with posture := { s.posture with heldHf := none, attached := true } })
    ⟨.of_same rfl rfl rfl rfl rfl, id, id, id⟩ (changePosture_safe _ _ _)

theorem postureDetach_safe (s : State) : Safe s (postureDetach s) :=
  Safe.trans (t := { s with posture := { s.posture with attached := false } })
    ⟨.of_same rfl rfl rfl rfl rfl, id, id, id⟩ (changePosture_safe _ _ _)

theorem clearPosture_safe (s : State) : Safe s (clearPosture s) := ⟨.of_same rfl rfl rfl rfl rfl, id, id, id⟩

theorem chooseCandidate_safe (expiring : Bool) (s : State) : Safe s (chooseCandidate expiring s) := by
  unfold chooseCandidate
  split
  · exact clearPosture_safe s
  · split
    · exact ⟨.of_same rfl rfl rfl rfl rfl, id, id, id⟩
    · split
      · split
        · exact changePosture_safe _ _ s
        · exact .refl s
      · unfold beginPosture
        split
        · exact changePosture_safe _ _ s
        · exact ⟨.of_same rfl rfl rfl rfl rfl, id, id, id⟩

theorem classify_safe (expiring : Bool) (s : State) : Safe s (classify expiring s) := by
  unfold classify
  split
  · exact .refl s
  · split
    · split
      · exact changePosture_safe _ _ s
      · exact .refl s
    · split
      · exact clearPosture_safe s
      · exact chooseCandidate_safe _ s

theorem feedHallClosed_safe (level : Bool) (s : State) : Safe s (feedHallClosed level s) :=
  Safe.trans (t := { s with posture := { s.posture with hallClosed := some level } })
    ⟨.of_same rfl rfl rfl rfl rfl, id, id, id⟩ (classify_safe _ _)

theorem feedHallFolded_safe (level : Bool) (s : State) : Safe s (feedHallFolded level s) :=
  Safe.trans (t := { s with posture := { s.posture with hallFolded := some level } })
    ⟨.of_same rfl rfl rfl rfl rfl, id, id, id⟩ (classify_safe _ _)

theorem takeHinge_safe (hf : Option Angle) (a : Attitude) (s : State) : Safe s (takeHinge hf a s) :=
  Safe.trans (t := { s with posture := { s.posture with heldHf := hf, attitude := a } })
    ⟨.of_same rfl rfl rfl rfl rfl, id, id, id⟩ (classify_safe _ _)

/-! ## The Angle Engine -/

/-- A write to the Angle Engine. -/
theorem angle_safe (a : AngleBlock) (s : State) : Safe s { s with angle := a } := ⟨.of_same rfl rfl rfl rfl rfl, id, id, id⟩

theorem computeHinge_safe (other : Option Vector3) (s : State) : Safe s (computeHinge other s) :=
  (angle_safe _ s).trans (takeHinge_safe _ _ _)

theorem computeOrientation_safe (v : Vector3) (s : State) : Safe s (computeOrientation v s) := by
  unfold computeOrientation
  split
  · exact (angle_safe _ s).trans (takeOrientation_safe _ _)
  · exact (angle_safe _ s).trans (takeFlat_safe _)

theorem feedLid_safe (v : Vector3) (s : State) : Safe s (feedLid v s) :=
  ((angle_safe _ s).trans (computeOrientation_safe v _)).trans (computeHinge_safe _ _)

theorem feedBase_safe (v : Vector3) (s : State) : Safe s (feedBase v s) :=
  (angle_safe _ s).trans (computeHinge_safe _ _)

end Sys2Proof.Machine
end

section
/-! What the pen's operations, the Supply Budget, the release latch and the tables keep (`Safe`), in the order of the Machine
files. -/

namespace Sys2Proof.Machine

-- One theorem after another, as in the model's tests: a theorem that waits for a kernel evaluation holds a thread.
set_option Elab.async false

/-! ## The held copies without the part power -/

/-- The copies that the Advisor and the tracker hold, without the part power. -/
structure State.HeldAgree (s : State) : Prop where
  posture : s.advisor.heldPosture = s.posture.posture
  tracker : s.orient.posture = s.posture.posture
  dock : s.advisor.heldDock = s.dock.state
  present : s.advisor.penPresent = decide (s.pen.state ≠ .absent)
  charging : s.advisor.penCharging = decide (s.pen.state = .charging)
  latch : s.advisor.latchLocked = decide (s.latch.state = .locked)

theorem copiesAgree_iff (s : State) : s.CopiesAgree ↔ s.HeldAgree ∧ s.advisor.power = s.choosePower :=
  ⟨fun ⟨hp, ho, hd, hpp, hpc, hl, h⟩ => ⟨⟨hp, ho, hd, hpp, hpc, hl⟩, h⟩,
    fun ⟨h, hpower⟩ => ⟨h.posture, h.tracker, h.dock, h.present, h.charging, h.latch, hpower⟩⟩

/-- The copies, and the part power, are kept one by one. -/
structure HoldsKept (s t : State) : Prop where
  held : s.HeldAgree → t.HeldAgree
  power : s.advisor.power = s.choosePower → t.advisor.power = t.choosePower

theorem HoldsKept.refl (s : State) : HoldsKept s s := ⟨id, id⟩

theorem HoldsKept.trans {s t u : State} (h : HoldsKept s t) (k : HoldsKept t u) : HoldsKept s u :=
  ⟨fun hs => k.held (h.held hs), fun hs => k.power (h.power hs)⟩

theorem HoldsKept.copies {s t : State} (h : HoldsKept s t) (hs : s.CopiesAgree) : t.CopiesAgree :=
  (copiesAgree_iff t).2 ⟨h.held ((copiesAgree_iff s).1 hs).1, h.power ((copiesAgree_iff s).1 hs).2⟩

theorem HoldsKept.of_frame {l : List Block} {s t : State} (h : SameBut l s t)
    (hl : ∀ b ∈ [Block.advisor, .dockState, .pen, .posture, .orient, .latch], b ∉ l) : HoldsKept s t := by
  have hadvisor : t.advisor = s.advisor := h .advisor (hl _ (by decide))
  have hpen : t.pen = s.pen := h .pen (hl _ (by decide))
  have hposture : t.posture = s.posture := h .posture (hl _ (by decide))
  have horient : t.orient = s.orient := h .orient (hl _ (by decide))
  have hlatch : t.latch = s.latch := h .latch (hl _ (by decide))
  have hstate : t.dock.state = s.dock.state := h.dock_state (hl _ (by decide))
  refine ⟨fun ⟨hp, ho, hd, hpp, hpc, hll⟩ => ?_, ?_⟩
  · constructor <;> simpa only [hadvisor, hpen, hposture, horient, hlatch, hstate]
  · unfold State.choosePower; rw [hadvisor]; exact id

/-! ## Changes of pen state (R115, R116) -/

theorem movePen_steady (dest : PenState) (g : Option Gate) (s : State) : Steady s (movePen dest g s) :=
  .of_same rfl rfl rfl rfl rfl

/-- Leaving and entering CHARGING clear the run, and another change finds the coil off. -/
theorem movePen_coil {dest : PenState} {g : Option Gate} {s : State} (h : s.CoilGuarded) :
    (movePen dest g s).CoilGuarded := by
  intro hdest
  have hne : dest ≠ .charging := hdest
  by_cases hs : s.pen.state = .charging
  · simp [movePen, hs, hne, PenBlock.clearRun]
  · simpa [movePen, hs, hne] using h hs

theorem handPen_steady (source dest : PenState) (s : State) : Steady s (handPen source dest s) := by
  have hcharging : Steady s (if (source = .charging) ↔ (dest = .charging) then s
      else holdPenCharging (decide (dest = .charging)) (recomputeCadences s)) := by
    split
    · exact .refl s
    · exact (recomputeCadences_safe s).steady.trans (holdPenCharging_steady _ _)
  unfold handPen
  dsimp only
  split
  · exact hcharging
  · exact hcharging.trans (.of_same rfl rfl rfl rfl rfl)

/-- What the Advisor holds after a change of pen state is handed on: presence, charging and the part power follow. -/
theorem handPen_advisor (source dest : PenState) (s : State) :
    (handPen source dest s).advisor
        = { s.advisor with
            penCharging :=
              if (source = .charging) ↔ (dest = .charging) then s.advisor.penCharging else decide (dest = .charging)
            penPresent :=
              if (source = .absent) ↔ (dest = .absent) then s.advisor.penPresent else decide (dest ≠ .absent)
            power := (handPen source dest s).advisor.power }
      ∧ (s.advisor.power = s.choosePower → (handPen source dest s).advisor.power = (handPen source dest s).choosePower) := by
  have hrec : (recomputeCadences s).advisor = s.advisor := recomputeCadences_frame s .advisor (by decide)
  by_cases hc : (source = .charging) ↔ (dest = .charging) <;> by_cases ha : (source = .absent) ↔ (dest = .absent)
  · rw [if_pos hc, if_pos ha, handPen, if_pos hc, if_pos ha]
    exact ⟨rfl, id⟩
  · rw [if_pos hc, if_neg ha, handPen, if_pos hc, if_neg ha]
    exact ⟨rfl, id⟩
  · rw [if_neg hc, if_pos ha, handPen, if_neg hc, if_pos ha, holdPenCharging, repower_choosePower, repower_advisor, hrec]
    exact ⟨rfl, fun _ => rfl⟩
  · have hpower : ∀ u : State, (holdPenPresent (decide (dest ≠ .absent)) u).choosePower = u.choosePower := fun _ => rfl
    rw [if_neg hc, if_neg ha, handPen, if_neg hc, if_neg ha, hpower, holdPenPresent, holdPenCharging, repower_choosePower,
      repower_advisor, hrec]
    exact ⟨rfl, fun _ => rfl⟩

/-- The neighbours are told of a change of pen state: copies that agreed with the state left agree with the new one. -/
theorem handPen_holds {source dest : PenState} {s : State} (hdest : s.pen.state = dest) :
    HoldsKept { s with pen := { s.pen with state := source } } (handPen source dest s) := by
  have hf := handPen_frame source dest s
  obtain ⟨hadvisor, hpower⟩ := handPen_advisor source dest s
  refine ⟨fun h => ?_, hpower⟩
  have hpen : (handPen source dest s).pen = s.pen := hf .pen (by decide)
  have hposture : (handPen source dest s).posture = s.posture := hf .posture (by decide)
  have horient : (handPen source dest s).orient = s.orient := hf .orient (by decide)
  have hlatch : (handPen source dest s).latch = s.latch := hf .latch (by decide)
  have hstate : (handPen source dest s).dock.state = s.dock.state := hf.dock_state (by decide)
  have hpresent : s.advisor.penPresent = decide (source ≠ .absent) := h.present
  have hcharging : s.advisor.penCharging = decide (source = .charging) := h.charging
  constructor
  · rw [hadvisor, hposture]; exact h.posture
  · rw [hposture, horient]; exact h.tracker
  · rw [hadvisor, hstate]; exact h.dock
  · rw [hadvisor, hpen, hdest]
    dsimp only
    split
    · next hiff => rw [hpresent]; simp [hiff]
    · rfl
  · rw [hadvisor, hpen, hdest]
    dsimp only
    split
    · next hiff => rw [hcharging]; simp [hiff]
    · rfl
  · rw [hadvisor, hlatch]; exact h.latch

theorem enterPen_holds (dest : PenState) (g : Option Gate) (why : PenReason) (s : State) :
    HoldsKept s (enterPen dest g why s) := by
  have hmove : HoldsKept s { movePen dest g s with pen := { (movePen dest g s).pen with state := s.pen.state } } :=
    ⟨fun h => ⟨h.posture, h.tracker, h.dock, h.present, h.charging, h.latch⟩, id⟩
  exact (hmove.trans (handPen_holds rfl)).trans (.of_frame (raisePen_frame why _) (by decide))

theorem raisePen_safe (why : PenReason) (s : State) : Safe s (raisePen why s) := raise_safe _ s

theorem enterPen_steady (dest : PenState) (g : Option Gate) (why : PenReason) (s : State) :
    Steady s (enterPen dest g why s) :=
  ((movePen_steady dest g s).trans (handPen_steady s.pen.state dest _)).trans (raise_steady _ _)

/-- An operation that leaves supply and parameters, and the host up or down, keeps the allocation. -/
theorem allocated_of_same {s t : State} (supply : t.supply = s.supply) (params : t.params = s.params)
    (hostUp : t.advisor.platform.hostUp = s.advisor.platform.hostUp) (h : s.Allocated) : t.Allocated := by
  unfold State.Allocated State.budgetInForce State.param at h ⊢
  rw [supply, params, hostUp]; exact h

theorem enterPen_safe (dest : PenState) (g : Option Gate) (why : PenReason) (s : State) :
    Safe s (enterPen dest g why s) := by
  have hf := enterPen_frame dest g why s
  refine ⟨enterPen_steady dest g why s,
    allocated_of_same (hf .supply (by decide)) (hf .params (by decide)) (enterPen_steady dest g why s).hostUp,
    (enterPen_holds dest g why s).copies, fun h => ?_⟩
  unfold State.CoilGuarded
  rw [enterPen_pen]
  exact movePen_coil h

theorem pausePen_safe (g : Gate) (s : State) : Safe s (pausePen g s) := enterPen_safe _ _ _ s

theorem openOrPause_safe (why : PenReason) (s : State) : Safe s (openOrPause why s) := by
  unfold openOrPause
  split
  · exact enterPen_safe _ _ _ s
  · exact pausePen_safe _ s

theorem pauseLeading_safe (s : State) : Safe s (pauseLeading s) := by
  unfold pauseLeading
  split
  · exact .refl s
  · exact pausePen_safe _ s

/-- A write to the pen block beside the state and what the coil is driven by. -/
theorem pen_safe (p : PenBlock) (s : State) (state : p.state = s.pen.state := by rfl) (duty : p.duty = s.pen.duty := by rfl)
    (target : p.target = s.pen.target := by rfl) (goodRun : p.goodRun = s.pen.goodRun := by rfl) :
    Safe s { s with pen := p } := by
  refine ⟨.of_same rfl rfl rfl rfl rfl, id, ?_, ?_⟩
  · unfold State.CopiesAgree; dsimp only; rw [state]; exact id
  · unfold State.CoilGuarded; dsimp only; rw [state, duty, target, goodRun]; exact id

theorem pen_holds (p : PenBlock) (s : State) (state : p.state = s.pen.state := by rfl) : HoldsKept s { s with pen := p } := by
  refine ⟨fun h => ⟨h.posture, h.tracker, h.dock, ?_, ?_, h.latch⟩, id⟩ <;> dsimp only <;> rw [state]
  · exact h.present
  · exact h.charging

theorem rereadGates_safe (s : State) : Safe s (rereadGates s) := by
  obtain h | ⟨dest, leading, why, h⟩ | ⟨g, h⟩ := rereadGates_cases s
  · rw [h]; exact .refl s
  · rw [h]; exact enterPen_safe _ _ _ s
  · rw [h]; exact (pen_safe _ _).trans (raisePen_safe _ _)

theorem rereadGates_holds (s : State) : HoldsKept s (rereadGates s) := by
  obtain h | ⟨dest, leading, why, h⟩ | ⟨g, h⟩ := rereadGates_cases s
  · rw [h]; exact .refl s
  · rw [h]; exact enterPen_holds _ _ _ s
  · rw [h]; exact (pen_holds _ _).trans (.of_frame (raisePen_frame _ _) (by decide))

/-! ## The allocation (R137 to R140) -/

/-- A write to the Supply Budget leaves everything but the allocation. -/
theorem supply_steady (x : SupplyBlock) (s : State) : Steady s { s with supply := x } := .of_same rfl rfl rfl rfl rfl

theorem announceGrants_steady (s : State) : Steady s (announceGrants s) := by
  obtain h | h := announceGrants_cases s
  · rw [h]; exact supply_steady _ s
  · rw [h]; exact (supply_steady _ s).trans (raise_steady _ _)

theorem announceGrants_frame (s : State) : SameBut [.supply, .events] s (announceGrants s) := by
  have htake : SameBut [.supply, .events] s (takeGrants s) := by
    intro b hb
    cases b <;> first | rfl | exact absurd (by decide) hb
  obtain h | h := announceGrants_cases s
  · rw [h]; exact htake
  · rw [h]; exact htake.trans ((raise_frame _ _).mono _ (by decide))

/-- A change of PEN grant re-reads the gates; any other leaves the pen. -/
theorem regateGrants_cases (s : State) :
    regateGrants s = announceGrants s ∨ regateGrants s = rereadGates (announceGrants s) := by
  unfold regateGrants
  split
  · exact .inl rfl
  · exact .inr rfl

theorem allocate_steady (s : State) : Steady s (allocate s) := by
  have hregate : Steady s (regateGrants s) := by
    obtain h | h := regateGrants_cases s
    · rw [h]; exact announceGrants_steady s
    · rw [h]; exact (announceGrants_steady s).trans (rereadGates_safe _).steady
  rw [allocate_eq]
  split
  · exact hregate
  · exact hregate.trans (queueGrant_safe _ _).steady

/-- An allocation keeps the copies, and the coil guarded. -/
theorem allocate_keeps (s : State) : HoldsKept s (allocate s) ∧ (s.CoilGuarded → (allocate s).CoilGuarded) := by
  have hholds : HoldsKept s (announceGrants s) := .of_frame (announceGrants_frame s) (by decide)
  have hcoil : s.CoilGuarded → (announceGrants s).CoilGuarded := by
    unfold State.CoilGuarded; rw [announceGrants_pen]; exact id
  have hregate : HoldsKept s (regateGrants s) ∧ (s.CoilGuarded → (regateGrants s).CoilGuarded) := by
    obtain h | h := regateGrants_cases s
    · rw [h]; exact ⟨hholds, hcoil⟩
    · rw [h]
      exact ⟨hholds.trans (rereadGates_holds _), fun hs => (rereadGates_safe _).guarded.coil (hcoil hs)⟩
  have hpen : (allocate s).pen = (regateGrants s).pen := allocate_pen s
  refine ⟨hregate.1.trans (.of_frame (allocate_after_regate s) (by decide)), fun h => ?_⟩
  unfold State.CoilGuarded
  rw [hpen]
  exact hregate.2 h

/-- An allocation of the budget in force leaves the grants as its allocation. -/
theorem allocate_allocated {s : State} (h : s.supply.budget = s.budgetInForce) : (allocate s).Allocated := by
  have hforce : (allocate s).budgetInForce = s.budgetInForce := by
    unfold State.budgetInForce State.param
    rw [(allocate_steady s).hostUp, show (allocate s).params = s.params from allocate_frame s .params (by decide)]
  unfold State.Allocated
  rw [hforce, allocate_supply]
  exact ⟨h, rfl⟩

theorem placeRequests_safe (r : Shares) (s : State) : Safe s (placeRequests r s) := by
  unfold placeRequests
  split
  · exact .refl s
  · let u : State := { s with supply := { s.supply with requests := r } }
    have hkeeps := allocate_keeps u
    exact ⟨(supply_steady _ s).trans (allocate_steady u), fun h => allocate_allocated (s := u) h.1,
      fun h => hkeeps.1.copies h, fun h => hkeeps.2 h⟩

theorem placeRequests_holds (r : Shares) (s : State) : HoldsKept s (placeRequests r s) := by
  unfold placeRequests
  split
  · exact .refl s
  · exact HoldsKept.trans (t := { s with supply := { s.supply with requests := r } })
      ⟨fun h => ⟨h.posture, h.tracker, h.dock, h.present, h.charging, h.latch⟩, id⟩ (allocate_keeps _).1

/-- A pen that is neither PAUSED nor CHARGING does not answer to an allocation. -/
theorem placeRequests_frame_of_other (r : Shares) {s : State} (hpaused : s.pen.state ≠ .paused)
    (hcharging : s.pen.state ≠ .charging) : SameBut [.supply, .events, .dockLink] s (placeRequests r s) := by
  have hregate : ∀ u : State, u.pen.state ≠ .paused → u.pen.state ≠ .charging →
      SameBut [.supply, .events] u (regateGrants u) := by
    intro u hp hc
    have hother : rereadGates (announceGrants u) = announceGrants u :=
      rereadGates_of_other (by rw [announceGrants_pen]; exact hp) (by rw [announceGrants_pen]; exact hc)
    obtain h | h := regateGrants_cases u
    · rw [h]; exact announceGrants_frame u
    · rw [h, hother]; exact announceGrants_frame u
  unfold placeRequests
  split
  · exact .refl _ s
  · have hset : SameBut [.supply, .events, .dockLink] s { s with supply := { s.supply with requests := r } } := by
      intro b hb
      cases b <;> first | rfl | exact absurd (by decide) hb
    exact (hset.trans ((hregate { s with supply := { s.supply with requests := r } } hpaused hcharging).mono _ (by decide))).trans
      ((allocate_after_regate _).mono _ (by decide))

/-- What a renewal of the budget keeps, whatever the budget in force was before. -/
theorem renewBudget_keeps (r : Shares) (s : State) :
    Steady s (renewBudget r s) ∧ HoldsKept s (renewBudget r s) ∧ (s.CoilGuarded → (renewBudget r s).CoilGuarded) := by
  unfold renewBudget
  split
  · exact ⟨.refl s, .refl s, id⟩
  · let u : State := { s with supply := { s.supply with budget := s.budgetInForce, requests := r } }
    have hkeeps := allocate_keeps u
    exact ⟨(supply_steady _ s).trans (allocate_steady u),
      HoldsKept.trans (t := u) ⟨fun h => ⟨h.posture, h.tracker, h.dock, h.present, h.charging, h.latch⟩, id⟩ hkeeps.1,
      fun h => hkeeps.2 h⟩

/-- A renewal brings budget and grants in step, where the grants were those of the old budget. -/
theorem renewBudget_allocated (r : Shares) {s : State}
    (h : s.supply.grants = divideBudget s.supply.budget s.supply.requests) : (renewBudget r s).Allocated := by
  unfold renewBudget
  split
  · next heq => exact ⟨heq.1.symm, h⟩
  · exact allocate_allocated rfl

theorem placePen_safe (n : Nat) (s : State) : Safe s (placePen n s) := placeRequests_safe _ s

theorem placeLatch_safe (n : Nat) (s : State) : Safe s (placeLatch n s) := placeRequests_safe _ s

/-! ## The Charge Controller -/

theorem placeFirst_safe (s : State) : Safe s (placeFirst s) :=
  (pen_safe { s.pen with curveTarget := s.firstCurrent } s).trans (placePen_safe _ _)

/-- Leaving the run for a state without a request: the pen is moved, then the request withdrawn, then the neighbours told. -/
theorem withdrawPen_safe {dest : PenState} (why : PenReason) (s : State) (hpaused : dest ≠ .paused)
    (hcharging : dest ≠ .charging) : Safe s (withdrawPen dest why s) := by
  let m := movePen dest none s
  have hplace : SameBut [.supply, .events, .dockLink] m (placePen 0 m) :=
    placeRequests_frame_of_other _ hpaused hcharging
  have hpen : (placePen 0 m).pen = m.pen := hplace .pen (by decide)
  let back : State := { placePen 0 m with pen := { (placePen 0 m).pen with state := s.pen.state } }
  have hback : HoldsKept s back := by
    have hadvisor : (placePen 0 m).advisor = s.advisor := hplace .advisor (by decide)
    have hposture : (placePen 0 m).posture = s.posture := hplace .posture (by decide)
    have horient : (placePen 0 m).orient = s.orient := hplace .orient (by decide)
    have hlatch : (placePen 0 m).latch = s.latch := hplace .latch (by decide)
    have hstate : (placePen 0 m).dock.state = s.dock.state := hplace.dock_state (by decide)
    refine ⟨fun ⟨hp, ho, hd, hpp, hpc, hll⟩ => ?_, ?_⟩
    · constructor <;> simp only [back, hadvisor, hposture, horient, hlatch, hstate] <;> assumption
    · unfold State.choosePower; simp only [back, hadvisor]; exact id
  have hholds : HoldsKept s (withdrawPen dest why s) :=
    (hback.trans (handPen_holds (congrArg PenBlock.state hpen))).trans (.of_frame (raisePen_frame why _) (by decide))
  have hsteady : Steady s (withdrawPen dest why s) :=
    (((movePen_steady dest none s).trans (placeRequests_safe _ m).steady).trans (handPen_steady _ _ _)).trans
      (raise_steady _ _)
  have hf := handPen_frame s.pen.state dest (placePen 0 m)
  have hlast : (withdrawPen dest why s).pen = m.pen := (hf .pen (by decide)).trans hpen
  refine ⟨hsteady, fun h => ?_, hholds.copies, fun h => ?_⟩
  · exact allocated_of_same (s := placePen 0 m) (hf .supply (by decide)) (hf .params (by decide))
      (handPen_steady _ _ _).hostUp ((placeRequests_safe _ m).guarded.allocated h)
  · unfold State.CoilGuarded; rw [hlast]; exact movePen_coil h

theorem topOff_safe (s : State) : Safe s (topOff s) :=
  (withdrawPen_safe .full s (by decide) (by decide)).trans (pen_safe _ _)

theorem beginRetry_safe (f : PenFault) (s : State) : Safe s (beginRetry f s) := by
  unfold beginRetry
  dsimp only
  split
  · exact (pen_safe _ _).trans (enterPen_safe _ _ _ _)
  · exact (pen_safe _ _).trans (enterPen_safe _ _ _ _)

theorem takeFault_safe (f : PenFault) (s : State) : Safe s (takeFault f s) := by
  have hcount : Safe s { s with pen := { s.pen with faultRecord := some f, faults := min 255 (s.pen.faults + 1) } } :=
    pen_safe _ _
  unfold takeFault
  dsimp only
  split
  · exact hcount.trans (withdrawPen_safe _ _ (by decide) (by decide))
  · exact hcount.trans (beginRetry_safe f _)

/-- Duty and target of a CHARGING pen are no matter of the guard. -/
theorem pen_safe_of_charging {p : PenBlock} {s : State} (state : p.state = .charging) (hs : s.pen.state = .charging) :
    Safe s { s with pen := p } := by
  refine ⟨.of_same rfl rfl rfl rfl rfl, id, ?_, fun _ h => absurd state h⟩
  unfold State.CopiesAgree; dsimp only; rw [state, hs]; exact id

theorem regulate_safe (s : State) : Safe s (regulate s) := by
  have hplace : ∀ c n, Safe s (placePen n { s with pen := { s.pen with curveTarget := c } }) := fun c n =>
    (pen_safe _ _).trans (placePen_safe _ _)
  unfold regulate
  dsimp only
  split
  · next hcharging =>
    refine (hplace (curveTarget s.pen.curve s.pen.cell) (penUnits (curveTarget s.pen.curve s.pen.cell))).trans ?_
    unfold stepCoil
    dsimp only
    split <;> exact pen_safe_of_charging hcharging hcharging
  · exact hplace _ _

theorem checkTopOff_safe (s : State) : Safe s (checkTopOff s) := by
  have htaper : ∀ x, Safe s { s with pen := { s.pen with taperStart := x } } := fun _ => pen_safe _ _
  unfold checkTopOff
  dsimp only
  split
  · exact (htaper _).trans (topOff_safe _)
  · exact (htaper _).trans (regulate_safe _)

theorem checkCoupling_safe (s : State) : Safe s (checkCoupling s) := by
  have hcoupling : ∀ x, Safe s { s with pen := { s.pen with couplingStart := x } } := fun _ => pen_safe _ _
  unfold checkCoupling
  dsimp only
  split
  · exact (hcoupling _).trans (takeFault_safe _ _)
  · exact (hcoupling _).trans (checkTopOff_safe _)

theorem controlPeriod_safe (s : State) : Safe s (controlPeriod s) := by
  unfold controlPeriod
  split
  · exact (pen_safe _ _).trans (pauseLeading_safe _)
  · split
    · exact pauseLeading_safe s
    · unfold checkOvercurrent
      split
      · exact takeFault_safe _ s
      · exact (pen_safe _ _).trans (checkCoupling_safe _)

theorem insertPen_safe (s : State) : Safe s (insertPen s) :=
  (((pen_safe s.pen.forgive s).trans (placeFirst_safe _)).trans (openOrPause_safe .inserted _)).trans
    (advisorTakes_safe true true (some .penIn) _)

theorem removePen_safe (s : State) : Safe s (removePen s) := by
  have hcleared : ∀ shown, Safe s
      { s with pen := { s.pen with faults := shown, retryTimer := none, restTimer := none, restCheck := false } } :=
    fun _ => pen_safe _ _
  exact (((hcleared _).trans (withdrawPen_safe (dest := .absent) .removed _ (by decide) (by decide))).trans
    (pen_safe _ _)).trans (advisorTakes_safe true true (some .penOut) _)

theorem feedPresence_safe (level : Bool) (s : State) : Safe s (feedPresence level s) := by
  unfold feedPresence
  split <;> split
  · exact insertPen_safe s
  · exact .refl s
  · exact .refl s
  · exact removePen_safe s

theorem feedCurrent_safe (v : Value) (t : Tick) (s : State) : Safe s (feedCurrent v t s) := by
  have hstored : Safe s { s with pen := { s.pen with current := some { value := v, timestamp := t } } } :=
    pen_safe _ _
  unfold feedCurrent
  dsimp only
  split
  · exact (hstored.trans (pen_safe _ _)).trans (rereadGates_safe _)
  · exact hstored

theorem feedCell_safe (v : Value) (s : State) : Safe s (feedCell v s) := by
  have hstored : Safe s { s with pen := { s.pen with cell := some v, restCheck := false } } := pen_safe _ _
  unfold feedCell
  dsimp only
  split
  · split
    · exact hstored.trans (topOff_safe _)
    · exact hstored
  · exact .refl s

theorem feedTemp_safe (v : Value) (s : State) : Safe s (feedTemp v s) := by
  have hstored : Safe s { s with pen := { s.pen with temperature := some v } } := pen_safe _ _
  unfold feedTemp
  dsimp only
  split
  · exact hstored.trans (takeFault_safe _ _)
  · exact hstored

theorem inhibitCharge_safe (on : Bool) (s : State) : Safe s (inhibitCharge on s) := by
  unfold inhibitCharge
  split
  · exact .refl s
  · exact (pen_safe _ _).trans (rereadGates_safe _)

theorem clearFaultOf_safe (s : State) : Safe s (clearFaultOf s) := by
  unfold clearFaultOf
  split
  · exact ((pen_safe (s.pen.forgive) _).trans (placeFirst_safe _)).trans (openOrPause_safe _ _)
  · exact .refl s

theorem expireRetry_safe (s : State) : Safe s (expireRetry s) := by
  unfold expireRetry
  split
  · exact pen_safe _ _
  · exact (pen_safe _ _).trans (openOrPause_safe _ _)

theorem endRest_safe (s : State) : Safe s (endRest s) :=
  ((pen_safe { s.pen with restTimer := none, restCheck := true } s).trans (placeFirst_safe _)).trans
    (openOrPause_safe _ _)

/-- The good-run timer stops, the faults forgiven. -/
theorem endGoodRun_safe (s : State) :
    Safe s { s with pen := { s.pen with faults := 0, laterSet := false, used := 0, goodRun := none } } :=
  ⟨.of_same rfl rfl rfl rfl rfl, id, id, fun h hs => ⟨(h hs).1, (h hs).2.1, rfl⟩⟩

/-! ## The release latch -/

/-- A latch state told to the Advisor at once. -/
theorem moveLatch_safe (x : LatchBlock) {s : State} {locked : Bool} (h : locked = decide (x.state = .locked)) :
    Safe s (holdLatch locked { s with latch := x }) := by
  let u : State := { s with latch := x, advisor := { s.advisor with latchLocked := locked } }
  exact ⟨hold_steady (s := s) (u := u) rfl rfl rfl rfl rfl, fun hs => (repower_keeps u).1 hs,
    fun ⟨hp, ho, hd, hpp, hpc, _, _⟩ => repower_copies (s := u) hp ho hd hpp hpc h, fun hs => (repower_keeps u).2 hs⟩

theorem endRelease_safe (o : LatchOutcome) (s : State) : Safe s (endRelease o s) :=
  ((moveLatch_safe latchReset rfl).trans (placeLatch_safe _ _)).trans (raise_safe _ _)

theorem endReleaseIfAny_safe (o : LatchOutcome) (s : State) : Safe s (endReleaseIfAny o s) := by
  unfold endReleaseIfAny
  split
  · exact .refl s
  · exact endRelease_safe o s

/-- A timer of the latch. -/
theorem latch_safe (x : LatchBlock) (s : State) (h : x.state = s.latch.state := by rfl) : Safe s { s with latch := x } := by
  refine ⟨.of_same rfl rfl rfl rfl rfl, id, ?_, id⟩
  unfold State.CopiesAgree; dsimp only; rw [h]; exact id

theorem beginRelease_safe (s : State) : Safe s (beginRelease s) := by
  have hprepared : Safe s (holdLatch false { s with latch := { s.latch with state := .preparing } }) :=
    moveLatch_safe { s.latch with state := .preparing } rfl
  have hrest : ∀ u : State, Safe u
      (advisorTakes false true none { u with latch := { u.latch with preparation := u.timer 32 } }) := fun u =>
    (latch_safe { u.latch with preparation := u.timer 32 } u).trans (advisorTakes_safe _ _ _ _)
  exact (hprepared.trans (placeLatch_safe _ _)).trans (hrest _)

theorem requestRelease_safe {s t : State} (h : requestRelease s = .ok t) : Safe s t := by
  unfold requestRelease at h
  split at h
  · cases h
  · split at h
    · cases h
    · split at h
      · cases h
      · cases h; exact beginRelease_safe s

theorem openLatch_safe {s : State} (h : s.latch.state = .preparing) : Safe s (openLatch s) := by
  refine ⟨.of_same rfl rfl rfl rfl rfl, id, ?_, id⟩
  unfold State.CopiesAgree openLatch; dsimp only; rw [h]; exact id

/-! ## Tables -/

theorem applyPolicy_safe (table : List PolicyRow) (s : State) : Safe s (applyPolicy table s) := by
  have harmed : Safe s (armRows { s with advisor := { s.advisor with table := table } }) :=
    ⟨.of_same rfl rfl rfl rfl rfl, id, id, id⟩
  unfold applyPolicy
  dsimp only
  split
  · exact harmed.trans (sleepEvaluate_safe _)
  · next hadvised => exact harmed.trans (retestAdvice_safe hadvised)
  all_goals exact harmed

/-- New parameters: the budget in force and the LATCH request are renewed before anything else reads them. -/
theorem applyParams_safe (params : List Nat) (s : State) : Safe s (applyParams params s) := by
  let s1 : State := { s with params := params }
  let s2 := renewBudget { s1.supply.requests with latch := s1.latchRequest } s1
  obtain ⟨hsteady, hholds, hcoil⟩ := renewBudget_keeps { s1.supply.requests with latch := s1.latchRequest } s1
  have hs1 : Steady s s1 := .of_same rfl rfl rfl rfl rfl
  have hrenewed : Safe s s2 :=
    ⟨hs1.trans hsteady, fun h => renewBudget_allocated _ h.2, fun h => hholds.copies h, fun h => hcoil h⟩
  unfold applyParams
  dsimp only
  split
  · exact hrenewed
  · exact hrenewed.trans (rereadGates_safe _)

end Sys2Proof.Machine
end

section
/-! What the Dock Controller's operations keep: no second event of a kind, the host up or down, what is on its way to Intake,
and the three invariants (`Calm`); a change of dock state beside the write of the dock itself is `Steady`. -/

namespace Sys2Proof.Machine

-- One theorem after another, as in the model's tests: a theorem that waits for a kernel evaluation holds a thread.
set_option Elab.async false

/-- What a write of the dock keeps too. -/
structure Calm (s t : State) : Prop where
  quiet : Quiet s t
  guarded : Guarded s t

theorem Calm.trans {s t u : State} (h : Calm s t) (k : Calm t u) : Calm s u :=
  ⟨h.quiet.trans k.quiet, h.guarded.trans k.guarded⟩

theorem Calm.refl (s : State) : Calm s s := ⟨(Steady.refl s).toQuiet, .refl s⟩

theorem Safe.calm {s t : State} (h : Safe s t) : Calm s t := ⟨h.steady.toQuiet, h.guarded⟩

/-- A write to the dock beside its state. -/
theorem dock_calm (d : DockBlock) (s : State) (state : d.state = s.dock.state := by rfl) : Calm s { s with dock := d } := by
  refine ⟨⟨id, rfl, rfl⟩, id, ?_, id⟩
  unfold State.CopiesAgree; dsimp only; rw [state]; exact id

/-! ## Changes of dock state (R99) -/

/-- The dock as a change of its state leaves it, before anyone is told. -/
def moveDock (dest : DockState) (s : State) : State :=
  { s with
    dock :=
      { s.dock with
        state := dest, identity := if dest = .detached then none else s.dock.identity, identifyTimer := none
        settleTimer := none, cycle := cycleAfter dest s.dock.cycle } }

theorem changeDock_eq (dest : DockState) (why : DockReason) (s : State) :
    changeDock dest why s = holdDock dest (raise (.dock dest why (moveDock dest s).dock.identity) (moveDock dest s)) := rfl

theorem changeDock_steady (dest : DockState) (why : DockReason) (s : State) :
    Steady (moveDock dest s) (changeDock dest why s) := by
  rw [changeDock_eq]
  exact (raise_steady _ _).trans (holdDock_steady _ _)

/-- The report that follows a change of dock state. -/
theorem enterDock_cases (dest : DockState) (why : DockReason) (s : State) :
    enterDock dest why s = changeDock dest why s
      ∨ ∃ activity cause, enterDock dest why s = advisorTakes true activity cause (changeDock dest why s) := by
  cases dest with
  | attached => exact .inl rfl
  | detached => exact .inr ⟨true, some .dock, rfl⟩
  | _ => exact .inr ⟨false, none, rfl⟩

theorem enterDock_steady (dest : DockState) (why : DockReason) (s : State) :
    Steady (moveDock dest s) (enterDock dest why s) := by
  obtain h | ⟨activity, cause, h⟩ := enterDock_cases dest why s
  · rw [h]; exact changeDock_steady dest why s
  · rw [h]; exact (changeDock_steady dest why s).trans (advisorTakes_safe _ _ _ _).steady

theorem changeDock_calm (dest : DockState) (why : DockReason) (s : State) : Calm s (changeDock dest why s) := by
  have hmove : Quiet s (moveDock dest s) := ⟨id, rfl, rfl⟩
  let v := raise (.dock dest why (moveDock dest s).dock.identity) (moveDock dest s)
  let u : State := { v with advisor := { v.advisor with heldDock := dest } }
  refine ⟨hmove.trans (changeDock_steady dest why s).toQuiet, fun h => (repower_keeps u).1 h,
    fun ⟨hp, ho, _, hpp, hpc, hl, _⟩ => repower_copies (s := u) hp ho rfl hpp hpc hl, fun h => (repower_keeps u).2 h⟩

theorem enterDock_calm (dest : DockState) (why : DockReason) (s : State) : Calm s (enterDock dest why s) := by
  obtain h | ⟨activity, cause, h⟩ := enterDock_cases dest why s
  · rw [h]; exact changeDock_calm dest why s
  · rw [h]; exact (changeDock_calm dest why s).trans (advisorTakes_safe _ _ _ _).calm

/-! ## Keys -/

theorem queueKeys_calm (k : KeySet) (s : State) : Calm s (queueKeys k s) :=
  (dock_calm _ s).trans (advisorTakes_safe false true (some .keys) _).calm

theorem releaseKeys_calm (s : State) : Calm s (releaseKeys s) := by
  unfold releaseKeys
  split
  · exact dock_calm _ s
  · exact .refl s

theorem replayKeys_calm (s : State) : Calm s (replayKeys s) := by
  unfold replayKeys
  dsimp only
  split
  · exact dock_calm _ s
  · split
    · exact dock_calm _ s
    · exact (dock_calm _ s).trans (queueKeys_calm _ _)

/-! ## Departures -/

theorem dropRequests_calm (s : State) : Calm s (dropRequests s) :=
  (dock_calm { s.dock with extraHeld := 0 } s).trans (placeRequests_safe _ _).calm

theorem setGap_calm (src : Source) (s : State) : Calm s (setGap src s) :=
  (Safe.of_frame (setGap_frame src s) (by decide)).calm

theorem stopChannels_calm (s : State) : Calm s (stopChannels s) := (dock_calm _ s).trans (setGap_calm _ _)

theorem discardBase_calm (s : State) : Calm s (discardBase s) := (angle_safe _ s).calm

theorem clearFilter_calm (s : State) : Calm s (clearFilter s) := (angle_safe _ s).calm

theorem depart_calm (dest : DockState) (why : DockReason) (s : State) : Calm s (depart dest why s) := by
  have hkeys : ∀ u, Calm s u → Calm s
      (discardBase (stopChannels (dropRequests { u with dock := { u.dock with remembered := none } }))) := fun u h =>
    (((h.trans (dock_calm { u.dock with remembered := none } u)).trans (dropRequests_calm _)).trans
      (stopChannels_calm _)).trans (discardBase_calm _)
  have hentered := enterDock_calm dest why s
  unfold depart
  dsimp only
  split
  · exact ((hkeys _ (hentered.trans (releaseKeys_calm _))).trans (postureDetach_safe _).calm).trans
      (endReleaseIfAny_safe _ _).calm
  · exact (hkeys _ hentered).trans (endReleaseIfAny_safe _ _).calm

theorem leaveDock_calm (dest : DockState) (why : DockReason) (s : State) : Calm s (leaveDock dest why s) := by
  unfold leaveDock
  split
  · exact depart_calm dest why s
  · exact enterDock_calm dest why s

theorem loseDock_calm (why : DockReason) (s : State) : Calm s (loseDock why s) := by
  unfold loseDock
  split
  · exact leaveDock_calm _ _ s
  · exact (endRelease_safe _ s).calm.trans (leaveDock_calm _ _ _)

theorem feedSense_calm (level : Bool) (s : State) : Calm s (feedSense level s) := by
  unfold feedSense
  split <;> split
  · exact (dock_calm _ s).trans (enterDock_calm _ _ _)
  · exact .refl s
  · exact .refl s
  · exact loseDock_calm _ s

/-! ## The way to ATTACHED -/

theorem enterIdentifying_calm (s : State) : Calm s (enterIdentifying s) :=
  (enterDock_calm .identifying .none s).trans (dock_calm _ _)

theorem failAttempt_calm (s : State) : Calm s (failAttempt s) := by
  unfold failAttempt
  split
  · exact (dock_calm _ s).trans (enterDock_calm _ _ _)
  · exact enterDock_calm _ _ s

theorem enterAttached_calm (s : State) : Calm s (enterAttached s) := by
  have hextra : ∀ u : State, Calm u (advisorTakes true true (some .dock) (placeExtra u.dock.extraHeld u)) := fun u =>
    ((placeRequests_safe _ u).trans (advisorTakes_safe _ _ _ _)).calm
  exact ((((changeDock_calm .attached .none s).trans (clearFilter_calm _)).trans (postureAttach_safe _).calm).trans
    (replayKeys_calm _)).trans (hextra _)

theorem startMotion_calm (accelerometer : Bool) (s : State) : Calm s (startMotion accelerometer s) := by
  have hrun : ∀ next : Option Tick,
      Calm s { s with dock := { s.dock with motionRunning := accelerometer, motionNext := next } } := fun _ => dock_calm _ s
  unfold startMotion
  dsimp only
  split
  · exact (hrun _).trans (setSettle_safe _ _).calm
  · exact hrun _

theorem queueMessage_calm (m : OutMessage) (s : State) : Calm s (queueMessage m s) := by
  unfold queueMessage
  split
  · exact dock_calm _ s
  · exact .refl s

theorem enterSettling_calm (i : Identity) (s : State) : Calm s (enterSettling i s) := by
  have hbase : ∀ u : State, Calm u (placeBase i.baseline { u with dock := { u.dock with cycles := 0, extraHeld := 0 } }) :=
    fun u => (dock_calm _ u).trans (placeRequests_safe _ _).calm
  have hmessages : ∀ u : State, Calm u (startMotion i.accelerometer
      (queueMessage (.cadence u.dock.cadence) (queueMessage (.grant u.grantTotal) u))) := fun u =>
    ((queueMessage_calm _ u).trans (queueMessage_calm _ _)).trans (startMotion_calm _ _)
  have hstarted := ((((dock_calm { s.dock with identity := some i } s).trans (enterDock_calm .settling .none _)).trans
    (hbase _)).trans (hmessages _))
  unfold enterSettling
  dsimp only
  split
  · exact hstarted.trans (enterAttached_calm _)
  · exact hstarted.trans (dock_calm _ _)

/-! ## Exchanges -/

theorem takePower_calm (n : Nat) (s : State) : Calm s (takePower n s) := by
  have hheld : Calm s { s with dock := { s.dock with extraHeld := min n s.extraLimit } } := dock_calm _ s
  unfold takePower
  dsimp only
  split
  · exact hheld.trans (placeRequests_safe _ _).calm
  · exact hheld

theorem takeButton_safe (s : State) : Safe s (takeButton s) := by
  unfold takeButton
  split
  · split
    · next h => exact requestRelease_safe h
    · exact .refl s
  · exact advisorTakes_safe _ _ _ s

theorem countFailure_calm (s : State) : Calm s (countFailure s) := by
  have hcount : Calm s { s with dock := { s.dock with silence := s.dock.silence + 1 } } := dock_calm _ s
  unfold countFailure
  dsimp only
  split
  · exact hcount.trans (loseDock_calm _ _)
  · exact hcount

theorem takeStall_calm (s : State) : Calm s (takeStall s) := by
  unfold takeStall
  split
  · exact failAttempt_calm s
  · split
    · split
      · exact (dock_calm _ s).trans (depart_calm _ _ _)
      · exact depart_calm _ _ s
    · exact .refl s

theorem goodExchange_calm (s : State) : Calm s (goodExchange s) := dock_calm _ s

theorem flipToggle_calm (c : Channel) (s : State) : Calm s (flipToggle c s) := dock_calm _ s

theorem sendFrame_calm (f : List Byte) (s : State) : Calm s (sendFrame f s) := dock_calm _ s

theorem resolveOutput_calm (j : Judged) (s : State) : Calm s (resolveOutput j s) := by
  cases j with
  | ack => exact ((dock_calm { s.dock with outgoing := none } s).trans (flipToggle_calm _ _)).trans (goodExchange_calm _)
  | nak => exact goodExchange_calm s
  | stall => exact dock_calm _ s
  | data toggle m => exact countFailure_calm s
  | failure => exact countFailure_calm s

theorem beginExchange_calm (t : Tick) (c : Channel) (rest : List Channel) (s : State) :
    Calm s (beginExchange t c rest s) := by
  have hload : Calm s (loadOutgoing s) := by
    unfold loadOutgoing
    split
    · exact dock_calm _ s
    · exact .refl s
  unfold beginExchange
  dsimp only
  split
  · exact (hload.trans (sendFrame_calm _ _)).trans (dock_calm _ _)
  · exact (sendFrame_calm _ s).trans (dock_calm _ _)

theorem nextExchange_calm (t : Tick) (channels : List Channel) (s : State) : Calm s (nextExchange t channels s) := by
  induction channels with
  | nil => exact dock_calm _ s
  | cons c rest ih =>
    unfold nextExchange
    split
    · exact beginExchange_calm t c rest s
    · exact ih

theorem dockCycle_calm (s : State) : Calm s (dockCycle s) := by
  unfold dockCycle
  split
  · exact (dock_calm { s.dock with sent := [] } s).trans (nextExchange_calm _ _ _)
  · exact .refl s

end Sys2Proof.Machine
end

section
/-! What arrival at Intake, the sample ports, the Route Engine and the Host Link keep: the Intake FIFO and the Sample Queue
within their bounds, one pending event of a kind, and the three invariants of `Guarded` (`Sound`). -/

namespace Sys2Proof.Machine

-- One theorem after another, as in the model's tests: a theorem that waits for a kernel evaluation holds a thread.
set_option Elab.async false

/-- The invariants but that of the Key Queue are kept. -/
structure Sound (s t : State) : Prop where
  guarded : Guarded s t
  kinds : s.OneEntryPerKind → t.OneEntryPerKind
  queues : s.QueuesBounded → t.QueuesBounded

theorem Sound.trans {s t u : State} (h : Sound s t) (k : Sound t u) : Sound s u :=
  ⟨h.guarded.trans k.guarded, fun hs => k.kinds (h.kinds hs), fun hs => k.queues (h.queues hs)⟩

theorem Sound.refl (s : State) : Sound s s := ⟨.refl s, id, id⟩

/-- Each source once depends on the sources on their way alone. -/
theorem comingOnce_of_shape {s t : State} (h : t.poll.coming.map Coming.shape = s.poll.coming.map Coming.shape)
    (hs : s.ComingOnce) : t.ComingOnce := by
  have hsources : ∀ l : List Coming, l.map Coming.source = (l.map Coming.shape).map Prod.fst := fun l => by
    rw [List.map_map]; rfl
  unfold State.ComingOnce at hs ⊢
  rwa [hsources, h, ← hsources]

theorem sampleCount_of_same {s t : State} (samples : t.host.samples = s.host.samples)
    (transaction : t.host.transaction = s.host.transaction) : t.sampleCount = s.sampleCount := by
  unfold State.sampleCount State.inFlightSamples; rw [samples, transaction]

/-- An operation of the blocks beside Intake, the Sample Queue and the transaction. -/
theorem Calm.sound {l : List Block} {s t : State} (h : Calm s t) (hf : SameBut l s t)
    (hl : ∀ b ∈ [Block.fifo, .samples, .transaction], b ∉ l) : Sound s t := by
  have hfifo : t.intake.fifo = s.intake.fifo := hf .fifo (hl _ (by decide))
  have hsamples : t.host.samples = s.host.samples := hf .samples (hl _ (by decide))
  have htransaction : t.host.transaction = s.host.transaction := hf .transaction (hl _ (by decide))
  refine ⟨h.guarded, fun ⟨hk, hc⟩ => ⟨h.quiet.kinds hk, by rwa [htransaction]⟩, fun ⟨hq, hn, hc⟩ => ⟨?_, ?_, ?_⟩⟩
  · rwa [hfifo]
  · rwa [sampleCount_of_same hsamples htransaction]
  · exact comingOnce_of_shape h.quiet.coming hc

theorem Safe.sound {l : List Block} {s t : State} (h : Safe s t) (hf : SameBut l s t)
    (hl : ∀ b ∈ [Block.fifo, .samples, .transaction], b ∉ l) : Sound s t := h.calm.sound hf hl

/-- A write beside everything the invariants speak of. -/
theorem Sound.of_frame {l : List Block} {s t : State} (h : SameBut l s t)
    (hl : ∀ b ∈ [Block.params, .advisor, .dockState, .supply, .pen, .posture, .orient, .latch, .events, .poll, .fifo,
      .samples, .transaction], b ∉ l) : Sound s t := by
  have hpoll : t.poll = s.poll := h .poll (hl _ (by decide))
  have hevents : t.host.events = s.host.events := h .events (hl _ (by decide))
  have hadvisor : t.advisor = s.advisor := h .advisor (hl _ (by decide))
  exact Calm.sound ⟨⟨by rw [hevents]; exact id, by rw [hadvisor], by rw [hpoll]⟩,
    .of_frame h (fun b hb => hl b (by revert b; decide))⟩ h (fun b hb => hl b (by revert b; decide))

/-! ## Arrival at Intake (R2, R17) -/

theorem setGap_sound (src : Source) (s : State) : Sound s (setGap src s) := .of_frame (setGap_frame src s) (by decide)

theorem arrive_sound (src : Source) (v : Values) (u : Bool) (c : Option Polled) (s : State) :
    Sound s (arrive src v u c s) := by
  have happend : ∀ r : Sample, s.intake.fifo.length < 16 →
      Sound s { s with intake := { s.intake with fifo := s.intake.fifo ++ [r] } } := fun r h =>
    ⟨⟨id, id, id⟩, id, fun ⟨_, hn, hc⟩ => ⟨by simp only [List.length_append, List.length_singleton]; omega, hn, hc⟩⟩
  unfold arrive
  split
  · next h =>
    cases c with
    | none => exact happend _ h
    | some p => exact (happend _ h).trans ((writeSettle_safe p false _).sound (writeSettle_frame p false _) (by decide))
  · exact setGap_sound src s

theorem arrivePolled_sound (p : Polled) (v : Values) (m : Bool) (s : State) : Sound s (arrivePolled p v m s) := by
  unfold arrivePolled
  split <;> exact arrive_sound _ _ _ _ s

theorem landOne_sound (c : Coming) (s : State) : Sound s (landOne c s) := by
  unfold landOne
  split
  · exact .refl s
  · exact arrivePolled_sound _ _ _ s
  · exact arrive_sound _ _ _ _ s

theorem landAll_sound (coming : List Coming) (s : State) : Sound s (landAll coming s) := by
  unfold landAll
  induction coming generalizing s with
  | nil => exact .refl s
  | cons c rest ih => exact (landOne_sound c s).trans (ih _)

/-- An order of arrival in which each source stands once. -/
theorem writeComing_sound {coming : List Coming} {s : State}
    (h : s.ComingOnce → (coming.map Coming.source).Nodup) : Sound s (writeComing coming s) :=
  ⟨.of_frame (writeComing_frame coming s) (by decide), id, fun ⟨hq, hn, hc⟩ => ⟨hq, hn, h hc⟩⟩

/-- Part of the order of arrival stays. -/
theorem writeComing_sound_of_sublist {coming : List Coming} {s : State} (h : coming.Sublist s.poll.coming) :
    Sound s (writeComing coming s) :=
  writeComing_sound fun hc => hc.sublist (h.map _)

theorem landReady_sound (s : State) : Sound s (landReady s) :=
  (writeComing_sound_of_sublist (List.dropWhile_sublist _)).trans (landAll_sound _ _)

theorem landRest_sound (s : State) : Sound s (landRest s) :=
  (writeComing_sound_of_sublist (List.nil_sublist _)).trans (landAll_sound _ _)

theorem arriveInTurn_sound (src : Source) {bring : State → State} (h : ∀ s, Sound s (bring s)) (s : State) :
    Sound s (arriveInTurn src bring s) := by
  unfold arriveInTurn
  split
  · exact h s
  · next place behind hdrop =>
    have hbehind : behind.Sublist s.poll.coming :=
      (List.sublist_cons_self place behind).trans (hdrop ▸ List.dropWhile_sublist _)
    exact (((writeComing_sound_of_sublist hbehind).trans (landAll_sound _ _)).trans (h _)).trans (landReady_sound _)

/-! ## The Sensor Bus -/

/-- A write to the poll block that leaves what is on its way. -/
theorem ports_sound {s t : State} (h : SameBut [.poll] s t) (hc : t.poll.coming = s.poll.coming) : Sound s t :=
  Calm.sound ⟨⟨by rw [show t.host.events = s.host.events from h .events (by decide)]; exact id,
    by rw [show t.advisor = s.advisor from h .advisor (by decide)], by rw [hc]⟩, .of_frame h (by decide)⟩ h (by decide)

theorem writeHealth_sound (b : Bus) (x : BusHealth) (s : State) : Sound s (writeHealth b x s) :=
  ports_sound (writeHealth_frame b x s) rfl

theorem freeBus_sound (s : State) : Sound s (freeBus s) :=
  ports_sound (freeBus_frame s) rfl

theorem raise_sound (e : Event) (s : State) : Sound s (raise e s) := (raise_safe e s).sound (raise_frame e s) (by decide)

theorem renewNext_sound (p : Polled) (s : State) : Sound s (renewNext p s) :=
  (renewNext_safe p s).sound (renewNext_frame p s) (by decide)

theorem withdrawPoll_sound (b : Bus) (s : State) : Sound s (withdrawPoll b s) :=
  (withdrawPoll_safe b s).sound (withdrawPoll_frame b s) (by decide)

theorem failPoll_sound (b : Bus) (s : State) : Sound s (failPoll b s) := by
  have hfreed : Sound s (setGap b.source (freeBus s)) := (freeBus_sound s).trans (setGap_sound _ _)
  unfold failPoll
  dsimp only
  split
  · exact hfreed
  · split
    · exact hfreed.trans (writeHealth_sound _ _ _)
    · exact (((hfreed.trans (writeHealth_sound _ _ _)).trans (raise_sound _ _)).trans (renewNext_sound _ _)).trans
        (withdrawPoll_sound _ _)

theorem succeedPoll_sound (p : BusPoll) (r : SensorReading) (s : State) : Sound s (succeedPoll p r s) := by
  have hfreed := freeBus_sound s
  unfold succeedPoll
  dsimp only
  split
  · exact (((hfreed.trans (writeHealth_sound _ _ _)).trans (raise_sound _ _)).trans
      (arriveInTurn_sound _ (arrive_sound _ _ _ _) _)).trans (renewNext_sound _ _)
  · exact (hfreed.trans (writeHealth_sound _ _ _)).trans (arriveInTurn_sound _ (arrivePolled_sound _ _ _) _)

/-- A write to the poll block that leaves what is on its way. -/
theorem startPoll_frame (s : State) : SameBut [.poll] s (startPoll s) := by
  intro b hb
  unfold startPoll
  split <;> (cases b <;> first | rfl | exact absurd (by decide) hb)

theorem startPoll_sound (s : State) : Sound s (startPoll s) := by
  have hcoming : (startPoll s).poll.coming = s.poll.coming := by
    unfold startPoll; split <;> rfl
  exact ports_sound (startPoll_frame s) hcoming

/-! ## A tick boundary -/

theorem joinWaiting_safe (b : Bus) (s : State) : Safe s (joinWaiting b s) := by
  have hdropped : Safe s
      (if s.poll.waiting.any (fun w => w.source = b) then setGap b.source (withdrawPoll b s) else s) := by
    split
    · exact (withdrawPoll_safe b s).trans (.of_frame (setGap_frame _ _) (by decide))
    · exact .refl s
  refine hdropped.trans (Safe.of_ports ?_ rfl rfl)
  intro b hb
  cases b <;> first | rfl | exact absurd (by decide) hb

theorem issueBusPolls_safe (s : State) : Safe s (issueBusPolls s) := by
  have hissue : ∀ b u, Safe u (issueBusPoll b u) := fun b u => by
    unfold issueBusPoll
    split
    · exact (joinWaiting_safe b u).trans (renewNext_safe _ _)
    · exact .refl u
  exact ((hissue _ s).trans (hissue _ _)).trans (hissue _ _)

theorem advanceSchedules_safe (s : State) : Safe s (advanceSchedules s) := by
  have hadvance : ∀ p u, Safe u (advanceSchedule p u) := fun p u => by
    unfold advanceSchedule
    split
    · exact renewNext_safe p u
    · exact .refl u
  exact (((hadvance _ s).trans (hadvance _ _)).trans (hadvance _ _)).trans (hadvance _ _)

theorem addMember_nodup {α : Type} [DecidableEq α] {l : List α} (h : l.Nodup) (m : α) : (addMember l m).Nodup := by
  unfold addMember
  split
  · exact h
  · next hm => exact List.nodup_append.2 ⟨h, List.pairwise_singleton _ _, fun a ha b hb hab => hm (by
      rwa [← List.mem_singleton.1 hb, ← hab])⟩

theorem addMembers_nodup {α : Type} [DecidableEq α] {l : List α} (h : l.Nodup) (new : List α) :
    (addMembers l new).Nodup := by
  unfold addMembers
  induction new generalizing l with
  | nil => exact h
  | cons m rest ih => exact ih (addMember_nodup h m)

theorem arrivalOrder_nodup (arrival : List Source) : (arrivalOrder arrival).Nodup :=
  addMembers_nodup (addMembers_nodup List.nodup_nil arrival) allSources

/-- A place in the order is its source's. -/
theorem comingPlace_source {arrival : List Source} {born : Source → Option Values} {src : Source} {c : Coming}
    (h : comingPlace arrival born src = some c) : c.source = src := by
  unfold comingPlace at h
  cases hb : born src with
  | some v => rw [hb] at h; cases h; rfl
  | none =>
    rw [hb] at h
    cases src <;> simp only [reduceCtorEq, Option.ite_none_right_eq_some] at h
    all_goals obtain ⟨-, h⟩ := h; cases h; rfl

theorem comingPlaces_sources (arrival : List Source) (born : Source → Option Values) (l : List Source) :
    ((l.filterMap (comingPlace arrival born)).map Coming.source).Sublist l := by
  induction l with
  | nil => exact List.Sublist.slnil
  | cons src rest ih =>
    cases h : comingPlace arrival born src with
    | none => rw [List.filterMap_cons_none h]; exact ih.cons src
    | some c =>
      rw [List.filterMap_cons_some h, List.map_cons, comingPlace_source h]
      exact ih.cons_cons src

theorem bringForth_sound (arrival : List Source) (born : Source → Option Values) (s : State) :
    Sound s (bringForth arrival born s) :=
  (writeComing_sound fun _ => (arrivalOrder_nodup arrival).sublist (comingPlaces_sources _ _ _)).trans (landReady_sound _)

theorem samplePorts_sound (levels : LineLevels) (readings : ConverterReadings) (arrival : List Source) (s : State) :
    Sound s (samplePorts levels readings arrival s) :=
  (((Sound.of_frame (observeLines_frame levels s) (by decide)).trans
    ((issueBusPolls_safe _).sound (issueBusPolls_frame _) (by decide))).trans
    ((advanceSchedules_safe _).sound (advanceSchedules_frame _) (by decide))).trans (bringForth_sound _ _ _)

theorem duePeriod_safe (s : State) : Safe s (duePeriod s) := by
  unfold duePeriod
  split
  · exact controlPeriod_safe s
  · exact .refl s

/-- What a TICK makes of the state, the attention line aside. -/
def boundary (levels : LineLevels) (readings : ConverterReadings) (arrival : List Source) (s : State) : State :=
  duePeriod (dockCycle (samplePorts levels readings arrival (countTick (landRest s))))

theorem boundary_sound (levels : LineLevels) (readings : ConverterReadings) (arrival : List Source) (s : State) :
    Sound s (boundary levels readings arrival s) :=
  ((((landRest_sound s).trans (Sound.of_frame (countTick_frame _) (by decide))).trans (samplePorts_sound _ _ _ _)).trans
    ((dockCycle_calm _).sound (dockCycle_frame _) (by decide))).trans ((duePeriod_safe _).sound (duePeriod_frame _) (by decide))

/-! ## Exchanges of the Dock Link -/

theorem takeMessage_sound (after : Bool) (m : InMessage) (s : State) : Sound s (takeMessage after m s) := by
  cases m with
  | ident i =>
    unfold takeMessage
    dsimp only
    split
    · exact (enterSettling_calm i s).sound (enterSettling_frame i s) (by decide)
    · exact .refl s
  | power units =>
    unfold takeMessage
    dsimp only
    split
    · exact (takePower_calm units s).sound (takePower_frame units s) (by decide)
    · exact .refl s
  | button =>
    unfold takeMessage
    dsimp only
    split
    · exact (takeButton_safe s).sound (takeButton_frame s) (by decide)
    · exact .refl s
  | keys k =>
    unfold takeMessage
    dsimp only
    split
    · exact (queueKeys_calm k s).sound (queueKeys_frame k s) (by decide)
    · split
      · refine (dock_calm { s.dock with remembered := some k } s).sound (l := [.dockKeys]) ?_ (by decide)
        intro b hb
        cases b <;> first | rfl | exact absurd (by decide) hb
      · exact .refl s
  | motion x y z => exact arriveInTurn_sound .basa (arrivePolled_sound _ _ _) s

theorem flipToggle_sound (c : Channel) (s : State) : Sound s (flipToggle c s) := .of_frame (flipToggle_frame c s) (by decide)

theorem goodExchange_sound (s : State) : Sound s (goodExchange s) := .of_frame (goodExchange_frame s) (by decide)

theorem sendFrame_sound (f : List Byte) (s : State) : Sound s (sendFrame f s) := .of_frame (sendFrame_frame f s) (by decide)

theorem resolveInward_sound (c : Cycle) (j : Judged) (s : State) : Sound s (resolveInward c j s) := by
  cases j with
  | data toggle m =>
    unfold resolveInward
    dsimp only
    split
    · exact (((flipToggle_sound _ s).trans (goodExchange_sound _)).trans (takeMessage_sound _ m _)).trans (sendFrame_sound _ _)
    · exact (goodExchange_sound s).trans (sendFrame_sound _ _)
  | nak => exact goodExchange_sound s
  | stall => exact (takeStall_calm s).sound (takeStall_frame s) (by decide)
  | ack => exact (countFailure_calm s).sound (countFailure_frame s) (by decide)
  | failure => exact (countFailure_calm s).sound (countFailure_frame s) (by decide)

/-- A write to the dock's link. -/
theorem link_sound {s t : State} (h : SameBut [.dockLink] s t) : Sound s t := .of_frame h (by decide)

theorem resolve_sound (c : Cycle) (j : Judged) (s : State) : Sound s (resolve c j s) := by
  unfold resolve
  split
  · exact (resolveOutput_calm j s).sound (l := dockBlocks) ((by
      cases j with
      | ack => exact SameBut.mono (l := [.dockLink]) (by
          intro b hb
          cases b <;> first | rfl | exact absurd (by decide) hb) _ (by decide)
      | nak => exact (goodExchange_frame s).mono _ (by decide)
      | stall => exact SameBut.mono (l := [.dockLink]) (by
          intro b hb
          cases b <;> first | rfl | exact absurd (by decide) hb) _ (by decide)
      | data toggle m => exact countFailure_frame s
      | failure => exact countFailure_frame s)) (by decide)
  · exact resolveInward_sound c j s
  · exact resolveInward_sound c j s
  · refine (link_sound ?_).trans (resolveInward_sound c j _)
    intro b hb
    cases b <;> first | rfl | exact absurd (by decide) hb

theorem nextExchange_sound (t : Tick) (channels : List Channel) (s : State) : Sound s (nextExchange t channels s) :=
  link_sound (nextExchange_frame t channels s)

theorem endExchange_sound (c : Cycle) (j : Judged) (s : State) : Sound s (endExchange c j s) := by
  have hfreed : Sound s { s with dock := { s.dock with cycle := none, sent := [] } } := link_sound (by
    intro b hb
    cases b <;> first | rfl | exact absurd (by decide) hb)
  unfold endExchange
  dsimp only
  split
  · exact hfreed
  · split
    · exact (hfreed.trans (resolve_sound c j _)).trans (nextExchange_sound _ _ _)
    · exact hfreed.trans (resolve_sound c j _)

/-! ## The Route Engine -/

theorem feed_calm (target : Target) (r : Sample) (s : State) : Calm s (feed target r s) := by
  cases target <;> unfold feed <;> dsimp only
  case hallClosed => exact (feedHallClosed_safe _ s).calm
  case hallFolded => exact (feedHallFolded_safe _ s).calm
  case penPresence => exact (feedPresence_safe _ s).calm
  case dockSense => exact feedSense_calm _ s
  all_goals split
  case angleBase.isFalse =>
    split
    · exact (feedBase_safe _ s).calm
    · exact .refl s
  case angleLid.isFalse =>
    split
    · exact (feedLid_safe _ s).calm
    · exact .refl s
  case chargeCurrent.isFalse => exact (feedCurrent_safe _ _ s).calm
  case chargeCell.isFalse => exact (feedCell_safe _ s).calm
  case chargeTemp.isFalse => exact (feedTemp_safe _ s).calm
  case activity.isFalse => exact (reportMotion_safe s).calm
  all_goals exact .refl s

theorem feed_sound (target : Target) (r : Sample) (s : State) : Sound s (feed target r s) :=
  (feed_calm target r s).sound (feed_frame target r s) (by decide)

theorem performFeed_sound (e : RouteEntry) (r : Sample) (fed : List Target) (s : State) :
    Sound s (performFeed e r fed s).1 := by
  unfold performFeed
  split
  · exact .refl s
  · split
    · exact .refl s
    · exact feed_sound _ r s

theorem performTest_safe (n : Nat) (e : RouteEntry) (r : Sample) (s : State) : Safe s (performTest n e r s) := by
  have hwrite : ∀ x, Safe s (writeRuntime n x s) := fun x => .of_frame (writeRuntime_frame n x s) (by decide)
  unfold performTest
  split
  · exact .refl s
  · dsimp only
    split <;> split
    · exact ((hwrite _).trans (raise_safe _ _)).trans (reportMotion_safe _)
    · exact (hwrite _).trans (reportMotion_safe _)
    · exact (hwrite _).trans (raise_safe _ _)
    · exact hwrite _

theorem offerSample_sound (n : Nat) (r : Sample) (s : State) : Sound s (offerSample n r s) := by
  unfold offerSample
  split
  · next hroom =>
    refine ⟨⟨id, id, id⟩, id, fun ⟨hq, _, hc⟩ => ⟨hq, ?_, hc⟩⟩
    have hnew : State.sampleCount
        (clearGap r.source { s with host := { s.host with samples := s.host.samples ++ [forwardCopy n r s] } })
        = s.sampleCount + 1 := by
      simp [State.sampleCount, State.inFlightSamples, clearGap, Nat.add_right_comm]
    rw [hnew]
    exact hroom
  · exact setGap_sound _ s

theorem performForward_sound (n : Nat) (e : RouteEntry) (r : Sample) (s : State) :
    Sound s (performForward n e r s) := by
  unfold performForward
  split
  · exact offerSample_sound n r s
  · split
    · exact (offerBatch_safe n r s).sound (offerBatch_frame n r s) (by decide)
    · exact .refl s

theorem performActions_sound (n : Nat) (e : RouteEntry) (r : Sample) (fed : List Target) (s : State) :
    Sound s (performActions n e r fed s).1 := by
  have hfeed := performFeed_sound e r fed s
  have htest : ∀ u, Sound u (performTest n e r u) := fun u =>
    (performTest_safe n e r u).sound (performTest_frame n e r u) (by decide)
  unfold performActions
  dsimp only
  split <;> split
  · exact (hfeed.trans (htest _)).trans (performForward_sound _ _ _ _)
  · exact hfeed.trans (performForward_sound _ _ _ _)
  · exact hfeed.trans (htest _)
  · exact hfeed

theorem visitEntry_sound (w : Traversal) (s : State) : Sound s (visitEntry w s).1 := by
  have hwrite : ∀ x, Sound s (writeRuntime w.entry x s) := fun x => .of_frame (writeRuntime_frame _ x s) (by decide)
  unfold visitEntry
  dsimp only
  split
  · split
    · exact (hwrite _).trans (performActions_sound _ _ _ _ _)
    · exact hwrite _
  · exact .refl s

theorem takeRecord_sound (s : State) : Sound s (takeRecord s) := by
  unfold takeRecord
  split
  · exact .refl s
  · next r rest hfifo =>
    refine ⟨⟨id, id, id⟩, id, fun ⟨hq, hn, hc⟩ => ⟨?_, hn, hc⟩⟩
    rw [hfifo, List.length_cons] at hq
    exact (Nat.le_of_succ_le hq :)

theorem endTraversal_sound (s : State) : Sound s (endTraversal s) := by
  have hidle : Sound s { s with route := { s.route with walking := none } } := ⟨⟨id, id, id⟩, id, id⟩
  refine (hidle.trans ?_).trans (takeRecord_sound _)
  unfold applyHeld
  split
  · have happly : ∀ u : State, Sound u { applyRoute u with route := { (applyRoute u).route with hold := false } } :=
      fun _ => ⟨⟨id, id, id⟩, id, id⟩
    exact (happly _).trans (raise_sound _ _)
  · exact .refl _

theorem visit_sound (w : Traversal) (s : State) : Sound s (visit w s) := by
  have hentry := visitEntry_sound w s
  unfold visit
  dsimp only
  split
  · exact hentry.trans (endTraversal_sound _)
  · split
    · exact hentry.trans (.of_frame (walkOn_frame _ _) (by decide))
    · exact (hentry.trans (raise_sound _ _)).trans (endTraversal_sound _)

theorem visitNext_sound (s : State) : Sound s (visitNext s) := by
  unfold visitNext
  split
  · exact .refl s
  · exact visit_sound _ s

theorem beginTraversal_sound (s : State) : Sound s (beginTraversal s) := by
  unfold beginTraversal
  split
  · exact (takeRecord_sound s).trans (visitNext_sound _)
  · exact .refl s

end Sys2Proof.Machine
end

section
/-! What the Host Link, the tables and the resets keep, the effect of each command by name, and the invariants that every step
keeps (`Sound`). -/

namespace Sys2Proof.Machine

-- One theorem after another, as in the model's tests: a theorem that waits for a kernel evaluation holds a thread.
set_option Elab.async false

/-! ## Items in flight (R165, R167, R168) -/

/-- What goes in flight and what stays are the items in their order. -/
theorem packItems_append {α : Type} (size : α → Nat) (space : Nat) (items : List α) :
    (packItems size space items).1 ++ (packItems size space items).2 = items := by
  induction items generalizing space with
  | nil => rfl
  | cons x rest ih =>
    unfold packItems
    split
    · exact congrArg (x :: ·) (ih _)
    · rfl

theorem packItems_length {α : Type} (size : α → Nat) (space : Nat) (items : List α) :
    (packItems size space items).2.length + (packItems size space items).1.length = items.length := by
  rw [Nat.add_comm, ← List.length_append, packItems_append]

theorem mergeReturned_kind (standing returned : Event) : (mergeReturned standing returned).kind = standing.kind := by
  unfold mergeReturned; split <;> rfl

theorem returnEvents_kinds (returned list : List Event) :
    eventKinds (returnEvents returned list)
      = eventKinds (returned.filter (fun r => !list.any (fun p => p.kind = r.kind))) ++ eventKinds list := by
  unfold returnEvents eventKinds
  rw [List.map_append, List.map_map]
  congr 1
  refine List.map_congr_left fun p _ => ?_
  rw [Function.comp_apply]
  split
  · exact mergeReturned_kind _ _
  · rfl

theorem returnEvents_nodup {returned list : List Event} (hr : (eventKinds returned).Nodup) (hl : (eventKinds list).Nodup) :
    (eventKinds (returnEvents returned list)).Nodup := by
  rw [returnEvents_kinds]
  refine List.nodup_append.2 ⟨List.Nodup.sublist (List.Sublist.map _ List.filter_sublist) hr, hl, fun k hk l hkl hsame => ?_⟩
  subst hsame
  obtain ⟨r, hr, rfl⟩ := List.mem_map.1 hk
  obtain ⟨p, hp, hkind⟩ := List.mem_map.1 hkl
  simpa using (by simpa using (List.mem_filter.1 hr).2 : ∀ x ∈ list, ¬ x.kind = r.kind) p hp hkind

/-! ## Fall and rise of chip select -/

/-- Beside the blocks of the first list the Host Link touches nothing that the three invariants speak of. -/
theorem beginTransaction_guarded (s : State) : Guarded s (beginTransaction s) :=
  .of_frame (beginTransaction_frame s) (by decide)

theorem beginTransaction_sound (s : State) (hnone : s.host.transaction = none) : Sound s (beginTransaction s) := by
  have hpoll : (beginTransaction s).poll = s.poll := beginTransaction_frame s .poll (by decide)
  have hfifo : (beginTransaction s).intake.fifo = s.intake.fifo := beginTransaction_frame s .fifo (by decide)
  have hcoming : s.ComingOnce → (beginTransaction s).ComingOnce := by unfold State.ComingOnce; rw [hpoll]; exact id
  suffices h : (s.OneEntryPerKind → (beginTransaction s).OneEntryPerKind)
      ∧ (beginTransaction s).sampleCount = s.sampleCount from
    ⟨beginTransaction_guarded s, h.1, fun ⟨hq, hn, hc⟩ => ⟨by rwa [hfifo], h.2.symm ▸ hn, hcoming hc⟩⟩
  have hnothing : s.inFlightSamples = [] := by unfold State.inFlightSamples; rw [hnone]
  have hcount : s.sampleCount = s.host.samples.length := by unfold State.sampleCount; rw [hnothing]; rfl
  rw [hcount]
  unfold beginTransaction selectUpstream selectBatch
  split
  · exact ⟨fun ⟨hk, _⟩ => ⟨hk, by rintro _ _ ⟨⟩ ⟨⟩⟩, rfl⟩
  · split
    · refine ⟨fun ⟨hk, _⟩ => ?_, rfl⟩
      have hpack : eventKinds (takeEvents s).1 ++ eventKinds (takeEvents s).2 = eventKinds s.host.events := by
        unfold eventKinds; rw [← List.map_append]; exact congrArg _ (packItems_append _ _ _)
      rw [← hpack] at hk
      refine ⟨(List.nodup_append.1 hk).2.1, fun t content ht hc => ?_⟩
      cases ht
      cases hc
      exact (List.nodup_append.1 hk).1
    · split
      · exact ⟨fun ⟨hk, _⟩ => ⟨hk, by rintro _ _ ⟨⟩ ⟨⟩⟩, rfl⟩
      · split
        · exact ⟨fun ⟨hk, _⟩ => ⟨hk, by rintro _ _ ⟨⟩ ⟨⟩⟩, packItems_length _ _ _⟩
        · split
          · split <;> exact ⟨fun ⟨hk, _⟩ => ⟨hk, by rintro _ _ ⟨⟩ ⟨⟩⟩, rfl⟩
          · exact ⟨fun ⟨hk, _⟩ => ⟨hk, by rintro _ _ ⟨⟩ ⟨⟩⟩, rfl⟩

theorem endTransaction_sampleCount (s : State) : (endTransaction s).sampleCount ≤ s.sampleCount :=
  Nat.le_add_right s.host.samples.length _

theorem deliver_transaction (t : Transaction) (s : State) : (deliver t s).host.transaction = none := by
  unfold deliver
  dsimp only
  split
  · rfl
  · split <;> rfl
  all_goals rfl

theorem deliver_sound (t : Transaction) (s : State) : Sound s (deliver t s) := by
  have hf := deliver_frame t s
  have hpoll : (deliver t s).poll = s.poll := hf .poll (by decide)
  have hfifo : (deliver t s).intake.fifo = s.intake.fifo := hf .fifo (by decide)
  have hevents : (deliver t s).host.events = s.host.events := hf .events (by decide)
  have hsamples : (deliver t s).host.samples = s.host.samples := hf .samples (by decide)
  have hnone := deliver_transaction t s
  have hcount : (deliver t s).sampleCount ≤ s.sampleCount := by
    unfold State.sampleCount State.inFlightSamples; rw [hsamples, hnone]; exact Nat.le_add_right _ _
  refine ⟨.of_frame hf (by decide), fun ⟨hk, _⟩ => ⟨by rwa [hevents], by rw [hnone]; simp⟩, fun ⟨hq, hn, hc⟩ =>
    ⟨by rwa [hfifo], Nat.le_trans hcount hn, ?_⟩⟩
  unfold State.ComingOnce at hc ⊢
  rwa [hpoll]

theorem deliverAny_sound (s : State) : Sound s (deliverAny s) := by
  unfold deliverAny
  split
  · exact .refl s
  · exact deliver_sound _ s

theorem giveBack_sound (t : Transaction) (s : State) (ht : s.host.transaction = some t) : Sound s (giveBack t s) := by
  have hpoll : (giveBack t s).poll = s.poll := giveBack_frame t s .poll (by decide)
  have hfifo : (giveBack t s).intake.fifo = s.intake.fifo := giveBack_frame t s .fifo (by decide)
  suffices h : (s.OneEntryPerKind → (giveBack t s).OneEntryPerKind) ∧ (giveBack t s).sampleCount ≤ s.sampleCount by
    refine ⟨.of_frame (giveBack_frame t s) (by decide), h.1, fun ⟨hq, hn, hc⟩ => ⟨by rwa [hfifo], Nat.le_trans h.2 hn, ?_⟩⟩
    unfold State.ComingOnce at hc ⊢
    rwa [hpoll]
  have hless := endTransaction_sampleCount s
  have hkinds : s.OneEntryPerKind → (endTransaction s).OneEntryPerKind := fun ⟨hk, _⟩ => ⟨hk, by simp [endTransaction]⟩
  obtain ⟨frame, fe, fk, fs, fb⟩ := t
  cases frame with
  | events content =>
    exact ⟨fun ⟨hk, hc⟩ => ⟨returnEvents_nodup (hc _ content ht rfl) hk, (hkinds ⟨hk, hc⟩).2⟩, hless⟩
  | samples content =>
    have hflight : s.inFlightSamples = content := by unfold State.inFlightSamples; rw [ht]
    refine ⟨hkinds, Nat.le_of_eq ?_⟩
    show (content ++ s.host.samples).length + 0 = s.host.samples.length + s.inFlightSamples.length
    rw [hflight, List.length_append]; omega
  | batch i before after content =>
    exact ⟨hkinds, hless⟩
  | idle => exact ⟨hkinds, hless⟩
  | keys content => exact ⟨hkinds, hless⟩
  | response r => exact ⟨hkinds, hless⟩

/-! ## The host commands -/

theorem respond_sound (tag kind : Byte) (body : ResponseBody) (s : State) : Sound s (respond tag kind body s) :=
  .of_frame (respond_frame tag kind body s) (by decide)

theorem commitPoll_safe (s : State) : Safe s (commitPoll s).1 := by
  have htable : ∀ p, Safe s { s with poll := { s.poll with table := p } } := fun _ =>
    ⟨.of_same rfl rfl rfl rfl rfl, id, id, id⟩
  have hrecompute := recomputeCadences_safe { s with poll := { s.poll with table := readPollTable s.staging.poll } }
  unfold commitPoll
  dsimp only
  exact (htable (readPollTable s.staging.poll)).trans hrecompute

theorem commitPosture_safe (s : State) : Safe s (commitPosture s).1 := by
  have htable : ∀ p, Safe s (applyPostureTable p s) := fun _ => ⟨.of_same rfl rfl rfl rfl rfl, id, id, id⟩
  unfold commitPosture
  dsimp only
  split
  · exact htable _
  · exact .refl s

theorem commitCurve_safe (s : State) : Safe s (commitCurve s).1 := by
  unfold commitCurve
  split
  · exact .refl s
  · exact pen_safe _ _

theorem commitTable_sound (table : TableId) (s : State) : Sound s (commitTable table s).1 := by
  cases table with
  | route => exact .of_frame (commitRoute_frame s) (by decide)
  | poll => exact (commitPoll_safe s).sound (commitPoll_frame s) (by decide)
  | posture => exact (commitPosture_safe s).sound (commitPosture_frame s) (by decide)
  | orient => exact (applyOrientTable_safe _ s).sound (commitOrient_frame s) (by decide)
  | curve => exact (commitCurve_safe s).sound (commitCurve_frame s) (by decide)
  | policy => exact (applyPolicy_safe _ s).sound (commitPolicy_frame s) (by decide)
  | param => exact (applyParams_safe _ s).sound (commitParams_frame s) (by decide)

theorem requestRelease_sound {s t : State} (h : requestRelease s = .ok t) : Sound s t :=
  (requestRelease_safe h).sound (requestRelease_frame s t h) (by decide)

/-! ## SET_PLATFORM_STATE -/

theorem handPlatform_holds (s : State) :
    HoldsKept s (handPlatform s) ∧ Steady s (handPlatform s) ∧ (s.CoilGuarded → (handPlatform s).CoilGuarded) := by
  obtain ⟨hsteady, hholds, hcoil⟩ := renewBudget_keeps s.supply.requests s
  have hgates := rereadGates_safe (renewBudget s.supply.requests s)
  exact ⟨hholds.trans (rereadGates_holds _), hsteady.trans hgates.steady, fun h => hgates.guarded.coil (hcoil h)⟩

/-- The state that the platform's change, its hand-on and a change of banks leave before the part power is chosen. -/
def platformMoved (dest : Platform) (banks : State → State) (s : State) : State :=
  banks (handPlatform (movePlatform dest s))

theorem platformMoved_guarded (dest : Platform) {banks : State → State} (hbanks : ∀ u, SameBut [.batch] u (banks u))
    (s : State) : Guarded s (repower (platformMoved dest banks s)) := by
  let m := movePlatform dest s
  obtain ⟨hholds, hsteady, hcoil⟩ := handPlatform_holds m
  have hb : Guarded (handPlatform m) (platformMoved dest banks s) := .of_frame (hbanks _) (by decide)
  have hr := repower_keeps (platformMoved dest banks s)
  have hheld : HoldsKept (handPlatform m) (platformMoved dest banks s) := .of_frame (hbanks _) (by decide)
  refine ⟨fun ⟨_, hgrants⟩ => hr.1 (hb.allocated ?_), fun ⟨hp, ho, hd, hpp, hpc, hl, _⟩ => ?_,
    fun h => hr.2 (hb.coil (hcoil h))⟩
  · exact (rereadGates_safe _).guarded.allocated (renewBudget_allocated m.supply.requests hgrants)
  · have h := hheld.held (hholds.held ⟨hp, ho, hd, hpp, hpc, hl⟩)
    exact repower_copies h.posture h.tracker h.dock h.present h.charging h.latch

/-- The events and the dock's link after the platform's change are as an allocation and a cadence may leave them. -/
theorem platformMoved_kinds (dest : Platform) {banks : State → State} (hbanks : ∀ u, SameBut [.batch] u (banks u))
    (s : State) (hs : (eventKinds s.host.events).Nodup) :
    (eventKinds (repower (platformMoved dest banks s)).host.events).Nodup := by
  have hevents : (platformMoved dest banks s).host.events = (handPlatform (movePlatform dest s)).host.events :=
    hbanks _ .events (by decide)
  refine (repower_steady _).kinds ?_
  rw [hevents]
  exact (handPlatform_holds _).2.1.kinds hs

theorem platformMoved_coming (dest : Platform) {banks : State → State} (hbanks : ∀ u, SameBut [.batch] u (banks u))
    (s : State) : (repower (platformMoved dest banks s)).poll.coming.map Coming.shape = s.poll.coming.map Coming.shape := by
  have hpoll : (platformMoved dest banks s).poll = (handPlatform (movePlatform dest s)).poll := hbanks _ .poll (by decide)
  rw [(repower_steady _).coming, hpoll]
  exact (handPlatform_holds _).2.1.coming

/-- Beside the Intake FIFO, the Sample Queue and the transaction a command keeps these invariants by its parts. -/
theorem Sound.of_parts {l : List Block} {s t : State} (guarded : Guarded s t)
    (kinds : (eventKinds s.host.events).Nodup → (eventKinds t.host.events).Nodup)
    (coming : t.poll.coming.map Coming.shape = s.poll.coming.map Coming.shape) (hf : SameBut l s t)
    (hl : ∀ b ∈ [Block.fifo, .samples, .transaction], b ∉ l) : Sound s t := by
  have hfifo : t.intake.fifo = s.intake.fifo := hf .fifo (hl _ (by decide))
  have hsamples : t.host.samples = s.host.samples := hf .samples (hl _ (by decide))
  have htransaction : t.host.transaction = s.host.transaction := hf .transaction (hl _ (by decide))
  refine ⟨guarded, fun ⟨hk, hc⟩ => ⟨kinds hk, by rwa [htransaction]⟩, fun ⟨hq, hn, hc⟩ => ⟨?_, ?_, ?_⟩⟩
  · rwa [hfifo]
  · rwa [sampleCount_of_same hsamples htransaction]
  · exact comingOnce_of_shape coming hc

theorem goToSleep_sound (s : State) : Sound s (goToSleep s) :=
  .of_parts (platformMoved_guarded .asleep sleepBanks_frame s) (platformMoved_kinds .asleep sleepBanks_frame s)
    (platformMoved_coming .asleep sleepBanks_frame s) (goToSleep_frame s) (by decide)

theorem comeAwake_eq (s : State) : comeAwake s = sleepEvaluate (repower (platformMoved .awake wakeBanks s)) := rfl

theorem comeAwake_sound (s : State) : Sound s (comeAwake s) := by
  have hevaluate := sleepEvaluate_safe (repower (platformMoved .awake wakeBanks s))
  have hframe := comeAwake_frame s
  rw [comeAwake_eq] at hframe ⊢
  exact .of_parts ((platformMoved_guarded .awake wakeBanks_frame s).trans hevaluate.guarded)
    (fun hk => hevaluate.steady.kinds (platformMoved_kinds .awake wakeBanks_frame s hk))
    (hevaluate.steady.coming.trans (platformMoved_coming .awake wakeBanks_frame s)) hframe (by decide)

theorem setForcing_sound (on : Bool) (s : State) : Sound s (setForcing on s) := by
  have hsafe : Safe s (setForcing on s) := ⟨.of_same rfl rfl rfl rfl rfl, id, id, id⟩
  exact hsafe.sound (setForcing_frame on s) (by decide)

theorem setPlatform_sound (dest : HostState) (s : State) : Sound s (setPlatform dest s) := by
  cases dest with
  | sleeping =>
    unfold setPlatform
    dsimp only
    split
    · exact setForcing_sound _ s
    · exact (setForcing_sound _ s).trans (goToSleep_sound _)
  | awake =>
    unfold setPlatform
    dsimp only
    split
    · exact setForcing_sound _ s
    · exact (setForcing_sound _ s).trans (comeAwake_sound _)

/-! ## The resets -/

theorem afterReset_queuesBounded (now : Tick) (why : StartReason) : (State.afterReset now why).QueuesBounded :=
  ⟨Nat.zero_le _, Nat.zero_le _, List.nodup_nil⟩

theorem afterReset_keysBounded (now : Tick) (why : StartReason) : (State.afterReset now why).KeysBounded :=
  ⟨Nat.zero_le _, fun _ => Nat.zero_le _, nofun, nofun, nofun⟩

theorem afterReset_oneEntryPerKind (now : Tick) (why : StartReason) : (State.afterReset now why).OneEntryPerKind := by
  have hone : (eventKinds [Event.started why]).Nodup := List.nodup_cons.2 ⟨List.not_mem_nil, List.nodup_nil⟩
  exact ⟨hone, fun _ _ h => nomatch h⟩

theorem afterReset_allocated (now : Tick) (why : StartReason) : (State.afterReset now why).Allocated :=
  ⟨by rfl, by rfl⟩

theorem afterReset_copiesAgree (now : Tick) (why : StartReason) : (State.afterReset now why).CopiesAgree :=
  ⟨rfl, rfl, rfl, rfl, rfl, rfl, rfl⟩

theorem afterReset_coilGuarded (now : Tick) (why : StartReason) : (State.afterReset now why).CoilGuarded :=
  fun _ => ⟨rfl, rfl, rfl⟩

theorem resetTo_sound (now : Tick) (why : StartReason) (s : State) : Sound s (resetTo now why s) := by
  have hpending : Sound (State.afterReset now why) (resetTo now why s) :=
    .of_frame (l := [.pending]) (fun b hb => by cases b <;> first | rfl | exact absurd (by decide) hb) (by decide)
  exact ⟨⟨fun _ => hpending.guarded.allocated (afterReset_allocated now why),
      fun _ => hpending.guarded.copies (afterReset_copiesAgree now why),
      fun _ => hpending.guarded.coil (afterReset_coilGuarded now why)⟩,
    fun _ => hpending.kinds (afterReset_oneEntryPerKind now why),
    fun _ => hpending.queues (afterReset_queuesBounded now why)⟩

theorem takeCommand_sound (c : HostCommand) (s : State) : Sound s (takeCommand c s) := by
  cases c with
  | nop tag => exact respond_sound _ _ _ s
  | tableWrite tag table first count entries =>
    exact (Sound.of_frame (writeTable_frame table first count entries s) (by decide)).trans (respond_sound _ _ _ _)
  | tableRead tag table copy first count => exact respond_sound _ _ _ s
  | tableCommit tag table => exact (commitTable_sound table s).trans (respond_sound _ _ _ _)
  | readState tag => exact respond_sound _ _ _ s
  | rotationLock tag on =>
    exact ((lockRotation_safe on s).sound (lockRotation_frame on s) (by decide)).trans (respond_sound _ _ _ _)
  | chargeInhibit tag on =>
    exact ((inhibitCharge_safe on s).sound (inhibitCharge_frame on s) (by decide)).trans (respond_sound _ _ _ _)
  | clearFault tag =>
    exact ((clearFaultOf_safe s).sound (clearFaultOf_frame s) (by decide)).trans (respond_sound _ _ _ _)
  | detach tag =>
    show Sound s (takeDetach tag s)
    unfold takeDetach
    split
    · next t ht => exact (requestRelease_sound ht).trans (respond_sound _ _ _ _)
    · exact respond_sound _ _ _ s
  | detachCancel tag =>
    exact ((endReleaseIfAny_safe _ s).sound (endReleaseIfAny_frame _ s) (by decide)).trans (respond_sound _ _ _ _)
  | dockOutput tag backlight indicators =>
    show Sound s (takeDockOutput tag backlight indicators s)
    unfold takeDockOutput
    split
    · exact (link_sound (queueMessage_frame _ s)).trans (respond_sound _ _ _ _)
    · exact respond_sound _ _ _ s
  | setPlatformState tag dest => exact (setPlatform_sound dest s).trans (respond_sound _ _ _ _)
  | resetPart tag => exact resetTo_sound _ _ s

theorem takeFrame_sound (clocked : List Byte) (s : State) : Sound s (takeFrame clocked s) := by
  unfold takeFrame
  dsimp only
  split
  · exact .refl s
  · split
    · exact takeCommand_sound _ s
    · exact respond_sound _ _ _ s

theorem riseSelect_sound (t : Transaction) (clocked : List Byte) (s : State) (ht : s.host.transaction = some t) :
    Sound s (riseSelect t clocked s) := by
  unfold riseSelect
  split
  · exact (deliver_sound t s).trans (takeFrame_sound clocked _)
  · exact giveBack_sound t s ht

/-! ## The effect of each command, before the attention line is brought up to date -/

/-- The effect of a command that ends a poll. -/
def onPoll (act : BusPoll → State → State) (s : State) : State :=
  match s.poll.onBus with
  | none => s
  | some poll => act poll s

/-- The effect of a command that ends an exchange. -/
def onExchange (judge : Cycle → Judged) (s : State) : State :=
  match s.dock.cycle with
  | none => s
  | some c => endExchange c (judge c) s

/-- The effect of a fall of chip select. -/
def fallSelect (s : State) : State :=
  match s.host.transaction with
  | none => beginTransaction s
  | some _ => s

/-- The effect of a rise of chip select. -/
def riseIfLow (clocked : List Byte) (s : State) : State :=
  match s.host.transaction with
  | none => s
  | some t => riseSelect t clocked s

/-- The end of a good run (R129). -/
def endGoodRun (s : State) : State :=
  { s with pen := { s.pen with faults := 0, laterSet := false, used := 0, goodRun := none } }

/-- The state that a command's effect leaves, with the attention line as it stood. -/
def effect : Instr → State → State
  | .powerOnReset, s => resetTo 0 .powerOn s
  | .resetPart _, s => takeResetPart (deliverAny s)
  | .tick lines readings arrival, s => boundary lines readings arrival s
  | .busPollStart, s => startPoll s
  | .pollSuccess reading, s => onPoll (fun poll => succeedPoll poll reading) s
  | .noAcknowledge, s => onPoll (fun poll => failPoll poll.source) s
  | .busTimeout, s => onPoll (fun poll t => if 5 ≤ s.since poll.started then failPoll poll.source t else t) s
  | .traversalBegin, s => beginTraversal s
  | .routeVisit, s => visitNext s
  | .vectorAgeDiscard, s => discardAged s
  | .postureDwellExpiry, s => if s.due s.posture.dwell then classify true s else s
  | .rotationDwellExpiry, s => if s.due s.orient.dwell then expireRotation s else s
  | .dockReply frame, s => onExchange (fun c => judgeReply c.channel frame) s
  | .replyTimeout, s => onExchange (fun _ => .failure) s
  | .byteTimeout, s => onExchange (fun _ => .failure) s
  | .resetPulseEnd, s => if s.dock.state = .resetting then enterIdentifying s else s
  | .identifyTimerExpiry, s => if s.due s.dock.identifyTimer && s.dock.state = .identifying then failAttempt s else s
  | .settleTimerExpiry, s => if s.due s.dock.settleTimer && s.dock.state = .settling then enterAttached s else s
  | .preparationTimerExpiry, s => if s.due s.latch.preparation && s.latch.state = .preparing then openLatch s else s
  | .releaseWindowExpiry, s => if s.due s.latch.window && s.latch.state = .opened then endRelease .timedOut s else s
  | .retryWaitExpiry, s => if s.due s.pen.retryTimer && s.pen.state = .retryWait then expireRetry s else s
  | .restTimerExpiry, s => if s.due s.pen.restTimer && s.pen.state = .topped then endRest s else s
  | .goodRunTimerExpiry, s => if s.due s.pen.goodRun then endGoodRun s else s
  | .inactivityTimerExpiry, s =>
    if s.due s.advisor.idleTimer then sleepEvaluate { s with advisor := { s.advisor with idleTimer := none } } else s
  | .adviceTimerExpiry, s => if s.due s.advisor.adviceTimer && s.advisor.platform = .advised then timeOutAdvice s else s
  | .attnPulseEnd, s => { s with host := { s.host with pulse := false } }
  | .chipSelectFall, s => fallSelect s
  | .chipSelectRise clocked, s => riseIfLow clocked s
  | .nop tag, s => takeNop tag (deliverAny s)
  | .tableWrite tag table first count entries, s => takeTableWrite tag table first count entries (deliverAny s)
  | .tableRead tag table copy first count, s => takeTableRead tag table copy first count (deliverAny s)
  | .tableCommit tag table, s => takeTableCommit tag table (deliverAny s)
  | .readState tag, s => takeReadState tag (deliverAny s)
  | .rotationLock tag on, s => takeRotationLock tag on (deliverAny s)
  | .chargeInhibit tag on, s => takeChargeInhibit tag on (deliverAny s)
  | .clearFault tag, s => takeClearFault tag (deliverAny s)
  | .detach tag, s => takeDetach tag (deliverAny s)
  | .detachCancel tag, s => takeDetachCancel tag (deliverAny s)
  | .dockOutput tag backlight indicators, s => takeDockOutput tag backlight indicators (deliverAny s)
  | .setPlatformState tag dest, s => takeSetPlatformState tag dest (deliverAny s)

/-- Every command ends in a next state: its effect, with the attention line brought up to date. -/
theorem exec_eq (c : Instr) (s : State) : exec c s = .next (settleAttention s (effect c s)) := by cases c <;> rfl

/-- What a step leads to: the state as it was, or the effect of the front command with the rest waiting. -/
theorem step_cases {s t : State} (h : step s = .next t) :
    t = s ∨ ∃ c rest, s.pending = c :: rest
      ∧ t = settleAttention { s with pending := rest } (effect c { s with pending := rest }) := by
  unfold step at h
  split at h
  · cases h; exact .inl rfl
  · next c rest hpending => rw [exec_eq] at h; cases h; exact .inr ⟨c, rest, hpending, rfl⟩

theorem onPoll_sound {act : BusPoll → State → State} (h : ∀ p u, Sound u (act p u)) (s : State) : Sound s (onPoll act s) := by
  unfold onPoll
  split
  · exact .refl s
  · exact h _ s

theorem onExchange_sound (judge : Cycle → Judged) (s : State) : Sound s (onExchange judge s) := by
  unfold onExchange
  split
  · exact .refl s
  · exact endExchange_sound _ _ s

/-- A timer's effect is its action when it is due, and none otherwise. -/
theorem Sound.ite {p : Prop} [Decidable p] {s t : State} (h : p → Sound s t) : Sound s (if p then t else s) := by
  split
  · next hp => exact h hp
  · exact .refl s

theorem host_sound (c : HostCommand) (s : State) : Sound s (takeCommand c (deliverAny s)) :=
  (deliverAny_sound s).trans (takeCommand_sound c _)

theorem effect_sound (c : Instr) (s : State) : Sound s (effect c s) := by
  cases c with
  | powerOnReset => exact resetTo_sound _ _ s
  | resetPart tag => exact host_sound (.resetPart tag) s
  | tick lines readings arrival => exact boundary_sound lines readings arrival s
  | busPollStart => exact startPoll_sound s
  | pollSuccess reading => exact onPoll_sound (fun poll u => succeedPoll_sound poll reading u) s
  | noAcknowledge => exact onPoll_sound (fun poll u => failPoll_sound poll.source u) s
  | busTimeout => exact onPoll_sound (fun poll u => .ite fun _ => failPoll_sound poll.source u) s
  | traversalBegin => exact beginTraversal_sound s
  | routeVisit => exact visitNext_sound s
  | vectorAgeDiscard => 
    have hsafe : Safe s (discardAged s) := ⟨.of_frame (discardAged_frame s) (by decide), .of_frame (discardAged_frame s) (by decide)⟩
    exact hsafe.sound (discardAged_frame s) (by decide)
  | postureDwellExpiry => exact .ite fun _ => (classify_safe true s).sound (classify_frame true s) (by decide)
  | rotationDwellExpiry => exact .ite fun _ => (expireRotation_safe s).sound (expireRotation_frame s) (by decide)
  | dockReply frame => exact onExchange_sound _ s
  | replyTimeout => exact onExchange_sound _ s
  | byteTimeout => exact onExchange_sound _ s
  | resetPulseEnd => exact .ite fun _ => (enterIdentifying_calm s).sound (enterIdentifying_frame s) (by decide)
  | identifyTimerExpiry => exact .ite fun _ => (failAttempt_calm s).sound (failAttempt_frame s) (by decide)
  | settleTimerExpiry => exact .ite fun _ => (enterAttached_calm s).sound (enterAttached_frame s) (by decide)
  | preparationTimerExpiry =>
    refine .ite fun h => (openLatch_safe ?_).sound (openLatch_frame s) (by decide)
    exact of_decide_eq_true (Bool.and_eq_true_iff.1 h).2
  | releaseWindowExpiry => exact .ite fun _ => (endRelease_safe _ s).sound (endRelease_frame _ s) (by decide)
  | retryWaitExpiry => exact .ite fun _ => (expireRetry_safe s).sound (expireRetry_frame s) (by decide)
  | restTimerExpiry => exact .ite fun _ => (endRest_safe s).sound (endRest_frame s) (by decide)
  | goodRunTimerExpiry =>
    exact .ite fun _ => (endGoodRun_safe s).sound (l := [.pen])
      (fun b hb => by cases b <;> first | rfl | exact absurd (by decide) hb) (by decide)
  | inactivityTimerExpiry =>
    exact .ite fun _ => Sound.trans (t := { s with advisor := { s.advisor with idleTimer := none } })
      ⟨⟨id, id, id⟩, id, id⟩ ((sleepEvaluate_safe _).sound (sleepEvaluate_frame _) (by decide))
  | adviceTimerExpiry =>
    refine .ite fun h => (timeOutAdvice_safe ?_).sound (timeOutAdvice_frame s) (by decide)
    exact of_decide_eq_true (Bool.and_eq_true_iff.1 h).2
  | attnPulseEnd => exact ⟨⟨id, id, id⟩, id, id⟩
  | chipSelectFall =>
    show Sound s (fallSelect s)
    unfold fallSelect
    split
    · next hnone => exact beginTransaction_sound s hnone
    · exact .refl s
  | chipSelectRise clocked =>
    show Sound s (riseIfLow clocked s)
    unfold riseIfLow
    split
    · exact .refl s
    · next t ht => exact riseSelect_sound t clocked s ht
  | nop tag => exact host_sound (.nop tag) s
  | tableWrite tag table first count entries => exact host_sound (.tableWrite tag table first count entries) s
  | tableRead tag table copy first count => exact host_sound (.tableRead tag table copy first count) s
  | tableCommit tag table => exact host_sound (.tableCommit tag table) s
  | readState tag => exact host_sound (.readState tag) s
  | rotationLock tag on => exact host_sound (.rotationLock tag on) s
  | chargeInhibit tag on => exact host_sound (.chargeInhibit tag on) s
  | clearFault tag => exact host_sound (.clearFault tag) s
  | detach tag => exact host_sound (.detach tag) s
  | detachCancel tag => exact host_sound (.detachCancel tag) s
  | dockOutput tag backlight indicators => exact host_sound (.dockOutput tag backlight indicators) s
  | setPlatformState tag dest => exact host_sound (.setPlatformState tag dest) s

theorem pending_sound (rest : List Instr) (s : State) : Sound s { s with pending := rest } := ⟨⟨id, id, id⟩, id, id⟩

theorem step_sound {s t : State} (h : step s = .next t) : Sound s t := by
  obtain rfl | ⟨c, rest, -, rfl⟩ := step_cases h
  · exact .refl _
  · exact ((pending_sound rest s).trans (effect_sound c _)).trans (.of_frame (settleAttention_frame _ _) (by decide))

/-! ## The obligations -/

/-- Settles O57: adding to the list and returning to it merge an event into the entry of its kind, and a frame in flight is
cut from a list that has each kind once. -/
theorem stepsKeepOneEntryPerKind : Obligations.StepsKeepOneEntryPerKind := fun _ _ hs h => (step_sound h).kinds hs

/-- Settles O58: a request, a change of platform and a Parameter Table each end in an allocation under the budget in force. -/
theorem stepsKeepTheBudgetAllocated : Obligations.StepsKeepTheBudgetAllocated :=
  fun _ _ hs h => (step_sound h).guarded.allocated hs

/-- Settles O59: each change of posture, dock, pen and latch is handed to those who hold a copy of it before the part power
is chosen again. -/
theorem stepsKeepTheCopiesInAgreement : Obligations.StepsKeepTheCopiesInAgreement :=
  fun _ _ hs h => (step_sound h).guarded.copies hs

/-- Settles O60: the pen leaves CHARGING with the coil off, and the coil is driven in CHARGING alone. -/
theorem stepsKeepTheCoilGuarded : Obligations.StepsKeepTheCoilGuarded := fun _ _ hs h => (step_sound h).guarded.coil hs

/-- Settles O3, field by field: the queues are empty, one event is pending, nothing is drawn. -/
theorem resetStateMeetsTheInvariants : Obligations.ResetStateMeetsTheInvariants :=
  ⟨afterReset_queuesBounded 0 .powerOn, afterReset_keysBounded 0 .powerOn, afterReset_oneEntryPerKind 0 .powerOn,
    afterReset_allocated 0 .powerOn, afterReset_copiesAgree 0 .powerOn, afterReset_coilGuarded 0 .powerOn⟩

end Sys2Proof.Machine
end

section
/-! The Key Queue's bound and the room kept in it: which operations leave them as they stand (`KeysKept`), and the four that
use the room kept: a report of the base, a remembered one, the release of a stuck key, and a POLL of channel 1. -/

namespace Sys2Proof.Machine

-- One theorem after another, as in the model's tests: a theorem that waits for a kernel evaluation holds a thread.
set_option Elab.async false

/-! ## The relations -/

/-- A report of the base is awaited. -/
def State.AwaitsKeys (s : State) : Prop := ∃ c, s.dock.cycle = some c ∧ c.channel = .keys ∧ c.discarded = false

/-- The Key Queue's bound with the room kept in it, without what the dock state says of the remembered report. -/
structure State.Room (s : State) : Prop where
  count : s.keyCount ≤ 16
  pressed : s.dock.lastPressed = true → s.keyCount ≤ 15
  awaits : s.AwaitsKeys → s.keyCount ≤ 14
  remembered : ∀ k, s.dock.remembered = some k → k.pressed ≠ [] → s.keyCount ≤ 14

theorem keysBounded_iff (s : State) :
    s.KeysBounded ↔ s.Room ∧ (s.dock.state = .attached → s.dock.remembered = none) :=
  ⟨fun ⟨hc, hp, ha, hr, hs⟩ => ⟨⟨hc, hp, fun ⟨c, h, hk, hd⟩ => ha c h hk hd, hr⟩, hs⟩,
    fun ⟨h, hs⟩ => ⟨h.count, h.pressed, fun c hc hk hd => h.awaits ⟨c, hc, hk, hd⟩, h.remembered, hs⟩⟩

/-- No report joins, and no more room is asked for. -/
structure RoomKept (s t : State) : Prop where
  count : t.keyCount ≤ s.keyCount
  pressed : t.dock.lastPressed = true → s.dock.lastPressed = true
  awaits : t.AwaitsKeys → s.AwaitsKeys
  remembered : t.dock.remembered = s.dock.remembered ∨ t.dock.remembered = none

/-- Nor does the dock enter ATTACHED. -/
structure KeysKept (s t : State) : Prop extends RoomKept s t where
  state : t.dock.state = .attached → s.dock.state = .attached

theorem RoomKept.trans {s t u : State} (h : RoomKept s t) (k : RoomKept t u) : RoomKept s u where
  count := Nat.le_trans k.count h.count
  pressed hp := h.pressed (k.pressed hp)
  awaits ha := h.awaits (k.awaits ha)
  remembered := k.remembered.elim (fun hk => h.remembered.imp hk.trans hk.trans) .inr

theorem KeysKept.trans {s t u : State} (h : KeysKept s t) (k : KeysKept t u) : KeysKept s u :=
  ⟨h.toRoomKept.trans k.toRoomKept, fun hs => h.state (k.state hs)⟩

theorem RoomKept.room {s t : State} (h : RoomKept s t) (hs : s.Room) : t.Room where
  count := Nat.le_trans h.count hs.count
  pressed hp := Nat.le_trans h.count (hs.pressed (h.pressed hp))
  awaits ha := Nat.le_trans h.count (hs.awaits (h.awaits ha))
  remembered k hk hpressed := by
    obtain hsame | hnone := h.remembered
    · exact Nat.le_trans h.count (hs.remembered k (hsame ▸ hk) hpressed)
    · rw [hnone] at hk; cases hk

theorem KeysKept.bounded {s t : State} (h : KeysKept s t) (hs : s.KeysBounded) : t.KeysBounded := by
  obtain ⟨hroom, hstate⟩ := (keysBounded_iff s).1 hs
  refine (keysBounded_iff t).2 ⟨h.room hroom, fun ht => ?_⟩
  obtain hsame | hnone := h.remembered
  · exact hsame.trans (hstate (h.state ht))
  · exact hnone

/-- A write of the dock beside the Key Queue. -/
theorem KeysKept.of_dock {s t : State} (keys : t.dock.keys = s.dock.keys := by rfl)
    (transaction : t.host.transaction = s.host.transaction := by rfl)
    (pressed : t.dock.lastPressed = s.dock.lastPressed := by rfl) (awaits : t.AwaitsKeys → s.AwaitsKeys := by exact id)
    (remembered : t.dock.remembered = s.dock.remembered ∨ t.dock.remembered = none := by exact .inl rfl)
    (state : t.dock.state = .attached → s.dock.state = .attached := by exact id) : KeysKept s t := by
  refine ⟨⟨Nat.le_of_eq ?_, fun h => pressed ▸ h, awaits, remembered⟩, state⟩
  unfold State.keyCount State.inFlightKeys; rw [keys, transaction]

theorem KeysKept.refl (s : State) : KeysKept s s := .of_dock

/-- An exchange's channel and whether it is discarded are of its shape. -/
theorem awaitsKeys_of_shape {s t : State} (h : t.dock.cycle.map Cycle.shape = s.dock.cycle.map Cycle.shape) :
    t.AwaitsKeys → s.AwaitsKeys := by
  rintro ⟨c, hc, hkeys, hlive⟩
  rw [hc] at h
  obtain ⟨d, hd, hshape⟩ := Option.map_eq_some_iff.1 h.symm
  simp only [Cycle.shape, Prod.mk.injEq] at hshape
  exact ⟨d, hd, hshape.2.1.trans hkeys, hshape.2.2.2.trans hlive⟩

/-- An operation that leaves the keys and the transaction. -/
theorem RoomKept.of_frame {l : List Block} {s t : State} (awaits : t.AwaitsKeys → s.AwaitsKeys) (hf : SameBut l s t)
    (hl : ∀ b ∈ [Block.dockKeys, .transaction], b ∉ l) : RoomKept s t := by
  have hkeys := hf .dockKeys (hl _ (by decide))
  simp only [Block.same, Prod.mk.injEq] at hkeys
  obtain ⟨hqueue, hpressed, hremembered⟩ := hkeys
  have htransaction : t.host.transaction = s.host.transaction := hf .transaction (hl _ (by decide))
  refine ⟨Nat.le_of_eq ?_, fun hp => hpressed ▸ hp, awaits, .inl hremembered⟩
  unfold State.keyCount State.inFlightKeys; rw [hqueue, htransaction]

/-- An operation that leaves the keys, the transaction and the shape of the exchange on the wire. -/
theorem KeysKept.of_shape {l : List Block} {s t : State} (h : t.dock.cycle.map Cycle.shape = s.dock.cycle.map Cycle.shape)
    (hf : SameBut l s t) (hl : ∀ b ∈ [Block.dockState, .dockKeys, .transaction], b ∉ l) : KeysKept s t :=
  ⟨.of_frame (awaitsKeys_of_shape h) hf (fun b hb => hl b (by revert b; decide)),
    fun ht => hf.dock_state (hl _ (by decide)) ▸ ht⟩

theorem KeysKept.of_steady {l : List Block} {s t : State} (h : Steady s t) (hf : SameBut l s t)
    (hl : ∀ b ∈ [Block.dockState, .dockKeys, .transaction], b ∉ l) : KeysKept s t := .of_shape h.cycle hf hl

theorem Safe.keys {l : List Block} {s t : State} (h : Safe s t) (hf : SameBut l s t)
    (hl : ∀ b ∈ [Block.dockState, .dockKeys, .transaction], b ∉ l) : KeysKept s t := .of_steady h.steady hf hl

theorem KeysKept.of_frame {l : List Block} {s t : State} (hf : SameBut l s t)
    (hl : ∀ b ∈ [Block.dockState, .dockLink, .dockKeys, .transaction], b ∉ l) : KeysKept s t := by
  have hlink := hf .dockLink (hl _ (by decide))
  simp only [Block.same, Prod.mk.injEq] at hlink
  obtain ⟨-, -, -, -, -, -, -, -, -, hcycle, -⟩ := hlink
  exact .of_shape (by rw [hcycle]) hf (fun b hb => hl b (by revert b; decide))

/-! ## Changes of dock state -/

theorem awaitsKeys_of_moveDock {dest : DockState} {s : State} (h : (moveDock dest s).AwaitsKeys) : s.AwaitsKeys := by
  obtain ⟨c, hc, hkeys, hlive⟩ := h
  cases dest with
  | resetting => cases hc
  | detached | dockFault => obtain ⟨d, -, rfl⟩ := Option.map_eq_some_iff.1 hc; cases hlive
  | identifying | settling | attached => exact ⟨c, hc, hkeys, hlive⟩

/-- The states in which the dock makes no exchange. -/
def DockState.offLink (d : DockState) : Prop := d = .resetting ∨ d = .detached ∨ d = .dockFault

theorem DockState.offLink.ne_attached {d : DockState} (h : d.offLink) : d ≠ .attached := by
  rintro rfl; obtain h | h | h := h <;> cases h

/-- Nothing is awaited of the base once the dock has left its link. -/
theorem not_awaitsKeys_of_left {dest : DockState} {s : State} (hdest : dest.offLink) : ¬ (moveDock dest s).AwaitsKeys := by
  rintro ⟨c, hc, -, hlive⟩
  obtain rfl | rfl | rfl := hdest
  · cases hc
  · obtain ⟨d, -, rfl⟩ := Option.map_eq_some_iff.1 hc; cases hlive
  · obtain ⟨d, -, rfl⟩ := Option.map_eq_some_iff.1 hc; cases hlive

theorem changeDock_room (dest : DockState) (why : DockReason) (s : State) : RoomKept s (changeDock dest why s) :=
  .of_frame (fun h => awaitsKeys_of_moveDock (awaitsKeys_of_shape (changeDock_steady dest why s).cycle h))
    (changeDock_frame dest why s) (by decide)

theorem enterDock_room (dest : DockState) (why : DockReason) (s : State) : RoomKept s (enterDock dest why s) :=
  .of_frame (fun h => awaitsKeys_of_moveDock (awaitsKeys_of_shape (enterDock_steady dest why s).cycle h))
    (enterDock_frame dest why s) (by decide)

theorem enterDock_state (dest : DockState) (why : DockReason) (s : State) : (enterDock dest why s).dock.state = dest :=
  (enterDock_steady dest why s).channel.state

theorem enterDock_keys {dest : DockState} (hdest : dest ≠ .attached) (why : DockReason) (s : State) :
    KeysKept s (enterDock dest why s) :=
  ⟨enterDock_room dest why s, fun h => absurd ((enterDock_state dest why s).symm.trans h) hdest⟩

theorem not_awaitsKeys_enterDock {dest : DockState} (hdest : dest.offLink) (why : DockReason) (s : State) :
    ¬ (enterDock dest why s).AwaitsKeys := fun h =>
  not_awaitsKeys_of_left hdest (awaitsKeys_of_shape (enterDock_steady dest why s).cycle h)

/-! ## Departures (R104, R109) -/

/-- The release of a stuck key takes the room kept for it, once no report is awaited and none remembered. -/
theorem releaseKeys_bounded {s : State} (hs : s.Room) (hawaits : ¬ s.AwaitsKeys) (hstate : s.dock.state ≠ .attached) :
    ({ releaseKeys s with dock := { (releaseKeys s).dock with remembered := none } } : State).KeysBounded := by
  rw [keysBounded_iff]
  unfold releaseKeys
  split
  · next hpressed =>
    refine ⟨⟨?_, nofun, fun h => absurd h hawaits, nofun⟩, fun h => absurd h hstate⟩
    have hroom := hs.pressed hpressed
    unfold State.keyCount at hroom ⊢
    simp only [List.length_append, List.length_singleton, State.inFlightKeys] at hroom ⊢
    omega
  · exact ⟨⟨hs.count, hs.pressed, fun h => absurd h hawaits, nofun⟩, fun h => absurd h hstate⟩

theorem dropRequests_keys (s : State) : KeysKept s (dropRequests s) :=
  KeysKept.trans (t := { s with dock := { s.dock with extraHeld := 0 } }) .of_dock
    ((placeRequests_safe _ _).keys (placeRequests_frame _ _) (by decide))

theorem stopChannels_keys (s : State) : KeysKept s (stopChannels s) := .of_dock

theorem discardBase_keys (s : State) : KeysKept s (discardBase s) := .of_frame (discardBase_frame s) (by decide)

theorem endReleaseIfAny_keys (outcome : LatchOutcome) (s : State) : KeysKept s (endReleaseIfAny outcome s) :=
  (endReleaseIfAny_safe outcome s).keys (endReleaseIfAny_frame outcome s) (by decide)

theorem postureDetach_keys (s : State) : KeysKept s (postureDetach s) :=
  (postureDetach_safe s).keys (postureDetach_frame s) (by decide)

theorem depart_bounded {dest : DockState} (hdest : dest.offLink) (why : DockReason) {s : State} (hs : s.KeysBounded) :
    (depart dest why s).KeysBounded := by
  have hroom := (enterDock_room dest why s).room ((keysBounded_iff s).1 hs).1
  have hawaits := not_awaitsKeys_enterDock hdest why s
  have hstate : (enterDock dest why s).dock.state ≠ .attached := by
    rw [enterDock_state]; exact hdest.ne_attached
  have hrest : ∀ u : State, KeysKept u (discardBase (stopChannels (dropRequests u))) := fun u =>
    ((dropRequests_keys u).trans (stopChannels_keys _)).trans (discardBase_keys _)
  unfold depart
  dsimp only
  split
  · exact (((hrest _).trans (postureDetach_keys _)).trans (endReleaseIfAny_keys _ _)).bounded
      (releaseKeys_bounded hroom hawaits hstate)
  · refine ((hrest _).trans (endReleaseIfAny_keys _ _)).bounded ((keysBounded_iff _).2 ⟨⟨?_, ?_, ?_, nofun⟩, fun _ => rfl⟩)
    · exact hroom.count
    · exact hroom.pressed
    · exact fun h => absurd h hawaits

theorem leaveDock_bounded {dest : DockState} (hdest : dest.offLink) (why : DockReason) {s : State} (hs : s.KeysBounded) :
    (leaveDock dest why s).KeysBounded := by
  unfold leaveDock
  split
  · exact depart_bounded hdest why hs
  · exact (enterDock_keys hdest.ne_attached why s).bounded hs

theorem endRelease_keys (outcome : LatchOutcome) (s : State) : KeysKept s (endRelease outcome s) :=
  (endRelease_safe outcome s).keys (endRelease_frame outcome s) (by decide)

theorem loseDock_bounded (why : DockReason) {s : State} (hs : s.KeysBounded) : (loseDock why s).KeysBounded := by
  unfold loseDock
  split
  · exact leaveDock_bounded (.inr (.inl rfl)) _ hs
  · exact leaveDock_bounded (.inr (.inl rfl)) _ ((endRelease_keys _ s).bounded hs)

theorem feedSense_bounded (level : Bool) {s : State} (hs : s.KeysBounded) : (feedSense level s).KeysBounded := by
  unfold feedSense
  split
  · split
    · have hfirst : KeysKept s { s with dock := { s.dock with attempts := 1, reattaches := 0 } } := .of_dock
      exact (hfirst.trans (enterDock_keys (dest := .resetting) (by decide) _ _)).bounded hs
    · exact hs
  · split
    · exact hs
    · exact loseDock_bounded _ hs

/-! ## Attachment (R101 to R103, R108) -/

theorem enterIdentifying_keys (s : State) : KeysKept s (enterIdentifying s) :=
  (enterDock_keys (dest := .identifying) (by decide) .none s).trans (.of_dock (remembered := .inr rfl))

theorem failAttempt_keys (s : State) : KeysKept s (failAttempt s) := by
  unfold failAttempt
  split
  · have hcounted : KeysKept s { s with dock := { s.dock with attempts := s.dock.attempts + 1 } } := .of_dock
    exact hcounted.trans (enterDock_keys (dest := .resetting) (by decide) _ _)
  · exact enterDock_keys (by decide) _ s

theorem queueKeys_keyCount (k : KeySet) (s : State) : (queueKeys k s).keyCount = s.keyCount + 1 := by
  let u : State :=
    { s with
      dock :=
        { s.dock with
          keys := s.dock.keys ++ [{ pressed := k.pressed, fn := k.fn, synthetic := false, queued := s.tick }]
          lastPressed := !k.pressed.isEmpty } }
  have hf : SameBut reportBlocks u (queueKeys k s) := advisorTakes_frame false true (some .keys) u
  have hkeys := hf .dockKeys (by decide)
  simp only [Block.same, Prod.mk.injEq] at hkeys
  have htransaction : (queueKeys k s).host.transaction = s.host.transaction := hf .transaction (by decide)
  unfold State.keyCount State.inFlightKeys
  rw [hkeys.1, htransaction]
  simp only [u, List.length_append, List.length_singleton]
  omega

/-- A report joins where two entries are free, and three while another is awaited. -/
theorem queueKeys_bounded (k : KeySet) {s : State} (hcount : s.keyCount ≤ 14) (hawaits : s.AwaitsKeys → s.keyCount ≤ 13)
    (hremembered : s.dock.remembered = none) : (queueKeys k s).KeysBounded := by
  have hjoined := queueKeys_keyCount k s
  have hsteady := (advisorTakes_safe false true (some .keys)
    { s with
      dock :=
        { s.dock with
          keys := s.dock.keys ++ [{ pressed := k.pressed, fn := k.fn, synthetic := false, queued := s.tick }]
          lastPressed := !k.pressed.isEmpty } }).steady
  have hcycle : (queueKeys k s).AwaitsKeys → s.AwaitsKeys := awaitsKeys_of_shape hsteady.cycle
  have hnone : (queueKeys k s).dock.remembered = none := by
    have hf := advisorTakes_frame false true (some .keys)
      { s with
        dock :=
          { s.dock with
            keys := s.dock.keys ++ [{ pressed := k.pressed, fn := k.fn, synthetic := false, queued := s.tick }]
            lastPressed := !k.pressed.isEmpty } } .dockKeys (by decide)
    simp only [Block.same, Prod.mk.injEq] at hf
    exact hf.2.2.trans hremembered
  rw [keysBounded_iff]
  refine ⟨⟨by omega, fun _ => by omega, fun h => ?_, fun k hk => ?_⟩, fun _ => hnone⟩
  · have := hawaits (hcycle h)
    omega
  · rw [hnone] at hk; cases hk

/-- The remembered report is queued where it finds room, and none is remembered after. -/
theorem replayKeys_bounded {s : State} (hs : s.Room) (hfits : s.ReplayFits) : (replayKeys s).KeysBounded := by
  have hnone : ({ s with dock := { s.dock with remembered := none } } : State).KeysBounded :=
    (keysBounded_iff _).2 ⟨⟨hs.count, hs.pressed, hs.awaits, nofun⟩, fun _ => rfl⟩
  unfold replayKeys
  dsimp only
  split
  · exact hnone
  · next k hk =>
    split
    · exact hnone
    · next hpressed =>
      have hpressed : k.pressed ≠ [] := fun h => hpressed (by rw [h]; rfl)
      refine queueKeys_bounded k ?_ (fun ⟨c, hc, hkeys, hlive⟩ => ?_) rfl
      · exact hs.remembered k hk hpressed
      · exact hfits c k hc hkeys hlive hk hpressed

/-- Where a remembered report finds room it does after operations that ask for no more. -/
theorem RoomKept.replayFits {s t : State} (h : RoomKept s t) (hs : s.ReplayFits) : t.ReplayFits := by
  intro c k hc hkeys hlive hk hpressed
  obtain ⟨d, hd, hdkeys, hdlive⟩ := h.awaits ⟨c, hc, hkeys, hlive⟩
  obtain hsame | hnone := h.remembered
  · exact Nat.le_trans h.count (hs d k hd hdkeys hdlive (hsame ▸ hk) hpressed)
  · rw [hnone] at hk; cases hk

theorem advisorTakes_keys (changed activity : Bool) (cause : Option WakeCause) (s : State) :
    KeysKept s (advisorTakes changed activity cause s) :=
  (advisorTakes_safe changed activity cause s).keys (advisorTakes_frame _ _ _ s) (by decide)

theorem placeRequests_keys (r : Shares) (s : State) : KeysKept s (placeRequests r s) :=
  (placeRequests_safe r s).keys (placeRequests_frame r s) (by decide)

theorem enterAttached_bounded {s : State} (hs : s.Room) (hfits : s.ReplayFits) : (enterAttached s).KeysBounded := by
  have hclear : ∀ u, KeysKept u (clearFilter u) := fun u => .of_frame (clearFilter_frame u) (by decide)
  have hposture : ∀ u, KeysKept u (postureAttach u) := fun u =>
    (postureAttach_safe u).keys (postureAttach_frame u) (by decide)
  have hattach := ((changeDock_room .attached .none s).trans (hclear _).toRoomKept).trans (hposture _).toRoomKept
  have hreplay := replayKeys_bounded (hattach.room hs) (hattach.replayFits hfits)
  unfold enterAttached
  exact ((placeRequests_keys _ _).trans (advisorTakes_keys _ _ _ _)).bounded hreplay

theorem startMotion_keys (accelerometer : Bool) (s : State) : KeysKept s (startMotion accelerometer s) := by
  unfold startMotion
  dsimp only
  split
  · refine KeysKept.trans ?_ ((setSettle_safe _ _).keys (setSettle_frame _ _) (by decide))
    exact .of_dock
  · exact .of_dock

theorem queueMessage_keys (m : OutMessage) (s : State) : KeysKept s (queueMessage m s) := by
  unfold queueMessage
  split
  · exact .of_dock
  · exact .refl s

/-- With no exchange on the wire a remembered report always finds room. -/
theorem replayFits_of_no_cycle {s : State} (h : s.dock.cycle = none) : s.ReplayFits := by
  intro c k hc; rw [h] at hc; cases hc

/-- The state at entry to SETTLING before the settle timer is started (R102). -/
def beginSettling (i : Identity) (s : State) : State :=
  let s1 := enterDock .settling .none { s with dock := { s.dock with identity := some i } }
  let s2 := placeBase i.baseline { s1 with dock := { s1.dock with cycles := 0, extraHeld := 0 } }
  startMotion i.accelerometer (queueMessage (.cadence s2.dock.cadence) (queueMessage (.grant s2.grantTotal) s2))

theorem enterSettling_eq (i : Identity) (s : State) :
    enterSettling i s
      = if (beginSettling i s).param .attachSettle = 0 then enterAttached (beginSettling i s)
        else { beginSettling i s with
               dock := { (beginSettling i s).dock with
                         settleTimer := (beginSettling i s).timer ((beginSettling i s).param .attachSettle) } } := rfl

theorem beginSettling_keys (i : Identity) (s : State) : KeysKept s (beginSettling i s) := by
  have hident : KeysKept s { s with dock := { s.dock with identity := some i } } := .of_dock
  have hcount : ∀ u : State, KeysKept u { u with dock := { u.dock with cycles := 0, extraHeld := 0 } } := fun u => .of_dock
  have hentered := hident.trans (enterDock_keys (dest := .settling) (by decide) .none _)
  have hplace : ∀ u, KeysKept u (placeBase i.baseline u) := fun u => placeRequests_keys _ u
  have hplaced := (hentered.trans (hcount _)).trans (hplace _)
  exact ((hplaced.trans (queueMessage_keys _ _)).trans (queueMessage_keys _ _)).trans (startMotion_keys _ _)

theorem enterSettling_bounded (i : Identity) {s : State} (hs : s.KeysBounded) (hcycle : s.dock.cycle = none) :
    (enterSettling i s).KeysBounded := by
  have hbegin := beginSettling_keys i s
  rw [enterSettling_eq]
  split
  · exact enterAttached_bounded (hbegin.room ((keysBounded_iff s).1 hs).1) (hbegin.replayFits (replayFits_of_no_cycle hcycle))
  · refine KeysKept.bounded ?_ (hbegin.bounded hs)
    exact .of_dock

/-! ## Exchanges -/

theorem readControl_not_keys (payload : List Byte) (k : KeySet) : readControl payload ≠ some (.keys k) := by
  unfold readControl
  repeat' split
  all_goals simp

theorem readMotion_not_keys (payload : List Byte) (k : KeySet) : readMotion payload ≠ some (.keys k) := by
  unfold readMotion
  repeat' split
  all_goals simp

/-- A key report is read on channel 1 alone. -/
theorem judgeReply_keys {channel : Channel} {frame : List Byte} {toggle : Bool} {k : KeySet}
    (h : judgeReply channel frame = .data toggle (.keys k)) : channel = .keys := by
  have hdata : ∀ header rest, judgeData channel header rest = .data toggle (.keys k) → channel = .keys := by
    intro header rest hjudge
    unfold judgeData at hjudge
    repeat' split at hjudge
    all_goals try cases hjudge
    next m hm =>
      cases channel with
      | keys => rfl
      | control => exact absurd hm (readControl_not_keys _ k)
      | motion => exact absurd hm (readMotion_not_keys _ k)
      | output => cases hm
  unfold judgeReply at h
  repeat' split at h
  all_goals try cases h
  next => exact hdata _ _ h

theorem takePower_keys (n : Nat) (s : State) : KeysKept s (takePower n s) := by
  unfold takePower
  dsimp only
  split
  · refine KeysKept.trans ?_ (placeRequests_keys _ _)
    exact .of_dock
  · exact .of_dock

/-- A message taken with no exchange on the wire; one of keys comes with two entries free. -/
theorem takeMessage_bounded (after : Bool) (m : InMessage) {s : State} (hs : s.KeysBounded) (hcycle : s.dock.cycle = none)
    (hroom : ∀ k, m = .keys k → s.keyCount ≤ 14) : (takeMessage after m s).KeysBounded := by
  have hawaits : ¬ s.AwaitsKeys := fun ⟨c, hc, _⟩ => by rw [hcycle] at hc; cases hc
  obtain ⟨hsRoom, hsState⟩ := (keysBounded_iff s).1 hs
  cases m <;> unfold takeMessage <;> dsimp only
  case ident i =>
    split
    · exact enterSettling_bounded i hs hcycle
    · exact hs
  case power units =>
    split
    · exact (takePower_keys units s).bounded hs
    · exact hs
  case button =>
    split
    · exact ((takeButton_safe s).keys (takeButton_frame s) (by decide)).bounded hs
    · exact hs
  case keys k =>
    split
    · next hattached => exact queueKeys_bounded k (hroom k rfl) (fun h => absurd h hawaits) (hsState hattached)
    · next hattached =>
      split
      · exact (keysBounded_iff _).2 ⟨⟨hsRoom.count, hsRoom.pressed, hsRoom.awaits, fun _ _ _ => hroom k rfl⟩,
          fun h => absurd h hattached⟩
      · exact hs
  case motion x y z =>
    exact (KeysKept.of_frame (arriveInTurn_frame _ _ (arrivePolled_frame _ _ _) s) (by decide)).bounded hs

theorem sendFrame_keys (f : List Byte) (s : State) : KeysKept s (sendFrame f s) := .of_dock

theorem flipToggle_keys (c : Channel) (s : State) : KeysKept s (flipToggle c s) := .of_dock

theorem goodExchange_keys (s : State) : KeysKept s (goodExchange s) := .of_dock

theorem countFailure_bounded {s : State} (hs : s.KeysBounded) : (countFailure s).KeysBounded := by
  have hcounted : KeysKept s { s with dock := { s.dock with silence := s.dock.silence + 1 } } := .of_dock
  unfold countFailure
  dsimp only
  split
  · exact loseDock_bounded _ (hcounted.bounded hs)
  · exact hcounted.bounded hs

theorem takeStall_bounded {s : State} (hs : s.KeysBounded) : (takeStall s).KeysBounded := by
  unfold takeStall
  split
  · exact (failAttempt_keys s).bounded hs
  · split
    · split
      · refine depart_bounded (.inl rfl) _ (KeysKept.bounded ?_ hs)
        exact .of_dock
      · exact depart_bounded (.inr (.inr rfl)) _ hs
    · exact hs

theorem resolveInward_bounded (c : Cycle) (j : Judged) {s : State} (hs : s.KeysBounded) (hcycle : s.dock.cycle = none)
    (hroom : ∀ toggle k, j = .data toggle (.keys k) → s.keyCount ≤ 14) : (resolveInward c j s).KeysBounded := by
  unfold resolveInward
  split
  · next toggle m =>
    dsimp only
    split
    · have hgood := (flipToggle_keys c.channel s).trans (goodExchange_keys _)
      exact (sendFrame_keys _ _).bounded (takeMessage_bounded _ m (hgood.bounded hs) hcycle
        (fun k hm => hroom toggle k (by rw [hm])))
    · exact ((goodExchange_keys s).trans (sendFrame_keys _ _)).bounded hs
  · exact (goodExchange_keys s).bounded hs
  · exact takeStall_bounded hs
  · exact countFailure_bounded hs
  · exact countFailure_bounded hs

theorem resolveOutput_bounded (j : Judged) {s : State} (hs : s.KeysBounded) : (resolveOutput j s).KeysBounded := by
  unfold resolveOutput
  split
  · refine KeysKept.bounded ?_ hs
    exact .of_dock
  · exact (goodExchange_keys s).bounded hs
  · refine KeysKept.bounded ?_ hs
    exact .of_dock
  · exact countFailure_bounded hs
  · exact countFailure_bounded hs

theorem loadOutgoing_keys (s : State) : KeysKept s (loadOutgoing s) := by
  unfold loadOutgoing
  split
  · exact .of_dock
  · exact .refl s

/-- An exchange on channel 1 begins with two entries free. -/
theorem beginExchange_bounded (t : Tick) {c : Channel} (rest : List Channel) {s : State} (hs : s.KeysBounded)
    (hroom : c = .keys → s.keyCount ≤ 14) : (beginExchange t c rest s).KeysBounded := by
  have hloaded : KeysKept s (if c = .output then loadOutgoing s else s) := by
    split
    · exact loadOutgoing_keys s
    · exact .refl s
  have hsent := hloaded.trans (sendFrame_keys ((if c = .output then loadOutgoing s else s).openingFrame c) _)
  obtain ⟨hr, hstate⟩ := (keysBounded_iff _).1 (hsent.bounded hs)
  refine (keysBounded_iff _).2 ⟨⟨hr.count, hr.pressed, fun ⟨d, hd, hkeys, _⟩ => ?_, hr.remembered⟩, hstate⟩
  cases hd
  exact Nat.le_trans hsent.count (hroom hkeys)

theorem nextExchange_bounded (t : Tick) (channels : List Channel) {s : State} (hs : s.KeysBounded) :
    (nextExchange t channels s).KeysBounded := by
  induction channels with
  | nil =>
    refine KeysKept.bounded ?_ hs
    exact .of_dock (awaits := fun ⟨c, hc, _⟩ => nomatch hc)
  | cons c rest ih =>
    unfold nextExchange
    split
    · next hwanted =>
      refine beginExchange_bounded t rest hs fun hc => ?_
      subst hc
      have h := (Bool.and_eq_true_iff.1 hwanted).2
      have h : s.keyCount + 2 ≤ 16 := of_decide_eq_true h
      omega
    · exact ih

theorem dockCycle_bounded {s : State} (hs : s.KeysBounded) : (dockCycle s).KeysBounded := by
  unfold dockCycle
  split
  · refine nextExchange_bounded _ _ (KeysKept.bounded ?_ hs)
    exact .of_dock
  · exact hs

/-- The exchange on the wire ends with a reply to its channel or with none. -/
theorem endExchange_bounded {c : Cycle} {j : Judged} {s : State} (hs : s.KeysBounded) (hc : s.dock.cycle = some c)
    (hj : ∀ toggle k, j = .data toggle (.keys k) → c.channel = .keys) : (endExchange c j s).KeysBounded := by
  have hfree : KeysKept s { s with dock := { s.dock with cycle := none, sent := [] } } :=
    .of_dock (awaits := fun ⟨c, hc, _⟩ => nomatch hc)
  have hs1 := hfree.bounded hs
  unfold endExchange
  dsimp only
  split
  · exact hs1
  · next hlive =>
    have hroom : ∀ toggle k, j = .data toggle (.keys k) → s.keyCount ≤ 14 := fun toggle k h =>
      ((keysBounded_iff s).1 hs).1.awaits ⟨c, hc, hj toggle k h, by simpa using hlive⟩
    have hresolved : (resolve c j { s with dock := { s.dock with cycle := none, sent := [] } }).KeysBounded := by
      unfold resolve
      split
      · exact resolveOutput_bounded j hs1
      · exact resolveInward_bounded c j hs1 rfl hroom
      · exact resolveInward_bounded c j hs1 rfl hroom
      · refine resolveInward_bounded c j (KeysKept.bounded ?_ hs1) rfl hroom
        exact .of_dock
    split
    · exact nextExchange_bounded _ _ hresolved
    · exact hresolved

/-! ## The Route Engine -/

theorem feed_bounded (target : Target) (r : Sample) {s : State} (hs : s.KeysBounded) : (feed target r s).KeysBounded := by
  cases target <;> unfold feed <;> dsimp only
  case hallClosed => exact ((feedHallClosed_safe _ s).keys (feedHallClosed_frame _ s) (by decide)).bounded hs
  case hallFolded => exact ((feedHallFolded_safe _ s).keys (feedHallFolded_frame _ s) (by decide)).bounded hs
  case penPresence => exact ((feedPresence_safe _ s).keys (feedPresence_frame _ s) (by decide)).bounded hs
  case dockSense => exact feedSense_bounded _ hs
  all_goals split
  case angleBase.isFalse =>
    split
    · exact ((feedBase_safe _ s).keys (feedBase_frame _ s) (by decide)).bounded hs
    · exact hs
  case angleLid.isFalse =>
    split
    · exact ((feedLid_safe _ s).keys (feedLid_frame _ s) (by decide)).bounded hs
    · exact hs
  case chargeCurrent.isFalse => exact ((feedCurrent_safe _ _ s).keys (feedCurrent_frame _ _ s) (by decide)).bounded hs
  case chargeCell.isFalse => exact ((feedCell_safe _ s).keys (feedCell_frame _ s) (by decide)).bounded hs
  case chargeTemp.isFalse => exact ((feedTemp_safe _ s).keys (feedTemp_frame _ s) (by decide)).bounded hs
  case activity.isFalse => exact ((reportMotion_safe s).keys (reportMotion_frame s) (by decide)).bounded hs
  all_goals exact hs

theorem performFeed_bounded (e : RouteEntry) (r : Sample) (fed : List Target) {s : State} (hs : s.KeysBounded) :
    (performFeed e r fed s).1.KeysBounded := by
  unfold performFeed
  split
  · exact hs
  · split
    · exact hs
    · exact feed_bounded _ r hs

theorem performForward_keys (n : Nat) (e : RouteEntry) (r : Sample) (s : State) : KeysKept s (performForward n e r s) := by
  unfold performForward
  split
  · exact .of_frame (offerSample_frame n r s) (by decide)
  · split
    · exact (offerBatch_safe n r s).keys (offerBatch_frame n r s) (by decide)
    · exact .refl s

theorem performActions_bounded (n : Nat) (e : RouteEntry) (r : Sample) (fed : List Target) {s : State} (hs : s.KeysBounded) :
    (performActions n e r fed s).1.KeysBounded := by
  have hfeed := performFeed_bounded e r fed hs
  have htest : ∀ u, KeysKept u (performTest n e r u) := fun u =>
    (performTest_safe n e r u).keys (performTest_frame n e r u) (by decide)
  unfold performActions
  dsimp only
  split <;> split
  · exact ((htest _).trans (performForward_keys _ _ _ _)).bounded hfeed
  · exact (performForward_keys _ _ _ _).bounded hfeed
  · exact (htest _).bounded hfeed
  · exact hfeed

theorem visitEntry_bounded (w : Traversal) {s : State} (hs : s.KeysBounded) : (visitEntry w s).1.KeysBounded := by
  have hwrite : ∀ x, (writeRuntime w.entry x s).KeysBounded := fun x =>
    (KeysKept.of_frame (writeRuntime_frame _ x s) (by decide)).bounded hs
  unfold visitEntry
  dsimp only
  split
  · split
    · exact performActions_bounded _ _ _ _ (hwrite _)
    · exact hwrite _
  · exact hs

theorem endTraversal_keys (s : State) : KeysKept s (endTraversal s) := by
  have hidle : KeysKept s { s with route := { s.route with walking := none } } := .of_dock
  exact (hidle.trans (.of_frame (applyHeld_frame _) (by decide))).trans (.of_frame (takeRecord_frame _) (by decide))

theorem raise_keys (e : Event) (s : State) : KeysKept s (raise e s) := .of_frame (raise_frame e s) (by decide)

theorem visit_bounded (w : Traversal) {s : State} (hs : s.KeysBounded) : (visit w s).KeysBounded := by
  have hentry := visitEntry_bounded w hs
  unfold visit
  dsimp only
  split
  · exact (endTraversal_keys _).bounded hentry
  · split
    · exact (KeysKept.of_frame (walkOn_frame _ _) (by decide)).bounded hentry
    · exact ((raise_keys _ _).trans (endTraversal_keys _)).bounded hentry

theorem visitNext_bounded {s : State} (hs : s.KeysBounded) : (visitNext s).KeysBounded := by
  unfold visitNext
  split
  · exact hs
  · exact visit_bounded _ hs

theorem beginTraversal_bounded {s : State} (hs : s.KeysBounded) : (beginTraversal s).KeysBounded := by
  unfold beginTraversal
  split
  · exact visitNext_bounded ((KeysKept.of_frame (takeRecord_frame s) (by decide)).bounded hs)
  · exact hs

/-! ## The Host Link -/

theorem beginTransaction_keyCount {s : State} (hnone : s.host.transaction = none) :
    (beginTransaction s).keyCount = s.keyCount := by
  have hnothing : s.inFlightKeys = [] := by unfold State.inFlightKeys; rw [hnone]
  have hcount : s.keyCount = s.dock.keys.length := by unfold State.keyCount; rw [hnothing]; rfl
  rw [hcount]
  unfold beginTransaction selectUpstream selectBatch
  split
  · rfl
  · split
    · rfl
    · split
      · exact packItems_length _ _ _
      · split
        · rfl
        · split
          · split <;> rfl
          · rfl

/-- A write beside everything of the dock but the reports of the Key Queue. -/
theorem KeysKept.of_count {s t : State} (count : t.keyCount ≤ s.keyCount)
    (pressed : t.dock.lastPressed = s.dock.lastPressed) (cycle : t.dock.cycle = s.dock.cycle)
    (remembered : t.dock.remembered = s.dock.remembered) (state : t.dock.state = s.dock.state) : KeysKept s t :=
  ⟨⟨count, fun h => pressed ▸ h, awaitsKeys_of_shape (by rw [cycle]), .inl remembered⟩, fun h => state ▸ h⟩

theorem beginTransaction_keys {s : State} (hnone : s.host.transaction = none) : KeysKept s (beginTransaction s) := by
  have hdock : (beginTransaction s).dock.lastPressed = s.dock.lastPressed ∧ (beginTransaction s).dock.cycle = s.dock.cycle
      ∧ (beginTransaction s).dock.remembered = s.dock.remembered ∧ (beginTransaction s).dock.state = s.dock.state := by
    unfold beginTransaction selectUpstream selectBatch
    repeat' split
    all_goals exact ⟨rfl, rfl, rfl, rfl⟩
  obtain ⟨hpressed, hcycle, hremembered, hstate⟩ := hdock
  exact .of_count (Nat.le_of_eq (beginTransaction_keyCount hnone)) hpressed hcycle hremembered hstate

theorem deliver_dock (t : Transaction) (s : State) : (deliver t s).dock = s.dock := by
  unfold deliver
  dsimp only
  split
  · rfl
  · split <;> rfl
  all_goals rfl

theorem deliver_keys (t : Transaction) (s : State) : KeysKept s (deliver t s) := by
  have hdock := deliver_dock t s
  refine .of_count ?_ (by rw [hdock]) (by rw [hdock]) (by rw [hdock]) (by rw [hdock])
  unfold State.keyCount State.inFlightKeys
  rw [hdock, deliver_transaction]
  exact Nat.le_add_right _ _

theorem giveBack_keys (t : Transaction) {s : State} (ht : s.host.transaction = some t) : KeysKept s (giveBack t s) := by
  have hend : KeysKept s (endTransaction s) := .of_count (Nat.le_add_right s.dock.keys.length _) rfl rfl rfl rfl
  obtain ⟨frame, fe, fk, fs, fb⟩ := t
  cases frame with
  | keys content =>
    have hflight : s.inFlightKeys = content := by unfold State.inFlightKeys; rw [ht]
    refine .of_count (Nat.le_of_eq ?_) rfl rfl rfl rfl
    show (content ++ s.dock.keys).length + 0 = s.dock.keys.length + s.inFlightKeys.length
    rw [hflight, List.length_append]
    omega
  | batch i before after content =>
    exact hend.trans (.of_frame (writeBank_frame i _ (endTransaction s)) (by decide))
  | idle => exact hend
  | events content => exact hend.trans .of_dock
  | samples content => exact hend.trans .of_dock
  | response r => exact hend

theorem deliverAny_keys (s : State) : KeysKept s (deliverAny s) := by
  unfold deliverAny
  split
  · exact .refl s
  · exact deliver_keys _ s

theorem respond_keys (tag kind : Byte) (body : ResponseBody) (s : State) : KeysKept s (respond tag kind body s) :=
  .of_frame (respond_frame tag kind body s) (by decide)

theorem commitTable_keys (table : TableId) (s : State) : KeysKept s (commitTable table s).1 := by
  cases table with
  | route => exact .of_frame (commitRoute_frame s) (by decide)
  | poll => exact (commitPoll_safe s).keys (commitPoll_frame s) (by decide)
  | posture => exact (commitPosture_safe s).keys (commitPosture_frame s) (by decide)
  | orient => exact (applyOrientTable_safe _ s).keys (commitOrient_frame s) (by decide)
  | curve => exact (commitCurve_safe s).keys (commitCurve_frame s) (by decide)
  | policy => exact (applyPolicy_safe _ s).keys (commitPolicy_frame s) (by decide)
  | param => exact (applyParams_safe _ s).keys (commitParams_frame s) (by decide)

/-- The exchange on the wire keeps its shape while the platform changes and is handed on. -/
theorem platformMoved_shape (dest : Platform) {banks : State → State} (hbanks : ∀ u, SameBut [.batch] u (banks u))
    (s : State) : (repower (platformMoved dest banks s)).dock.cycle.map Cycle.shape = s.dock.cycle.map Cycle.shape := by
  have hlink := hbanks (handPlatform (movePlatform dest s)) .dockLink (by decide)
  simp only [Block.same, Prod.mk.injEq] at hlink
  obtain ⟨-, -, -, -, -, -, -, -, -, hcycle, -⟩ := hlink
  rw [(repower_steady _).cycle]
  unfold platformMoved
  rw [hcycle]
  exact (handPlatform_holds _).2.1.cycle

theorem setPlatform_keys (dest : HostState) (s : State) : KeysKept s (setPlatform dest s) := by
  have hforcing : ∀ on, KeysKept s (setForcing on s) := fun on => .of_frame (setForcing_frame on s) (by decide)
  cases dest with
  | sleeping =>
    unfold setPlatform
    dsimp only
    split
    · exact hforcing _
    · exact (hforcing _).trans (.of_shape (platformMoved_shape .asleep sleepBanks_frame _) (goToSleep_frame _) (by decide))
  | awake =>
    unfold setPlatform
    dsimp only
    split
    · exact hforcing _
    · refine (hforcing _).trans (.of_shape ?_ (comeAwake_frame _) (by decide))
      rw [comeAwake_eq]
      exact (sleepEvaluate_steady _).cycle.trans (platformMoved_shape .awake wakeBanks_frame _)

theorem resetTo_bounded (now : Tick) (why : StartReason) (s : State) : (resetTo now why s).KeysBounded := by
  have hpending : KeysKept (State.afterReset now why) (resetTo now why s) := .of_dock
  exact hpending.bounded (afterReset_keysBounded now why)

theorem takeCommand_bounded (c : HostCommand) {s : State} (hs : s.KeysBounded) : (takeCommand c s).KeysBounded := by
  cases c with
  | nop tag => exact (respond_keys _ _ _ s).bounded hs
  | tableWrite tag table first count entries =>
    have hwrite : KeysKept s (writeTable table first count entries s).1 :=
      .of_frame (writeTable_frame table first count entries s) (by decide)
    exact (hwrite.trans (respond_keys _ _ _ _)).bounded hs
  | tableRead tag table copy first count => exact (respond_keys _ _ _ s).bounded hs
  | tableCommit tag table => exact ((commitTable_keys table s).trans (respond_keys _ _ _ _)).bounded hs
  | readState tag => exact (respond_keys _ _ _ s).bounded hs
  | rotationLock tag on =>
    have hlock := (lockRotation_safe on s).keys (lockRotation_frame on s) (by decide)
    exact (hlock.trans (respond_keys _ _ _ _)).bounded hs
  | chargeInhibit tag on =>
    have hinhibit := (inhibitCharge_safe on s).keys (inhibitCharge_frame on s) (by decide)
    exact (hinhibit.trans (respond_keys _ _ _ _)).bounded hs
  | clearFault tag =>
    have hclear := (clearFaultOf_safe s).keys (clearFaultOf_frame s) (by decide)
    exact (hclear.trans (respond_keys _ _ _ _)).bounded hs
  | detach tag =>
    show (takeDetach tag s).KeysBounded
    unfold takeDetach
    split
    · next t ht =>
      have hrelease := (requestRelease_safe ht).keys (requestRelease_frame s t ht) (by decide)
      exact (hrelease.trans (respond_keys _ _ _ _)).bounded hs
    · exact (respond_keys _ _ _ s).bounded hs
  | detachCancel tag => exact ((endReleaseIfAny_keys _ s).trans (respond_keys _ _ _ _)).bounded hs
  | dockOutput tag backlight indicators =>
    show (takeDockOutput tag backlight indicators s).KeysBounded
    unfold takeDockOutput
    split
    · exact ((queueMessage_keys _ s).trans (respond_keys _ _ _ _)).bounded hs
    · exact (respond_keys _ _ _ s).bounded hs
  | setPlatformState tag dest => exact ((setPlatform_keys dest s).trans (respond_keys _ _ _ _)).bounded hs
  | resetPart tag => exact resetTo_bounded _ _ s

theorem riseSelect_bounded {t : Transaction} (clocked : List Byte) {s : State} (hs : s.KeysBounded)
    (ht : s.host.transaction = some t) : (riseSelect t clocked s).KeysBounded := by
  have hdeliver := (deliver_keys t s).bounded hs
  unfold riseSelect
  split
  · unfold takeFrame
    dsimp only
    split
    · exact hdeliver
    · split
      · exact takeCommand_bounded _ hdeliver
      · exact (respond_keys _ _ _ _).bounded hdeliver
  · exact (giveBack_keys t ht).bounded hs

/-! ## Every command -/

theorem boundary_bounded (levels : LineLevels) (readings : ConverterReadings) (arrival : List Source) {s : State}
    (hs : s.KeysBounded) : (boundary levels readings arrival s).KeysBounded := by
  have hports : KeysKept s (samplePorts levels readings arrival (countTick (landRest s))) :=
    ((KeysKept.of_frame (landRest_frame s) (by decide)).trans (.of_frame (countTick_frame _) (by decide))).trans
      (.of_frame (samplePorts_frame _ _ _ _) (by decide))
  exact ((duePeriod_safe _).keys (duePeriod_frame _) (by decide)).bounded (dockCycle_bounded (hports.bounded hs))

theorem onPoll_keys {act : BusPoll → State → State} {l : List Block} (h : ∀ p u, SameBut l u (act p u))
    (hl : ∀ b ∈ [Block.dockState, .dockLink, .dockKeys, .transaction], b ∉ l) (s : State) : KeysKept s (onPoll act s) := by
  unfold onPoll
  split
  · exact .refl s
  · exact .of_frame (h _ s) hl

theorem onExchange_bounded {judge : Cycle → Judged} {s : State} (hs : s.KeysBounded)
    (hj : ∀ c toggle k, judge c = .data toggle (.keys k) → c.channel = .keys) : (onExchange judge s).KeysBounded := by
  unfold onExchange
  split
  · exact hs
  · next c hc => exact endExchange_bounded hs hc (hj c)

theorem KeysKept.ite {p : Prop} [Decidable p] {s t : State} (h : p → KeysKept s t) : KeysKept s (if p then t else s) := by
  split
  · next hp => exact h hp
  · exact .refl s

theorem host_bounded (c : HostCommand) {s : State} (hs : s.KeysBounded) : (takeCommand c (deliverAny s)).KeysBounded :=
  takeCommand_bounded c ((deliverAny_keys s).bounded hs)

theorem effect_bounded (c : Instr) {s : State} (hs : s.KeysBounded) (hfits : c = .settleTimerExpiry → s.ReplayFits) :
    (effect c s).KeysBounded := by
  cases c with
  | powerOnReset => exact resetTo_bounded _ _ s
  | resetPart tag => exact host_bounded (.resetPart tag) hs
  | tick lines readings arrival => exact boundary_bounded lines readings arrival hs
  | busPollStart => exact (KeysKept.of_frame (startPoll_frame s) (by decide)).bounded hs
  | pollSuccess reading =>
    exact (onPoll_keys (fun poll u => succeedPoll_frame poll reading u) (by decide) s).bounded hs
  | noAcknowledge => exact (onPoll_keys (fun poll u => failPoll_frame poll.source u) (by decide) s).bounded hs
  | busTimeout =>
    refine (onPoll_keys (act := fun poll t => if 5 ≤ s.since poll.started then failPoll poll.source t else t)
      (l := [.poll, .gaps, .events]) (fun poll u => ?_) (by decide) s).bounded hs
    split
    · exact failPoll_frame poll.source u
    · exact .refl _ u
  | traversalBegin => exact beginTraversal_bounded hs
  | routeVisit => exact visitNext_bounded hs
  | vectorAgeDiscard => exact (KeysKept.of_frame (discardAged_frame s) (by decide)).bounded hs
  | postureDwellExpiry =>
    exact (KeysKept.ite fun _ => (classify_safe true s).keys (classify_frame true s) (by decide)).bounded hs
  | rotationDwellExpiry =>
    exact (KeysKept.ite fun _ => (expireRotation_safe s).keys (expireRotation_frame s) (by decide)).bounded hs
  | dockReply frame => exact onExchange_bounded hs fun c toggle k h => judgeReply_keys h
  | replyTimeout => exact onExchange_bounded hs nofun
  | byteTimeout => exact onExchange_bounded hs nofun
  | resetPulseEnd => exact (KeysKept.ite fun _ => enterIdentifying_keys s).bounded hs
  | identifyTimerExpiry => exact (KeysKept.ite fun _ => failAttempt_keys s).bounded hs
  | settleTimerExpiry =>
    show (if s.due s.dock.settleTimer && s.dock.state = .settling then enterAttached s else s).KeysBounded
    split
    · exact enterAttached_bounded ((keysBounded_iff s).1 hs).1 (hfits rfl)
    · exact hs
  | preparationTimerExpiry =>
    refine (KeysKept.ite fun h => (openLatch_safe ?_).keys (openLatch_frame s) (by decide)).bounded hs
    exact of_decide_eq_true (Bool.and_eq_true_iff.1 h).2
  | releaseWindowExpiry => exact (KeysKept.ite fun _ => endRelease_keys _ s).bounded hs
  | retryWaitExpiry =>
    exact (KeysKept.ite fun _ => (expireRetry_safe s).keys (expireRetry_frame s) (by decide)).bounded hs
  | restTimerExpiry => exact (KeysKept.ite fun _ => (endRest_safe s).keys (endRest_frame s) (by decide)).bounded hs
  | goodRunTimerExpiry =>
    refine (KeysKept.ite fun _ => ?_).bounded hs
    exact .of_dock
  | inactivityTimerExpiry =>
    refine (KeysKept.ite fun _ => KeysKept.trans (t := { s with advisor := { s.advisor with idleTimer := none } }) ?_
      ((sleepEvaluate_safe _).keys (sleepEvaluate_frame _) (by decide))).bounded hs
    exact .of_dock
  | adviceTimerExpiry =>
    refine (KeysKept.ite fun h => (timeOutAdvice_safe ?_).keys (timeOutAdvice_frame s) (by decide)).bounded hs
    exact of_decide_eq_true (Bool.and_eq_true_iff.1 h).2
  | attnPulseEnd =>
    refine KeysKept.bounded ?_ hs
    exact .of_dock
  | chipSelectFall =>
    show (fallSelect s).KeysBounded
    unfold fallSelect
    split
    · next hnone => exact (beginTransaction_keys hnone).bounded hs
    · exact hs
  | chipSelectRise clocked =>
    show (riseIfLow clocked s).KeysBounded
    unfold riseIfLow
    split
    · exact hs
    · next t ht => exact riseSelect_bounded clocked hs ht
  | nop tag => exact host_bounded (.nop tag) hs
  | tableWrite tag table first count entries => exact host_bounded (.tableWrite tag table first count entries) hs
  | tableRead tag table copy first count => exact host_bounded (.tableRead tag table copy first count) hs
  | tableCommit tag table => exact host_bounded (.tableCommit tag table) hs
  | readState tag => exact host_bounded (.readState tag) hs
  | rotationLock tag on => exact host_bounded (.rotationLock tag on) hs
  | chargeInhibit tag on => exact host_bounded (.chargeInhibit tag on) hs
  | clearFault tag => exact host_bounded (.clearFault tag) hs
  | detach tag => exact host_bounded (.detach tag) hs
  | detachCancel tag => exact host_bounded (.detachCancel tag) hs
  | dockOutput tag backlight indicators => exact host_bounded (.dockOutput tag backlight indicators) hs
  | setPlatformState tag dest => exact host_bounded (.setPlatformState tag dest) hs

/-- Settles O56: what joins a queue finds the room that the state before keeps for it, command by command. -/
theorem stepsKeepTheQueuesBounded : Obligations.StepsKeepTheQueuesBounded := by
  refine ⟨fun s t hs h => (step_sound h).queues hs, fun s t hs hpending h => ?_⟩
  obtain rfl | ⟨c, rest, hc, rfl⟩ := step_cases h
  · exact hs
  · have hwaiting : KeysKept s { s with pending := rest } := .of_dock
    have hsettled : ∀ u v : State, KeysKept v (settleAttention u v) := fun u v =>
      .of_frame (settleAttention_frame u v) (by decide)
    refine (hsettled _ _).bounded (effect_bounded c (hwaiting.bounded hs) fun hexpiry => ?_)
    exact hwaiting.toRoomKept.replayFits (hpending rest (by rw [hc, hexpiry]))

end Sys2Proof.Machine
end

section
/-! The waiting commands stay, and the two resets: the first statements of the step. -/

namespace Sys2Proof.Machine

-- One theorem after another, as in the model's tests: a theorem that waits for a kernel evaluation holds a thread.
set_option Elab.async false

theorem onPoll_frame {act : BusPoll → State → State} {l : List Block} (h : ∀ p u, SameBut l u (act p u)) (s : State) :
    SameBut l s (onPoll act s) := by
  unfold onPoll
  split
  · exact .refl _ s
  · exact h _ s

theorem onExchange_frame (judge : Cycle → Judged) (s : State) : SameBut exchangeBlocks s (onExchange judge s) := by
  unfold onExchange
  split
  · exact .refl _ s
  · exact endExchange_frame _ _ s

/-- A timer's effect touches what its action touches. -/
theorem SameBut.ite {p : Prop} [Decidable p] {l : List Block} {s t : State} (h : SameBut l s t) :
    SameBut l s (if p then t else s) := by
  split
  · exact h
  · exact .refl l s

theorem endGoodRun_frame (s : State) : SameBut [.pen] s (endGoodRun s) := by
  intro b hb
  cases b <;> first | rfl | exact absurd (by decide) hb

theorem expireIdle_frame (s : State) :
    SameBut adviceBlocks s (sleepEvaluate { s with advisor := { s.advisor with idleTimer := none } }) := by
  refine SameBut.trans ?_ (sleepEvaluate_frame _)
  intro b hb
  cases b <;> first | rfl | exact absurd (by decide) hb

/-- Everything but the attention pulse and the waiting commands. -/
def workBlocks : List Block :=
  [.tick, .params, .staging, .poll, .lines, .fifo, .gaps, .routeTable, .routeRuntime, .routeHold, .routeWalking, .angle,
    .posture, .orient, .dockState, .dockLink, .dockKeys, .latch, .pen, .supply, .advisor, .batch, .slot, .events, .samples,
    .transaction]

/-- A command works on the blocks of the part, or it resets them. -/
def Works (s t : State) : Prop :=
  SameBut workBlocks s t ∨ ∃ now why u, SameBut workBlocks s u ∧ t = resetTo now why u

theorem Works.of_frame {l : List Block} {s t : State} (h : SameBut l s t) (sub : ∀ b ∈ l, b ∈ workBlocks) : Works s t :=
  .inl (h.mono _ sub)

theorem Works.refl (s : State) : Works s s := .inl (.refl _ s)

theorem Works.after {l : List Block} {s t u : State} (h : SameBut l s t) (sub : ∀ b ∈ l, b ∈ workBlocks) (k : Works t u) :
    Works s u := by
  obtain k | ⟨now, why, v, hv, rfl⟩ := k
  · exact .inl ((h.mono _ sub).trans k)
  · exact .inr ⟨now, why, v, (h.mono _ sub).trans hv, rfl⟩

theorem Works.pending {s t : State} (h : Works s t) : t.pending = s.pending := by
  obtain h | ⟨now, why, u, hu, rfl⟩ := h
  · exact h .pending (by decide)
  · exact hu .pending (by decide)

/-- Outside LEVEL mode nothing has been reset, so a pulse being driven goes on. -/
theorem Works.pulse {s t : State} (h : Works s t) (hlevel : t.levelMode = false) : t.host.pulse = s.host.pulse := by
  obtain h | ⟨now, why, u, -, rfl⟩ := h
  · exact h .pulse (by decide)
  · cases hlevel

theorem takeCommand_works (c : HostCommand) (s : State) : Works s (takeCommand c s) := by
  have hanswer : ∀ {l : List Block} {u : State} (tag kind : Byte) (body : ResponseBody), SameBut l s u →
      (∀ b ∈ l, b ∈ workBlocks) → Works s (respond tag kind body u) := fun tag kind body h sub =>
    .after h sub (.of_frame (respond_frame tag kind body _) (by decide))
  have hcommit : ∀ tag table, Works s (takeTableCommit tag table s) := by
    intro tag table
    cases table with
    | route => exact hanswer tag 4 _ (commitRoute_frame s) (by decide)
    | poll => exact hanswer tag 4 _ (commitPoll_frame s) (by decide)
    | posture => exact hanswer tag 4 _ (commitPosture_frame s) (by decide)
    | orient => exact hanswer tag 4 _ (commitOrient_frame s) (by decide)
    | curve => exact hanswer tag 4 _ (commitCurve_frame s) (by decide)
    | policy => exact hanswer tag 4 _ (commitPolicy_frame s) (by decide)
    | param => exact hanswer tag 4 _ (commitParams_frame s) (by decide)
  cases c with
  | nop tag => exact hanswer tag 1 _ (.refl [] s) (by decide)
  | tableWrite tag table first count entries =>
    exact hanswer tag 2 _ (writeTable_frame table first count entries s) (by decide)
  | tableRead tag table copy first count => exact hanswer tag 3 _ (.refl [] s) (by decide)
  | tableCommit tag table => exact hcommit tag table
  | readState tag => exact hanswer tag 5 _ (.refl [] s) (by decide)
  | rotationLock tag on => exact hanswer tag 6 _ (lockRotation_frame on s) (by decide)
  | chargeInhibit tag on => exact hanswer tag 7 _ (inhibitCharge_frame on s) (by decide)
  | clearFault tag => exact hanswer tag 8 _ (clearFaultOf_frame s) (by decide)
  | detach tag =>
    show Works s (takeDetach tag s)
    unfold takeDetach
    split
    · next t ht => exact hanswer tag 9 _ (requestRelease_frame s t ht) (by decide)
    · exact hanswer tag 9 _ (.refl [] s) (by decide)
  | detachCancel tag => exact hanswer tag 10 _ (endReleaseIfAny_frame _ s) (by decide)
  | dockOutput tag backlight indicators =>
    show Works s (takeDockOutput tag backlight indicators s)
    unfold takeDockOutput
    split
    · exact hanswer tag 11 _ (queueMessage_frame _ s) (by decide)
    · exact hanswer tag 11 _ (.refl [] s) (by decide)
  | setPlatformState tag dest => exact hanswer tag 12 _ (setPlatform_frame dest s) (by decide)
  | resetPart tag => exact .inr ⟨s.tick, .soft, s, .refl _ s, rfl⟩

theorem host_works (c : HostCommand) (s : State) : Works s (takeCommand c (deliverAny s)) :=
  .after (deliverAny_frame s) (by decide) (takeCommand_works c _)

theorem riseSelect_works (t : Transaction) (clocked : List Byte) (s : State) : Works s (riseSelect t clocked s) := by
  unfold riseSelect takeFrame
  dsimp only
  split
  · refine .after (deliver_frame t s) (by decide) ?_
    split
    · exact .refl _
    · split
      · exact takeCommand_works _ _
      · exact .of_frame (respond_frame _ _ _ _) (by decide)
  · exact .of_frame (giveBack_frame t s) (by decide)

theorem boundary_frame (levels : LineLevels) (readings : ConverterReadings) (arrival : List Source) (s : State) :
    SameBut [.tick, .lines, .poll, .fifo, .gaps, .dockLink, .supply, .pen, .advisor, .events] s
      (boundary levels readings arrival s) := by
  have hports : SameBut [.tick, .lines, .poll, .fifo, .gaps, .dockLink, .supply, .pen, .advisor, .events] s
      (samplePorts levels readings arrival (countTick (landRest s))) :=
    (((landRest_frame s).mono _ (by decide)).trans ((countTick_frame _).mono _ (by decide))).trans
      ((samplePorts_frame _ _ _ _).mono _ (by decide))
  exact (hports.trans ((dockCycle_frame _).mono _ (by decide))).trans ((duePeriod_frame _).mono _ (by decide))

/-- What a command but the end of a pulse does. -/
theorem effect_works {c : Instr} (s : State) (hc : c ≠ .attnPulseEnd) : Works s (effect c s) := by
  cases c with
  | powerOnReset => exact .inr ⟨0, .powerOn, s, .refl _ s, rfl⟩
  | resetPart tag => exact host_works (.resetPart tag) s
  | tick lines readings arrival => exact .of_frame (boundary_frame lines readings arrival s) (by decide)
  | busPollStart => exact .of_frame (startPoll_frame s) (by decide)
  | pollSuccess reading => exact .of_frame (onPoll_frame (fun poll u => succeedPoll_frame poll reading u) s) (by decide)
  | noAcknowledge => exact .of_frame (onPoll_frame (fun poll u => failPoll_frame poll.source u) s) (by decide)
  | busTimeout =>
    exact .of_frame (onPoll_frame (act := fun poll t => if 5 ≤ s.since poll.started then failPoll poll.source t else t)
      (fun poll u => .ite (failPoll_frame poll.source u)) s) (by decide)
  | traversalBegin => exact .of_frame (beginTraversal_frame s) (by decide)
  | routeVisit => exact .of_frame (visitNext_frame s) (by decide)
  | vectorAgeDiscard => exact .of_frame (discardAged_frame s) (by decide)
  | postureDwellExpiry => exact .of_frame (.ite (classify_frame true s)) (by decide)
  | rotationDwellExpiry => exact .of_frame (.ite (expireRotation_frame s)) (by decide)
  | dockReply frame => exact .of_frame (onExchange_frame _ s) (by decide)
  | replyTimeout => exact .of_frame (onExchange_frame _ s) (by decide)
  | byteTimeout => exact .of_frame (onExchange_frame _ s) (by decide)
  | resetPulseEnd => exact .of_frame (.ite (enterIdentifying_frame s)) (by decide)
  | identifyTimerExpiry => exact .of_frame (.ite (failAttempt_frame s)) (by decide)
  | settleTimerExpiry => exact .of_frame (.ite (enterAttached_frame s)) (by decide)
  | preparationTimerExpiry => exact .of_frame (.ite (openLatch_frame s)) (by decide)
  | releaseWindowExpiry => exact .of_frame (.ite (endRelease_frame _ s)) (by decide)
  | retryWaitExpiry => exact .of_frame (.ite (expireRetry_frame s)) (by decide)
  | restTimerExpiry => exact .of_frame (.ite (endRest_frame s)) (by decide)
  | goodRunTimerExpiry => exact .of_frame (.ite (endGoodRun_frame s)) (by decide)
  | inactivityTimerExpiry => exact .of_frame (.ite (expireIdle_frame s)) (by decide)
  | adviceTimerExpiry => exact .of_frame (.ite (timeOutAdvice_frame s)) (by decide)
  | attnPulseEnd => exact absurd rfl hc
  | chipSelectFall =>
    show Works s (fallSelect s)
    unfold fallSelect
    split
    · exact .of_frame (beginTransaction_frame s) (by decide)
    · exact .refl s
  | chipSelectRise clocked =>
    show Works s (riseIfLow clocked s)
    unfold riseIfLow
    split
    · exact .refl s
    · exact riseSelect_works _ clocked s
  | nop tag => exact host_works (.nop tag) s
  | tableWrite tag table first count entries => exact host_works (.tableWrite tag table first count entries) s
  | tableRead tag table copy first count => exact host_works (.tableRead tag table copy first count) s
  | tableCommit tag table => exact host_works (.tableCommit tag table) s
  | readState tag => exact host_works (.readState tag) s
  | rotationLock tag on => exact host_works (.rotationLock tag on) s
  | chargeInhibit tag on => exact host_works (.chargeInhibit tag on) s
  | clearFault tag => exact host_works (.clearFault tag) s
  | detach tag => exact host_works (.detach tag) s
  | detachCancel tag => exact host_works (.detachCancel tag) s
  | dockOutput tag backlight indicators => exact host_works (.dockOutput tag backlight indicators) s
  | setPlatformState tag dest => exact host_works (.setPlatformState tag dest) s

/-- No command touches the commands that wait. -/
theorem effect_pending (c : Instr) (s : State) : (effect c s).pending = s.pending := by
  by_cases hc : c = .attnPulseEnd
  · subst hc; rfl
  · exact (effect_works s hc).pending

/-- Settles O1: a step is the front command's effect, and each effect leaves the queue by its frame. -/
theorem stepTakesTheFrontCommand : Obligations.StepTakesTheFrontCommand :=
  ⟨fun _ _ _ => rfl, fun c s => ⟨_, exec_eq c s, effect_pending c s⟩⟩

/-- After a reset the attention line is in LEVEL mode and drives no pulse. -/
theorem settleAttention_resetTo (u : State) (now : Tick) (why : StartReason) (s : State) :
    settleAttention u (resetTo now why s) = resetTo now why s := by
  have hlevel : (resetTo now why s).levelMode = true := rfl
  have hpulse : pulseAfter u (resetTo now why s) = false := by
    unfold pulseAfter; rw [hlevel]; rfl
  unfold settleAttention
  rw [hpulse]
  rfl

/-- Settles O2: the state after a reset is written out, and the delivery before RESET_PART leaves the count and the queue. -/
theorem resetsLeaveTheResetState : Obligations.ResetsLeaveTheResetState := by
  refine ⟨fun s => ?_, fun tag s => ?_, rfl, fun now why => ⟨_, rfl, rfl, rfl, rfl, rfl, rfl, rfl, rfl, ?_, ?_, ?_, ?_, rfl,
    rfl, rfl, rfl, rfl, ?_, rfl, rfl, rfl, rfl, rfl, rfl, rfl, rfl, rfl, rfl, rfl, rfl, rfl, rfl, rfl, rfl, rfl, rfl, rfl,
    rfl, rfl, rfl, rfl, rfl, rfl, rfl, rfl, rfl, rfl, rfl, rfl, rfl, rfl⟩⟩
  · exact congrArg Host.Outcome.next (settleAttention_resetTo s 0 .powerOn s)
  · have hf := deliverAny_frame s
    have htick : (deliverAny s).tick = s.tick := hf .tick (by decide)
    have hpending : (deliverAny s).pending = s.pending := hf .pending (by decide)
    have hreset : takeResetPart (deliverAny s) = resetTo s.tick .soft s := by
      unfold takeResetPart softReset resetTo; rw [htick, hpending]
    show Host.Outcome.next (settleAttention s (takeResetPart (deliverAny s))) = _
    rw [hreset, settleAttention_resetTo]
    rfl
  · intro src; cases src <;> rfl
  · intro l; cases l <;> rfl
  · intro p; cases p <;> rfl
  · intro b; cases b <;> rfl
  · intro e he; exact List.eq_of_mem_replicate he

/-! ## The attention line -/

/-- Settles O47: the pulse after a command is `pulseAfter`, and no command but a reset and the end of a pulse writes it. -/
theorem attentionLineFollowsTheHoldings : Obligations.AttentionLineFollowsTheHoldings := by
  refine ⟨fun s => ?_, fun s => ?_, fun c s => ⟨_, exec_eq c s, ?_⟩⟩
  · simp [State.attention, State.levelMode]
  · let u : State := { s with host := { s.host with pulse := false } }
    have hholdings : u.holdings = s.holdings := rfl
    have hlevel : u.levelMode = s.levelMode := rfl
    have hpulse : pulseAfter s u = false := by
      unfold pulseAfter
      rw [hholdings, hlevel, Holdings.filled_self]
      cases s.levelMode <;> rfl
    show Host.Outcome.next (settleAttention s u) = _
    unfold settleAttention
    rw [hpulse]
  · have hlevel : (settleAttention s (effect c s)).levelMode = (effect c s).levelMode := rfl
    have hholdings : (settleAttention s (effect c s)).holdings = (effect c s).holdings := rfl
    rw [hlevel, hholdings, settleAttention_host_pulse]
    unfold pulseAfter
    refine ⟨fun h => by rw [h]; rfl, fun h hs => by rw [h, hs]; rfl, fun h hs hf => ?_, fun h hs hf hc => ?_⟩
    · rw [h, hs, hf]; exact Bool.or_true _
    · rw [h, hs, hf, (effect_works s hc).pulse h]; exact Bool.or_false _

end Sys2Proof.Machine
end

section
/-! Reads after writes of the indexed blocks, and the statements about the Host Link's queries, TABLE_WRITE and DOCK_OUTPUT. -/

namespace Sys2Proof.Machine

-- One theorem after another, as in the model's tests: a theorem that waits for a kernel evaluation holds a thread.
set_option Elab.async false

/-! ## Reads after writes -/

theorem PerPolled.get_set {α : Type} (t : PerPolled α) (p q : Polled) (x : α) :
    (t.set p x).get q = if q = p then x else t.get q := by cases p <;> cases q <;> rfl

theorem PerBus.get_set {α : Type} (t : PerBus α) (p q : Bus) (x : α) :
    (t.set p x).get q = if q = p then x else t.get q := by cases p <;> cases q <;> rfl

theorem PerLine.get_set {α : Type} (t : PerLine α) (p q : Line) (x : α) :
    (t.set p x).get q = if q = p then x else t.get q := by cases p <;> cases q <;> rfl

theorem PerChannel.get_set {α : Type} (t : PerChannel α) (p q : Channel) (x : α) :
    (t.set p x).get q = if q = p then x else t.get q := by cases p <;> cases q <;> rfl

theorem PerTable.get_set {α : Type} (t : PerTable α) (p q : TableId) (x : α) :
    (t.set p x).get q = if q = p then x else t.get q := by cases p <;> cases q <;> rfl

theorem BatchBlock.bank_setBank (b : BatchBlock) (i j : BankId) (x : Bank) :
    (b.setBank i x).bank j = if j = i then x else b.bank j := by cases i <;> cases j <;> rfl

theorem BatchBlock.bank_order (b : BatchBlock) (o : List BankId) (j : BankId) : ({ b with order := o } : BatchBlock).bank j = b.bank j := by
  cases j <;> rfl

theorem writeBank_bank (i j : BankId) (x : Bank) (s : State) :
    (writeBank i x s).batch.bank j = if j = i then x else s.batch.bank j := BatchBlock.bank_setBank _ _ _ _

theorem writeBank_order (i : BankId) (x : Bank) (s : State) : (writeBank i x s).batch.order = s.batch.order := by
  cases i <;> rfl

theorem freeBank_bank (i j : BankId) (s : State) :
    (freeBank i s).batch.bank j = if j = i then bankFree else s.batch.bank j :=
  (BatchBlock.bank_order _ _ j).trans (BatchBlock.bank_setBank _ _ _ _)

theorem freeBank_order (i : BankId) (s : State) : (freeBank i s).batch.order = s.batch.order.filter (fun j => j ≠ i) := rfl

/-! ## A command's state under the attention line -/

/-- What a command touches besides the attention pulse. -/
theorem SameBut.settled {l m : List Block} {u v : State} (s : State) (h : SameBut l u v)
    (sub : ∀ b ∈ l, b ∈ m := by decide) (pulse : ∀ b ∈ [Block.pulse], b ∈ m := by decide) :
    SameBut m u (settleAttention s v) := h.seq (settleAttention_frame s v) sub pulse

/-- A command that does nothing only lets the attention line age. -/
theorem settle_self (s : State) : settleAttention s s = s.lineKept := settle_lineKept rfl rfl

/-! ## BUS_POLL_START -/

theorem startPoll_of_free {s : State} {w : WaitingPoll} {rest : List WaitingPoll} (hbus : s.poll.onBus = none)
    (hwaiting : s.poll.waiting = w :: rest) :
    startPoll s = { s with
      poll := { s.poll with
        waiting := rest, onBus := some { source := w.source, started := s.tick, afterMark := w.afterMark } } } := by
  unfold startPoll; rw [hbus, hwaiting]

theorem startPoll_of_none {s : State} (h : s.poll.onBus ≠ none ∨ s.poll.waiting = []) : startPoll s = s := by
  unfold startPoll
  split
  · next hbus hwaiting =>
    obtain h | h := h
    · exact absurd hbus h
    · rw [hwaiting] at h; cases h
  · rfl

/-- Settles O11: no holding is touched, so the attention line only ages. -/
theorem busPollStartTakesTheHead : Obligations.BusPollStartTakesTheHead := by
  refine fun s => ⟨fun w rest hbus hwaiting => ?_, fun h => ?_⟩
  · refine congrArg Host.Outcome.next ?_
    show settleAttention s (startPoll s) = _
    rw [startPoll_of_free hbus hwaiting]
    exact settle_lineKept rfl rfl
  · refine congrArg Host.Outcome.next ?_
    show settleAttention s (startPoll s) = _
    rw [startPoll_of_none h]
    exact settle_self s

/-! ## The delivery of a transaction (R164) -/

theorem deliver_slot_of_response {t : Transaction} {r : Response} (s : State) (h : t.frame = .response r) :
    (deliver t s).host.slot = none := by
  unfold deliver; rw [h]

theorem deliver_slot_of_other {t : Transaction} (s : State) (h : ∀ r, t.frame ≠ .response r) :
    (deliver t s).host.slot = s.host.slot := by
  unfold deliver
  dsimp only
  split
  · next r hr => exact absurd hr (h r)
  · split <;> rfl
  all_goals rfl

/-- The bank whose last record went is freed. -/
theorem deliver_of_emptied {t : Transaction} {i : BankId} {before after : Bool} {content : List Forwarded} {s : State}
    (h : t.frame = .batch i before after content) (hempty : (s.batch.bank i).records = []) :
    deliver t s = freeBank i (endTransaction s) := by
  unfold deliver
  rw [h]
  have : ((endTransaction s).batch.bank i).records.isEmpty = true := by
    show (s.batch.bank i).records.isEmpty = true
    rw [hempty]; rfl
  dsimp only
  rw [if_pos this]

theorem deliver_batch_of_other {t : Transaction} {s : State}
    (h : ∀ i before after content, t.frame = .batch i before after content → (s.batch.bank i).records ≠ []) :
    (deliver t s).batch = s.batch := by
  unfold deliver
  dsimp only
  split
  · rfl
  · next i before after content hf =>
    have hne : ((endTransaction s).batch.bank i).records.isEmpty ≠ true := by
      show (s.batch.bank i).records.isEmpty ≠ true
      rw [Ne, List.isEmpty_iff]; exact h i before after content hf
    rw [if_neg hne]; rfl
  all_goals rfl

/-! ## TABLE_READ -/

/-- The range check of a read or a write in words. -/
theorem rangeFits_iff (table : TableId) (first count : Byte) :
    rangeFits table first count = true ↔ count ≠ 0 ∧ first.toNat + count.toNat ≤ table.capacity := by
  simp [rangeFits]

theorem readTable_of_misfit {table : TableId} {copy : Copy} {first count : Byte} {s : State}
    (h : count = 0 ∨ table.capacity < first.toNat + count.toNat ∨ 249 < count.toNat * table.entrySize) :
    readTable table copy first count s = .refused .badIndex := by
  refine if_pos ?_
  rw [← Bool.not_eq_true, rangeFits_iff]
  by_cases hc : count = 0
  · exact .inl (fun h => h.1 hc)
  · obtain h | h | h := h
    · exact absurd h hc
    · exact .inl (fun hr => absurd hr.2 (Nat.not_le.2 h))
    · exact .inr h

theorem readTable_of_fits {table : TableId} {copy : Copy} {first count : Byte} {s : State} (hc : count ≠ 0)
    (hr : first.toNat + count.toNat ≤ table.capacity) (hs : count.toNat * table.entrySize ≤ 249) :
    readTable table copy first count s
      = .tableData table copy first count (((s.tableCopy table copy).drop first.toNat).take count.toNat).flatten := by
  refine if_neg ?_
  rw [← Bool.not_eq_true, rangeFits_iff]
  rintro (h | h)
  · exact h ⟨hc, hr⟩
  · omega

/-- The tables and their copies are no part of a delivery. -/
theorem deliverAny_tableCopy (table : TableId) (copy : Copy) (s : State) :
    (deliverAny s).tableCopy table copy = s.tableCopy table copy := by
  have hf := deliverAny_frame s
  have hstaging : (deliverAny s).staging = s.staging := hf .staging (by decide)
  have hroute : (deliverAny s).route.table = s.route.table := hf .routeTable (by decide)
  have hpoll : (deliverAny s).poll = s.poll := hf .poll (by decide)
  have hposture : (deliverAny s).posture = s.posture := hf .posture (by decide)
  have horient : (deliverAny s).orient = s.orient := hf .orient (by decide)
  have hpen : (deliverAny s).pen = s.pen := hf .pen (by decide)
  have hadvisor : (deliverAny s).advisor = s.advisor := hf .advisor (by decide)
  have hparams : (deliverAny s).params = s.params := hf .params (by decide)
  cases copy with
  | staging => exact congrArg (PerTable.get · table) hstaging
  | active =>
    show (deliverAny s).activeCopy table = s.activeCopy table
    unfold State.activeCopy
    rw [hroute, hpoll, hposture, horient, hpen, hadvisor, hparams]

/-- A command that only answers. -/
theorem respond_only (tag kind : Byte) (body : ResponseBody) (s u : State) :
    SameBut [.slot, .pulse] u (settleAttention s (respond tag kind body u)) := (respond_frame tag kind body u).settled s

/-- Settles O52: each query is its response after the delivery, and the delivery goes by the frame delivered. -/
theorem queriesAreAnswered : Obligations.QueriesAreAnswered := by
  refine ⟨fun tag s => ⟨_, exec_eq _ s, rfl, respond_only tag 1 _ s _⟩, fun tag s => ⟨_, exec_eq _ s, rfl, respond_only tag 5 _ s _⟩,
    fun s => ?_, fun s => ⟨fun hnone => ?_, fun x hx => ?_⟩, fun tag table copy first count s =>
      ⟨_, exec_eq _ s, fun h => ?_, fun hc hr hs => ?_, respond_only tag 3 _ s _⟩⟩
  · refine ⟨_, rfl, rfl, rfl, rfl, rfl, rfl, rfl, rfl, rfl, rfl, rfl, rfl, rfl, rfl, rfl, fun h => ?_, fun i h => ?_, rfl, rfl, rfl, rfl,
      rfl, rfl, rfl, rfl, rfl, rfl, rfl, rfl, rfl, rfl, rfl⟩ <;> simp only [State.snapshot, h]
  · unfold deliverAny; rw [hnone]
  · have hdeliver : deliverAny s = deliver x s := by unfold deliverAny; rw [hx]
    rw [hdeliver]
    refine ⟨_, rfl, deliver_transaction x s, fun ⟨r, hr⟩ => deliver_slot_of_response s hr, deliver_slot_of_other s,
      fun i before after content hf hempty => ?_, deliver_batch_of_other, (deliver_frame x s).mono _ (by decide)⟩
    rw [deliver_of_emptied hf hempty]
    exact ⟨(freeBank_bank i i _).trans (if_pos rfl), fun j hj => (freeBank_bank i j _).trans (if_neg hj), rfl⟩
  · exact congrArg (fun body => some ({ tag := tag, kind := 3, body := body } : Response)) (readTable_of_misfit h)
  · refine congrArg (fun body => some ({ tag := tag, kind := 3, body := body } : Response)) ?_
    rw [readTable_of_fits hc hr hs, deliverAny_tableCopy]

end Sys2Proof.Machine
end

section
/-! The delivery that a host command begins with, what a change of the pen or of the requests leaves of the Sleep Advisor and of
the pending events, and the statements about DOCK_OUTPUT, TABLE_WRITE, DETACH and the ends of a release. -/

namespace Sys2Proof.Machine

-- One theorem after another, as in the model's tests: a theorem that waits for a kernel evaluation holds a thread.
set_option Elab.async false

/-! ## What a delivery leaves -/

@[simp] theorem deliverAny_tick (s : State) : (deliverAny s).tick = s.tick := deliverAny_frame s .tick (by decide)
@[simp] theorem deliverAny_params (s : State) : (deliverAny s).params = s.params := deliverAny_frame s .params (by decide)
@[simp] theorem deliverAny_staging (s : State) : (deliverAny s).staging = s.staging := deliverAny_frame s .staging (by decide)
@[simp] theorem deliverAny_poll (s : State) : (deliverAny s).poll = s.poll := deliverAny_frame s .poll (by decide)
@[simp] theorem deliverAny_posture (s : State) : (deliverAny s).posture = s.posture := deliverAny_frame s .posture (by decide)
@[simp] theorem deliverAny_orient (s : State) : (deliverAny s).orient = s.orient := deliverAny_frame s .orient (by decide)
@[simp] theorem deliverAny_latch (s : State) : (deliverAny s).latch = s.latch := deliverAny_frame s .latch (by decide)
@[simp] theorem deliverAny_pen (s : State) : (deliverAny s).pen = s.pen := deliverAny_frame s .pen (by decide)
@[simp] theorem deliverAny_supply (s : State) : (deliverAny s).supply = s.supply := deliverAny_frame s .supply (by decide)
@[simp] theorem deliverAny_advisor (s : State) : (deliverAny s).advisor = s.advisor := deliverAny_frame s .advisor (by decide)
@[simp] theorem deliverAny_events (s : State) : (deliverAny s).host.events = s.host.events := deliverAny_frame s .events (by decide)

@[simp] theorem deliverAny_dock (s : State) : (deliverAny s).dock = s.dock := by
  unfold deliverAny
  split
  · rfl
  · exact deliver_dock _ s

@[simp] theorem deliverAny_param (s : State) (p : Param) : (deliverAny s).param p = s.param p := by
  unfold State.param; rw [deliverAny_params]

/-! ## What a change of the pen tells the Sleep Advisor (R115, R145) -/

/-- In the Sleep Advisor only what it holds of the pen, and the part power, may differ. -/
def PenTold (s t : State) : Prop :=
  ∃ charging present power,
    t.advisor = { s.advisor with penCharging := charging, penPresent := present, power := power }

theorem PenTold.refl (s : State) : PenTold s s := ⟨_, _, _, rfl⟩

theorem PenTold.trans {s t u : State} (h : PenTold s t) (k : PenTold t u) : PenTold s u := by
  obtain ⟨c, p, w, h⟩ := h
  obtain ⟨c', p', w', k⟩ := k
  exact ⟨c', p', w', by rw [k, h]⟩

theorem PenTold.of_same {s t : State} (h : t.advisor = s.advisor) : PenTold s t := ⟨_, _, _, h⟩

theorem PenTold.platform {s t : State} (h : PenTold s t) : t.advisor.platform = s.advisor.platform := by
  obtain ⟨c, p, w, h⟩ := h; rw [h]

theorem PenTold.latchLocked {s t : State} (h : PenTold s t) : t.advisor.latchLocked = s.advisor.latchLocked := by
  obtain ⟨c, p, w, h⟩ := h; rw [h]

theorem PenTold.heldDock {s t : State} (h : PenTold s t) : t.advisor.heldDock = s.advisor.heldDock := by
  obtain ⟨c, p, w, h⟩ := h; rw [h]

theorem enterPen_told (dest : PenState) (g : Option Gate) (why : PenReason) (s : State) : PenTold s (enterPen dest g why s) :=
  ⟨_, _, _, (handPen_advisor s.pen.state dest (movePen dest g s)).1⟩

theorem rereadGates_told (s : State) : PenTold s (rereadGates s) := by
  obtain h | ⟨dest, leading, why, h⟩ | ⟨g, h⟩ := rereadGates_cases s <;> rw [h]
  · exact .refl s
  · exact enterPen_told _ _ _ s
  · exact .of_same rfl

theorem allocate_told (s : State) : PenTold s (allocate s) := by
  have hlast : PenTold (regateGrants s) (allocate s) := .of_same (allocate_after_regate s .advisor (by decide))
  have hannounce : PenTold s (announceGrants s) := .of_same (announceGrants_frame s .advisor (by decide))
  obtain h | h := regateGrants_cases s
  · exact (h ▸ hannounce).trans hlast
  · exact (h ▸ hannounce.trans (rereadGates_told _)).trans hlast

theorem placeRequests_told (r : Shares) (s : State) : PenTold s (placeRequests r s) := by
  unfold placeRequests
  split
  · exact .refl s
  · exact PenTold.trans (t := { s with supply := { s.supply with requests := r } }) (.of_same rfl) (allocate_told _)

/-! ## Requests and events -/

@[simp] theorem placeRequests_requests (r : Shares) (s : State) : (placeRequests r s).supply.requests = r := by
  unfold placeRequests
  split
  · next h => exact h.symm
  · rw [allocate_supply]

@[simp] theorem placeRequests_budget (r : Shares) (s : State) : (placeRequests r s).supply.budget = s.supply.budget := by
  unfold placeRequests
  split
  · rfl
  · rw [allocate_supply]

/-- A request placed gives the grants of the new requests under the same budget, where they were the old allocation's. -/
theorem placeRequests_grants {r : Shares} {s : State} (h : r ≠ s.supply.requests) :
    (placeRequests r s).supply.grants = divideBudget s.supply.budget r := by
  unfold placeRequests
  rw [if_neg h, allocate_supply]
  rfl

theorem placeRequests_of_same {r : Shares} {s : State} (h : r = s.supply.requests) : placeRequests r s = s := if_pos h

theorem rereadGates_kept (s : State) : EventsKept [3] s (rereadGates s) := by
  obtain h | ⟨p, why, faults, h⟩ := rereadGates_events s
  · exact .of_same h _
  · intro e he hk
    rw [h]
    exact mem_addEvent_other he (fun h => hk (List.mem_singleton.2 h))

/-- An allocation raises BUDGET and PEN at most. -/
theorem allocate_kept (s : State) : EventsKept [3, 8] s (allocate s) := by
  by_cases h : s.newGrants = s.supply.grants
  · rw [allocate_of_unchanged h]; exact .refl _ s
  · intro e he hk
    have hbudget : e.kind ≠ 8 := fun hk' => hk (by simp [hk'])
    have hpen : e.kind ≠ 3 := fun hk' => hk (by simp [hk'])
    have hmem := mem_addEvent_other (e := .budget s.newGrants) he hbudget
    obtain hevents | ⟨p, why, faults, hevents⟩ := allocate_events_of_changed h <;> rw [hevents]
    · exact hmem
    · exact mem_addEvent_other hmem hpen

theorem placeRequests_kept (r : Shares) (s : State) : EventsKept [3, 8] s (placeRequests r s) := by
  unfold placeRequests
  split
  · exact .refl _ s
  · exact EventsKept.trans (t := { s with supply := { s.supply with requests := r } }) (.of_same rfl _) (allocate_kept _)

/-! ## DOCK_OUTPUT (R92, R95) -/

theorem queueMessage_eq_of_open (m : OutMessage) {s : State} (hlink : s.linked = true) (hhalt : s.dock.halted = false) :
    queueMessage m s = { s with dock := { s.dock with waiting := s.dock.waiting.put m } } := by
  unfold queueMessage; rw [hlink, hhalt]; rfl

/-- Settles O55: the message joins the waiting list of an open channel 3, and the answer is all else. -/
theorem dockOutputQueuesTheLights : Obligations.DockOutputQueuesTheLights := by
  intro tag backlight indicators s
  refine ⟨_, exec_eq _ s, ?_⟩
  have heffect : effect (.dockOutput tag backlight indicators) s
      = if s.dock.state = .attached then
          respond tag 11 .ack (queueMessage (.lights backlight indicators) (deliverAny s))
        else respond tag 11 (.refused .badState) (deliverAny s) := by
    show takeDockOutput tag backlight indicators (deliverAny s) = _
    unfold takeDockOutput; rw [deliverAny_dock]
  have hlinked : s.dock.state = .attached → (deliverAny s).linked = true := fun h => by simp [State.linked, h]
  rw [heffect]
  refine ⟨fun h => ?_, fun h hhalt => ?_, fun h hhalt => ?_⟩
  · rw [if_neg h]; exact ⟨rfl, respond_only tag 11 _ s _⟩
  · have hopen : queueMessage (.lights backlight indicators) (deliverAny s)
        = { deliverAny s with dock := { (deliverAny s).dock with waiting := (deliverAny s).dock.waiting.put (.lights backlight indicators) } } :=
      queueMessage_eq_of_open _ (hlinked h) (by rw [deliverAny_dock]; exact hhalt)
    have hframe := (queueMessage_frame (.lights backlight indicators) (deliverAny s)).seq
      (respond_frame tag 11 .ack _) (m := [.dockLink, .slot]) (by decide) (by decide)
    rw [if_pos h]
    refine ⟨rfl, ?_, hframe.settled s⟩
    rw [settleAttention_dock, respond_dock, hopen, deliverAny_dock]
    rfl
  · have hshut : queueMessage (.lights backlight indicators) (deliverAny s) = deliverAny s := by
      simp [queueMessage, hhalt]
    rw [if_pos h, hshut]
    exact ⟨rfl, respond_only tag 11 _ s _⟩

/-! ## TABLE_WRITE (R171) -/

theorem cutEntries_length (size count : Nat) (bytes : List Byte) : (cutEntries size count bytes).length = count := by
  induction count generalizing bytes with
  | zero => rfl
  | succ n ih => exact congrArg (· + 1) (ih _)

/-- Entry k of a cut is the k-th run of bytes. -/
theorem cutEntries_getElem? (size : Nat) {count k : Nat} (bytes : List Byte) (hk : k < count) :
    (cutEntries size count bytes)[k]? = some ((bytes.drop (k * size)).take size) := by
  induction count generalizing bytes k with
  | zero => exact absurd hk (Nat.not_lt_zero k)
  | succ n ih =>
    cases k with
    | zero => simp [cutEntries]
    | succ k =>
      have h := ih (bytes.drop size) (Nat.lt_of_succ_lt_succ hk)
      rw [List.drop_drop] at h
      simpa [cutEntries, Nat.succ_mul, Nat.add_comm] using h

/-- Inside the range written the new entries stand. -/
theorem overwrite_getElem?_inside {old new : List RawEntry} {first k : Nat} (hfirst : first ≤ old.length) (hk : k < new.length) :
    (overwrite old first new)[first + k]? = new[k]? := by
  have hlength : (old.take first).length = first := List.length_take_of_le hfirst
  unfold overwrite
  rw [List.append_assoc, List.getElem?_append_right (by omega), hlength, Nat.add_sub_cancel_left,
    List.getElem?_append_left hk]

/-- Outside it the old ones do. -/
theorem overwrite_getElem?_outside {old new : List RawEntry} {first k : Nat} (hfirst : first ≤ old.length)
    (hk : k < first ∨ first + new.length ≤ k) : (overwrite old first new)[k]? = old[k]? := by
  have hlength : (old.take first).length = first := List.length_take_of_le hfirst
  unfold overwrite
  rw [List.append_assoc]
  obtain hk | hk := hk
  · rw [List.getElem?_append_left (by omega), List.getElem?_take_of_lt hk]
  · rw [List.getElem?_append_right (by omega), List.getElem?_append_right (by omega), List.getElem?_drop]
    congr 1
    omega

theorem overwrite_length {old new : List RawEntry} {first : Nat} (h : first + new.length ≤ old.length) :
    (overwrite old first new).length = old.length := by
  simp only [overwrite, List.length_append, List.length_take, List.length_drop]
  omega

theorem writeTable_of_misfit {table : TableId} {first count : Byte} {entries : List Byte} {s : State}
    (hlength : entries.length = count.toNat * table.entrySize)
    (h : ¬ (count ≠ 0 ∧ first.toNat + count.toNat ≤ table.capacity)) :
    writeTable table first count entries s = (s, .refused .badIndex) := by
  have hrange : rangeFits table first count = false := by rwa [← Bool.not_eq_true, rangeFits_iff]
  unfold writeTable
  rw [if_neg (Classical.not_not.2 hlength), if_pos hrange]

theorem writeTable_of_fits {table : TableId} {first count : Byte} {entries : List Byte} {s : State}
    (hlength : entries.length = count.toNat * table.entrySize)
    (h : count ≠ 0 ∧ first.toNat + count.toNat ≤ table.capacity) :
    writeTable table first count entries s
      = if table = .route ∧ s.route.hold = true then (s, .refused .busy)
        else
          ({ s with
             staging := s.staging.set table
               (overwrite (s.staging.get table) first.toNat (cutEntries table.entrySize count.toNat entries)) }, .ack) := by
  have hrange : ¬ rangeFits table first count = false := by rwa [← Bool.not_eq_true, rangeFits_iff, Classical.not_not]
  unfold writeTable
  rw [if_neg (Classical.not_not.2 hlength), if_neg hrange]

/-- Settles O53: the checks of R171 in their order, and the overwritten copy entry by entry. -/
theorem tableWritesReachTheStagingCopy : Obligations.TableWritesReachTheStagingCopy := by
  intro tag table first count entries s hlength hcapacity
  refine ⟨_, exec_eq _ s, ?_⟩
  have heffect : effect (.tableWrite tag table first count entries) s
      = respond tag 2 (writeTable table first count entries (deliverAny s)).2
          (writeTable table first count entries (deliverAny s)).1 := rfl
  have hhold : (deliverAny s).route.hold = s.route.hold := deliverAny_frame s .routeHold (by decide)
  have hframe := ((writeTable_frame table first count entries (deliverAny s)).seq
      (respond_frame tag 2 (writeTable table first count entries (deliverAny s)).2 _) (m := [.staging, .slot])
      (by decide) (by decide)).settled (m := [.staging, .slot, .pulse]) s
  rw [heffect]
  refine ⟨fun h => ?_, fun hfits hheld => ?_, fun hfits hheld => ?_, hframe⟩
  · rw [writeTable_of_misfit hlength h]; exact ⟨rfl, deliverAny_staging s⟩
  · rw [writeTable_of_fits hlength hfits, hhold, if_pos hheld]; exact ⟨rfl, deliverAny_staging s⟩
  · rw [writeTable_of_fits hlength hfits, hhold, if_neg hheld, deliverAny_staging]
    have hcut := cutEntries_length table.entrySize count.toNat entries
    have hfirst : first.toNat ≤ (s.staging.get table).length := by rw [hcapacity]; omega
    have hget : ∀ (other : TableId) (x : List RawEntry), (s.staging.set table x).get other
        = if other = table then x else s.staging.get other := fun other x => PerTable.get_set _ _ _ _
    refine ⟨rfl, ?_, fun k hk => ?_, fun k hk => ?_, fun other hother => (hget other _).trans (if_neg hother)⟩ <;>
      simp only [settleAttention_staging, respond_staging, hget, if_true]
    · rw [overwrite_length (by rw [hcut, hcapacity]; exact hfits.2), hcapacity]
    · rw [overwrite_getElem?_inside hfirst (by rw [hcut]; exact hk), cutEntries_getElem? _ _ hk]
    · exact overwrite_getElem?_outside hfirst (by rw [hcut]; exact hk)

end Sys2Proof.Machine
end

section
/-! The release latch's statements, and the Orientation Tracker: its regions, its lock, its dwell, and how it follows a posture. -/

namespace Sys2Proof.Machine

-- One theorem after another, as in the model's tests: a theorem that waits for a kernel evaluation holds a thread.
set_option Elab.async false

/-! ## DETACH and the ends of a release (R110, R112) -/

theorem repower_latchLocked (s : State) : (repower s).advisor.latchLocked = s.advisor.latchLocked := by rw [repower_advisor]

theorem holdLatch_latchLocked (locked : Bool) (s : State) : (holdLatch locked s).advisor.latchLocked = locked :=
  repower_latchLocked _

theorem holdLatch_supply (locked : Bool) (s : State) : (holdLatch locked s).supply = s.supply :=
  holdLatch_frame locked s .supply (by decide)

/-- The state of an accepted release before its preparation timer starts (R110, steps 1 to 3). -/
def prepareRelease (s : State) : State :=
  placeLatch (s.param .latchDraw) (holdLatch false { s with latch := { s.latch with state := .preparing } })

theorem prepareRelease_tick (s : State) : (prepareRelease s).tick = s.tick :=
  (placeLatch_frame _ _ .tick (by decide)).trans (holdLatch_frame false _ .tick (by decide))

theorem prepareRelease_latch (s : State) : (prepareRelease s).latch = { s.latch with state := .preparing } :=
  (placeLatch_frame _ _ .latch (by decide)).trans (holdLatch_frame false _ .latch (by decide))

theorem prepareRelease_requests (s : State) :
    (prepareRelease s).supply.requests = { s.supply.requests with latch := s.param .latchDraw } := by
  have hsupply := holdLatch_supply false { s with latch := { s.latch with state := .preparing } }
  unfold prepareRelease placeLatch
  rw [placeRequests_requests, hsupply]

theorem prepareRelease_latchLocked (s : State) : (prepareRelease s).advisor.latchLocked = false :=
  (placeRequests_told _ _).latchLocked.trans (holdLatch_latchLocked false _)

theorem beginRelease_eq (s : State) :
    beginRelease s
      = advisorTakes false true none
          { prepareRelease s with
            latch := { s.latch with state := .preparing, preparation := some { start := s.tick, duration := 32 } } } := by
  have hparams : (holdLatch false { s with latch := { s.latch with state := .preparing } }).params = s.params :=
    holdLatch_frame false _ .params (by decide)
  have hparam : (holdLatch false { s with latch := { s.latch with state := .preparing } }).param .latchDraw
      = s.param .latchDraw := by unfold State.param; rw [hparams]
  unfold beginRelease
  dsimp only
  rw [hparam]
  have hlatch : ({ (prepareRelease s).latch with preparation := (prepareRelease s).timer 32 } : LatchBlock)
      = { s.latch with state := .preparing, preparation := some { start := s.tick, duration := 32 } } := by
    rw [prepareRelease_latch, State.timer, prepareRelease_tick]
  exact congrArg (fun l => advisorTakes false true none { prepareRelease s with latch := l }) hlatch

/-- What an accepted release leaves of latch, requests and Advisor. -/
theorem beginRelease_leaves (s : State) :
    (beginRelease s).latch = { s.latch with state := .preparing, preparation := some { start := s.tick, duration := 32 } }
      ∧ (beginRelease s).supply.requests = { s.supply.requests with latch := s.param .latchDraw }
      ∧ (beginRelease s).advisor.latchLocked = false ∧ (beginRelease s).advisor.lastActivity = s.tick := by
  rw [beginRelease_eq]
  have hframe := advisorTakes_frame false true none
    { prepareRelease s with
      latch := { s.latch with state := .preparing, preparation := some { start := s.tick, duration := 32 } } }
  have hsupply := hframe .supply (by decide)
  obtain ⟨-, -, -, -, hkept, -, -⟩ := advisorTakes_held false true none
    { prepareRelease s with
      latch := { s.latch with state := .preparing, preparation := some { start := s.tick, duration := 32 } } }
  exact ⟨hframe .latch (by decide), (congrArg SupplyBlock.requests hsupply).trans (prepareRelease_requests s),
    hkept.trans (prepareRelease_latchLocked s), (advisorTakes_lastActivity false none _).trans (prepareRelease_tick s)⟩

/-- Settles O38: the checks of R110 in their order, each branch with its own answer. -/
theorem detachRequestsARelease : Obligations.DetachRequestsARelease := by
  intro tag s
  refine ⟨_, exec_eq _ s, ?_⟩
  have hrefused : ∀ code, requestRelease (deliverAny s) = .error code →
      effect (.detach tag) s = respond tag 9 (.refused code) (deliverAny s) := fun code h => by
    show takeDetach tag (deliverAny s) = _
    unfold takeDetach; rw [h]
  have hrequest : requestRelease (deliverAny s)
      = if s.dock.state ≠ .attached then .error .badState
        else if s.latch.state ≠ .locked then .error .busy
        else if s.supply.budget < s.param .latchDraw then .error .noBudget
        else .ok (beginRelease (deliverAny s)) := by
    unfold requestRelease
    rw [deliverAny_dock, deliverAny_latch, deliverAny_supply, deliverAny_param]
  refine ⟨fun h => ?_, fun h hl => ?_, fun h hl hb => ?_, fun h hl hb => ?_⟩
  · rw [if_pos h] at hrequest
    rw [hrefused _ hrequest]
    exact ⟨rfl, respond_only tag 9 _ s _⟩
  · rw [if_neg (Classical.not_not.2 h), if_pos hl] at hrequest
    rw [hrefused _ hrequest]
    exact ⟨rfl, respond_only tag 9 _ s _⟩
  · rw [if_neg (Classical.not_not.2 h), if_neg (Classical.not_not.2 hl), if_pos hb] at hrequest
    rw [hrefused _ hrequest]
    exact ⟨rfl, respond_only tag 9 _ s _⟩
  · rw [if_neg (Classical.not_not.2 h), if_neg (Classical.not_not.2 hl), if_neg (Nat.not_lt.2 hb)] at hrequest
    have heffect : effect (.detach tag) s = respond tag 9 .ack (beginRelease (deliverAny s)) := by
      show takeDetach tag (deliverAny s) = _
      unfold takeDetach; rw [hrequest]
    have hframe := (beginRelease_frame (deliverAny s)).seq (respond_frame tag 9 .ack _) (m := .slot :: latchBlocks)
      (by decide) (by decide)
    obtain ⟨hlatch, hrequests, hlocked, hactivity⟩ := beginRelease_leaves (deliverAny s)
    rw [deliverAny_latch, deliverAny_tick] at hlatch
    rw [deliverAny_supply, deliverAny_param] at hrequests
    rw [deliverAny_tick] at hactivity
    have hslot : ∀ u : State, (settleAttention s (respond tag 9 .ack u)).host.slot = some { tag := tag, kind := 9, body := .ack } :=
      fun _ => rfl
    rw [heffect]
    refine ⟨hslot _, ?_, ?_, ?_, ?_, hframe.settled s⟩
    · rw [settleAttention_latch, respond_latch, hlatch]
    · rw [settleAttention_supply, respond_supply, hrequests]
    · rw [settleAttention_advisor, respond_advisor, hlocked]
    · rw [settleAttention_advisor, respond_advisor, hactivity]

theorem endRelease_requests (outcome : LatchOutcome) (s : State) :
    (endRelease outcome s).supply.requests = { s.supply.requests with latch := 0 } := by
  have hsupply := holdLatch_supply true { s with latch := latchReset }
  show (placeRequests _ (holdLatch true { s with latch := latchReset })).supply.requests = _
  rw [placeRequests_requests, hsupply]

theorem endRelease_latchLocked (outcome : LatchOutcome) (s : State) : (endRelease outcome s).advisor.latchLocked = true :=
  (placeRequests_told _ _).latchLocked.trans (holdLatch_latchLocked true _)

theorem endRelease_reports (outcome : LatchOutcome) (s : State) : .latch outcome ∈ (endRelease outcome s).host.events :=
  mem_addEvent_self _ _ (by simp [Event.kind])

/-- Settles O40: both commands end a release the same way, and a LOCKED latch is only answered. -/
theorem releasesEndWithTheirOutcome : Obligations.ReleasesEndWithTheirOutcome := by
  refine ⟨fun s hdue hstate => ⟨_, exec_eq _ s, ?_⟩, fun tag s => ⟨_, exec_eq _ s, rfl, fun h => ?_, fun h => ?_, ?_⟩⟩
  · have heffect : effect .releaseWindowExpiry s = endRelease .timedOut s :=
      if_pos (by rw [hdue, hstate]; rfl)
    rw [heffect]
    refine ⟨?_, ?_, ?_, ?_, (endRelease_frame .timedOut s).settled s⟩
    · rw [settleAttention_latch, endRelease_latch]; rfl
    · rw [settleAttention_supply, endRelease_requests]
    · exact endRelease_reports .timedOut s
    · rw [settleAttention_advisor, endRelease_latchLocked]
  · have hend : endReleaseIfAny .cancelled (deliverAny s) = endRelease .cancelled (deliverAny s) :=
      if_neg (by rw [deliverAny_latch]; exact h)
    have heffect : effect (.detachCancel tag) s = respond tag 10 .ack (endRelease .cancelled (deliverAny s)) :=
      congrArg (respond tag 10 .ack) hend
    have hrequests := endRelease_requests .cancelled (deliverAny s)
    rw [deliverAny_supply] at hrequests
    rw [heffect]
    refine ⟨?_, ?_, ?_, ?_⟩
    · rw [settleAttention_latch, respond_latch, endRelease_latch]; rfl
    · rw [settleAttention_supply, respond_supply, hrequests]
    · rw [settleAttention_host_events, respond_host_events]; exact endRelease_reports .cancelled _
    · rw [settleAttention_advisor, respond_advisor, endRelease_latchLocked]
  · have hend : endReleaseIfAny .cancelled (deliverAny s) = deliverAny s :=
      if_pos (by rw [deliverAny_latch]; exact h)
    have heffect : effect (.detachCancel tag) s = respond tag 10 .ack (deliverAny s) := congrArg (respond tag 10 .ack) hend
    rw [heffect]
    exact respond_only tag 10 _ s _
  · exact ((endReleaseIfAny_frame .cancelled (deliverAny s)).seq (respond_frame tag 10 .ack _) (m := .slot :: latchBlocks)
      (by decide) (by decide)).settled s

/-! ## Regions of the orientation (R79) -/

/-- The distance is that of the short way round. -/
theorem centreDistance_spec (o : Angle) (k : Orientation) :
    ∃ d : Int, -2048 ≤ d ∧ d ≤ 2047 ∧ ((o.toNat : Int) - (k.centre : Int) - d) % 4096 = 0 ∧ centreDistance o k = d.natAbs := by
  have hcentre : k.centre < 4096 := by cases k <;> decide
  obtain ⟨m, hm⟩ : ∃ m, m = (o.toNat + 4096 - k.centre) % 4096 := ⟨_, rfl⟩
  have hdistance : centreDistance o k = if m < 2048 then m else 4096 - m := by rw [hm]; rfl
  by_cases hhalf : m < 2048
  · refine ⟨m, by omega, by omega, by omega, ?_⟩
    rw [hdistance, if_pos hhalf]; rfl
  · refine ⟨(m : Int) - 4096, by omega, by omega, by omega, ?_⟩
    rw [hdistance, if_neg hhalf]; omega

theorem mem_inRegion (s : State) (o : Angle) (k : Orientation) :
    k ∈ s.inRegion o ↔ centreDistance o k + s.param .rotationMargin ≤ 512 := by
  have hall : k ∈ allOrientations := by cases k <;> decide
  unfold State.inRegion
  rw [List.mem_filter, decide_eq_true_iff]
  exact ⟨And.right, fun h => ⟨hall, h⟩⟩

/-- Two centres stand a quarter turn apart at least, so no angle is nearer than an eighth to both. -/
theorem centreDistance_add {j k : Orientation} (h : j ≠ k) (o : Angle) : 1024 ≤ centreDistance o j + centreDistance o k := by
  obtain ⟨d, hdlow, hdhigh, hdmod, hd⟩ := centreDistance_spec o j
  obtain ⟨e, helow, hehigh, hemod, he⟩ := centreDistance_spec o k
  rw [hd, he]
  cases j <;> cases k <;> try exact absurd rfl h
  all_goals
    simp only [Orientation.centre] at hdmod hemod
    omega

/-- Settles O29: a region reaches 511 at most from its centre, and the centres stand 1024 apart. -/
theorem orientationRegionsAreDisjoint : Obligations.OrientationRegionsAreDisjoint := by
  refine fun s o => ⟨fun k => ?_, fun hmargin j k hj hk => ?_⟩
  · obtain ⟨d, hlow, hhigh, hmod, hd⟩ := centreDistance_spec o k
    refine ⟨d, hlow, hhigh, hmod, hd, ?_⟩
    rw [mem_inRegion, hd]
    omega
  · rw [mem_inRegion] at hj hk
    refine Decidable.byContradiction fun hne => ?_
    have := centreDistance_add hne o
    omega

/-! ## The rotation dwell and lock (R82, R86) -/

/-- The events of a rotation: its own, beside advice and wake. -/
theorem adoptOrientation_reports (k : Orientation) (s : State) :
    .orientation k s.orient.locked .rotated ∈ (adoptOrientation k s).host.events :=
  advisorTakes_kept false true none _ _ (mem_addEvent_self _ _ (by simp [Event.kind])) (by simp [Event.kind])

/-- Settles O28: the timer's candidate is adopted as R82 says. -/
theorem rotationDwellExpiryAdoptsTheCandidate : Obligations.RotationDwellExpiryAdoptsTheCandidate := by
  intro s k hdue hcandidate
  have heffect : effect .rotationDwellExpiry s = adoptOrientation k s := by
    refine (if_pos hdue).trans ?_
    unfold expireRotation; rw [hcandidate]
  refine ⟨_, exec_eq _ s, ?_⟩
  rw [heffect]
  exact ⟨reportRotation_orient _, adoptOrientation_reports k s, advisorTakes_lastActivity false none _,
    (adoptOrientation_frame k s).settled s⟩

/-- The qualifying orientation goes by the tracker and the margin. -/
theorem qualifying_congr {s t : State} (orient : t.orient = s.orient) (params : t.params = s.params) (o : Angle) :
    t.qualifying o = s.qualifying o := by
  unfold State.qualifying State.inRegion State.param; rw [orient, params]

theorem lockRotation_locked (on : Bool) (s : State) : (lockRotation on s).orient.locked = on := by
  unfold lockRotation
  split
  · next h => exact h.symm
  · dsimp only
    split
    · next hon => exact hon.symm ▸ rfl
    · split
      · split
        · rfl
        · rw [judgeRotation_orient]
          split
          · rfl
          · split
            · rfl
            · split
              · rfl
              · split <;> rfl
      · rfl

/-- Settles O31: locking and unlocking as `lockRotation` takes them, the answer beside. -/
theorem rotationLockHoldsTheOrientation : Obligations.RotationLockHoldsTheOrientation := by
  intro tag on s
  have heffect : effect (.rotationLock tag on) s = respond tag 6 .ack (lockRotation on (deliverAny s)) := rfl
  have horient : (settleAttention s (effect (.rotationLock tag on) s)).orient = (lockRotation on (deliverAny s)).orient := rfl
  have hframe := ((lockRotation_frame on (deliverAny s)).seq (respond_frame tag 6 .ack _) (m := .slot :: rotationBlocks)
    (by decide) (by decide)).settled (m := [.orient, .poll, .dockLink, .advisor, .events, .slot, .pulse]) s
  refine ⟨_, exec_eq _ s, rfl, ?_, fun h => ?_, fun hon h => ?_, fun o q hon h ho hflat hq hturn hset hnone hdwell => ?_,
    fun hon h hnone => ?_, hframe⟩
  · exact lockRotation_locked on _
  · rw [horient, lockRotation, if_pos (by rw [deliverAny_orient, h]), deliverAny_orient]
  · subst hon
    rw [horient, lockRotation, if_neg (by rw [deliverAny_orient, h]; decide), if_pos rfl, clearRotation, deliverAny_orient]
  · subst hon
    let u : State := { deliverAny s with orient := { s.orient with locked := false } }
    have hlock : lockRotation false (deliverAny s) = judgeRotation o u := by
      rw [lockRotation, if_neg (by rw [deliverAny_orient, h]; decide), if_neg (by decide), deliverAny_orient, ho]
      exact if_neg (by rw [hflat]; decide)
    have hmargin : u.param .rotationMargin = s.param .rotationMargin := deliverAny_param s _
    have hqualifying : u.qualifying o = some q := by
      rw [← hq]
      unfold State.qualifying State.inRegion
      rw [hmargin]
    have hallowed : u.allowedSet = s.allowedSet := rfl
    have hparam : u.param .rotationDwell = s.param .rotationDwell := deliverAny_param s _
    have htimer : u.timer (s.param .rotationDwell) = some { start := s.tick, duration := s.param .rotationDwell } := by
      simp [u, State.timer]
    rw [horient, hlock, judgeRotation_orient, hqualifying, hallowed, hparam, htimer]
    dsimp only
    rw [if_neg (by rw [hset]; simpa using hturn), if_neg (by rw [hnone]; simp), if_neg (by omega)]
  · subst hon
    rw [horient, lockRotation, if_neg (by rw [deliverAny_orient, h]; decide), if_neg (by decide), deliverAny_orient]
    dsimp only
    split
    · next o ho =>
      obtain hnone | hflat := hnone
      · rw [ho] at hnone; cases hnone
      · rw [hflat, if_pos rfl]
    · rfl

/-! ## Forcing (R84, R85) -/

/-- The fold of R85 over orientations in ROT order: the nearest, the first of those on a tie. -/
theorem foldl_nearest (o : Angle) (l : List Orientation) (b : Orientation) (hcodes : l.Pairwise (fun j k => j.code.toNat ≤ k.code.toNat))
    (hb : ∀ k ∈ l, b.code.toNat ≤ k.code.toNat) :
    let r := l.foldl (fun best k => if centreDistance o k < centreDistance o best then k else best) b
    (r = b ∨ r ∈ l) ∧ b.code.toNat ≤ r.code.toNat
      ∧ ∀ j ∈ b :: l, centreDistance o r < centreDistance o j ∨ (centreDistance o r = centreDistance o j ∧ r.code.toNat ≤ j.code.toNat) := by
  induction l generalizing b with
  | nil => simp
  | cons x rest ih =>
    obtain ⟨hx, hrest⟩ := List.pairwise_cons.1 hcodes
    have hbx := hb x (List.mem_cons_self ..)
    rw [List.foldl_cons]
    split
    · next hlt =>
      obtain ⟨hmem, hcode, hnear⟩ := ih x hrest hx
      refine ⟨.inr ?_, Nat.le_trans hbx hcode, fun j hj => ?_⟩
      · obtain h | h := hmem
        · rw [h]; exact List.mem_cons_self ..
        · exact List.mem_cons_of_mem _ h
      · obtain rfl | hj := List.mem_cons.1 hj
        · obtain h | h := hnear x (List.mem_cons_self ..)
          · exact .inl (Nat.lt_trans h hlt)
          · exact .inl (h.1 ▸ hlt)
        · exact hnear j hj
    · next hge =>
      obtain ⟨hmem, hcode, hnear⟩ := ih b hrest (fun k hk => hb k (List.mem_cons_of_mem _ hk))
      refine ⟨hmem.imp id (List.mem_cons_of_mem _), hcode, fun j hj => ?_⟩
      obtain rfl | hj := List.mem_cons.1 hj
      · exact hnear j (List.mem_cons_self ..)
      · obtain rfl | hj := List.mem_cons.1 hj
        · obtain h | ⟨h, hc⟩ := hnear b (List.mem_cons_self ..)
          · exact .inl (by omega)
          · by_cases heq : centreDistance o b = centreDistance o j
            · exact .inr ⟨by omega, Nat.le_trans hc hbx⟩
            · exact .inl (by omega)
        · exact hnear j (List.mem_cons_of_mem _ hj)

/-- The allowed orientations of a set, in ROT order. -/
theorem allowed_codes (set : AllowedSet) :
    (allOrientations.filter (inSet set)).Pairwise (fun j k => j.code.toNat ≤ k.code.toNat) :=
  List.Pairwise.filter _ (by decide)

theorem mem_allowed (set : AllowedSet) (k : Orientation) : k ∈ allOrientations.filter (inSet set) ↔ inSet set k = true := by
  have hall : k ∈ allOrientations := by cases k <;> decide
  rw [List.mem_filter]
  exact ⟨And.right, fun h => ⟨hall, h⟩⟩

/-- A set that is not empty allows an orientation. -/
theorem allowed_ne_nil {set : AllowedSet} (h : set ≠ 0) : allOrientations.filter (inSet set) ≠ [] := by
  intro hnil
  refine h ?_
  have hnone : ∀ k, inSet set k = false := fun k => by
    rw [← Bool.not_eq_true, ← mem_allowed, hnil]; exact List.not_mem_nil
  have h0 : set.getLsbD 0 = false := hnone .rot0
  have h1 : set.getLsbD 1 = false := hnone .rot90
  have h2 : set.getLsbD 2 = false := hnone .rot180
  have h3 : set.getLsbD 3 = false := hnone .rot270
  refine BitVec.eq_of_getLsbD_eq fun i hi => ?_
  have hzero : BitVec.getLsbD (0 : AllowedSet) i = false := by simp
  rw [hzero]
  obtain rfl | rfl | rfl | rfl : i = 0 ∨ i = 1 ∨ i = 2 ∨ i = 3 := by omega
  all_goals assumption

theorem forcedTarget_nearest {s : State} (h : s.allowedSet ≠ 0) :
    NearestAllowed s.allowedSet s.orient.heldO s.forcedTarget := by
  obtain ⟨x, rest, hx⟩ := List.exists_cons_of_ne_nil (allowed_ne_nil h)
  have hcodes := allowed_codes s.allowedSet
  rw [hx] at hcodes
  have hmem : ∀ k, k ∈ x :: rest ↔ inSet s.allowedSet k = true := fun k => by rw [← hx, mem_allowed]
  have hfirst : ∀ k ∈ x :: rest, x.code.toNat ≤ k.code.toNat := fun k hk => by
    obtain rfl | hk := List.mem_cons.1 hk
    · exact Nat.le_refl _
    · exact (List.pairwise_cons.1 hcodes).1 k hk
  unfold State.forcedTarget NearestAllowed
  dsimp only
  rw [hx, List.headD_cons]
  cases s.orient.heldO with
  | none => exact ⟨(hmem x).1 (List.mem_cons_self ..), nofun, fun _ j hj => hfirst j ((hmem j).2 hj)⟩
  | some o =>
    obtain ⟨hr, -, hnear⟩ := foldl_nearest o (x :: rest) x hcodes hfirst
    refine ⟨(hmem _).1 ?_, ?_, nofun⟩
    · dsimp only
      obtain hr | hr := hr
      · rw [hr]; exact List.mem_cons_self ..
      · exact hr
    · rintro _ ⟨⟩ j hj
      exact hnear j (List.mem_cons_of_mem _ ((hmem j).2 hj))

theorem mustForce_iff (s : State) : s.mustForce = true ↔ ¬ (s.allowedSet = 0 ∨ inSet s.allowedSet s.orient.current = true) := by
  unfold State.mustForce
  simp

/-- The tracker takes a posture as R84 says. -/
theorem trackPosture_follows (p : Posture) (s : State) : (trackPosture p s).TrackerFollows s.orient p := by
  let u : State := { s with orient := { s.orient with posture := p } }
  have hforce := mustForce_iff u
  unfold State.TrackerFollows
  refine ⟨fun hallowed hcandidate => ?_, fun c hallowed hc hout => ?_, fun hnot => ?_⟩
  · have hstay : ¬ u.mustForce = true := by rw [hforce]; exact Classical.not_not.2 hallowed
    have htrack : trackPosture p s = match u.orient.candidate with
        | some c => if inSet u.allowedSet c then u else clearRotation u
        | none => u := if_neg hstay
    rw [htrack]
    split
    · next c hc =>
      have hin : inSet u.allowedSet c = true := hcandidate c hc
      rw [if_pos hin]
    · rfl
  · have hstay : ¬ u.mustForce = true := by rw [hforce]; exact Classical.not_not.2 hallowed
    have hcu : u.orient.candidate = some c := hc
    have houtu : inSet u.allowedSet c = false := hout
    have htrack : trackPosture p s = match u.orient.candidate with
        | some c => if inSet u.allowedSet c then u else clearRotation u
        | none => u := if_neg hstay
    rw [htrack, hcu]
    dsimp only
    rw [houtu]
    rfl
  · have hmust : u.mustForce = true := hforce.2 hnot
    have hset : u.allowedSet ≠ 0 := fun h => hnot (.inl h)
    have htrack : trackPosture p s = changeOrientation u.forcedTarget .forced u := if_pos hmust
    rw [htrack]
    exact ⟨forcedTarget_nearest hset, rfl, mem_addEvent_self _ _ (by simp [Event.kind])⟩

end Sys2Proof.Machine
end

section
/-! The Posture Classifier: when a row matches, what a classification does, what a change of posture hands on, and the pending
events that an operation leaves exactly as they were (`EventsBut`). -/

namespace Sys2Proof.Machine

-- One theorem after another, as in the model's tests: a theorem that waits for a kernel evaluation holds a thread.
set_option Elab.async false

/-! ## Pending events of other kinds -/

/-- The pending events of a kind not named are exactly those pending before. -/
def EventsBut (ks : List Nat) (s t : State) : Prop := ∀ e : Event, e.kind ∉ ks → (e ∈ t.host.events ↔ e ∈ s.host.events)

theorem EventsBut.refl (ks : List Nat) (s : State) : EventsBut ks s s := fun _ _ => Iff.rfl

theorem EventsBut.trans {ks : List Nat} {s t u : State} (h : EventsBut ks s t) (k : EventsBut ks t u) : EventsBut ks s u :=
  fun e he => (k e he).trans (h e he)

theorem EventsBut.mono {ks : List Nat} {s t : State} (h : EventsBut ks s t) (ks' : List Nat) (sub : ∀ k ∈ ks, k ∈ ks') :
    EventsBut ks' s t := fun e he => h e (fun hk => he (sub _ hk))

theorem EventsBut.of_same {s t : State} (h : t.host.events = s.host.events) (ks : List Nat) : EventsBut ks s t :=
  fun e _ => by rw [h]

theorem EventsBut.of_frame {l : List Block} {s t : State} (h : SameBut l s t) (hl : Block.events ∉ l) (ks : List Nat) :
    EventsBut ks s t := .of_same (h .events hl) ks

theorem mem_of_mem_addEvent {list : List Event} {e x : Event} (h : x ∈ addEvent list e) (k : x.kind ≠ e.kind) : x ∈ list := by
  induction list with
  | nil => exact absurd (congrArg Event.kind (List.mem_singleton.1 h)) k
  | cons y rest ih =>
    unfold addEvent at h
    split at h
    · next hy =>
      obtain rfl | h := List.mem_cons.1 h
      · exact absurd (mergeEvent_kind hy) k
      · exact List.mem_cons_of_mem _ h
    · obtain rfl | h := List.mem_cons.1 h
      · exact List.mem_cons_self ..
      · exact List.mem_cons_of_mem _ (ih h)

/-- Raising an event touches the entry of its kind alone. -/
theorem raise_but (e : Event) (s : State) : EventsBut [e.kind] s (raise e s) := fun x hx =>
  have hne : x.kind ≠ e.kind := fun h => hx (List.mem_singleton.2 h)
  ⟨fun h => mem_of_mem_addEvent h hne, fun h => mem_addEvent_other h hne⟩

theorem sleepEvaluate_but (s : State) : EventsBut [6] s (sleepEvaluate s) := by
  have hrearm : EventsBut [6] s (rearm s) := .of_same rfl _
  unfold sleepEvaluate
  split
  · dsimp only
    split
    · next n _ =>
      have hraise : EventsBut [6] (rearm s) (raise (.sleepAdvice .advise n) (rearm s)) := raise_but (.sleepAdvice .advise n) _
      exact (hrearm.trans hraise).trans (.of_same rfl _)
    · exact .of_same rfl _
  · exact .refl _ s

theorem retestAdvice_but (s : State) : EventsBut [6] s (retestAdvice s) := by
  unfold retestAdvice
  split
  · exact .refl _ s
  · next n _ =>
    split
    · exact .refl _ s
    · have hraise : EventsBut [6] s (raise (.sleepAdvice .withdrawn n) s) := raise_but (.sleepAdvice .withdrawn n) s
      unfold endAdvice
      exact (hraise.trans (.of_same (by rfl) _)).trans (sleepEvaluate_but _)

theorem takeCause_but (c : WakeCause) (s : State) : EventsBut [7] s (takeCause c s) := by
  unfold takeCause
  split
  · split
    · exact .refl _ s
    · next n _ =>
      have hraise : EventsBut [7] s (raise (.wake c n) s) := raise_but (.wake c n) s
      exact (hraise.trans (.of_same (by rfl) _)).trans (.of_frame (repower_frame _) (by decide) _)
  · exact .refl _ s

theorem advisorTakes_but (changed activity : Bool) (cause : Option WakeCause) (s : State) :
    EventsBut [6, 7] s (advisorTakes changed activity cause s) := by
  have hactive : EventsBut [6, 7] s (if activity then { s with advisor := { s.advisor with lastActivity := s.tick } } else s) := by
    split <;> exact .of_same rfl _
  unfold advisorTakes
  dsimp only
  split
  · split
    · exact hactive.trans ((sleepEvaluate_but _).mono _ (by decide))
    · exact hactive
  · split
    · exact hactive.trans ((retestAdvice_but _).mono _ (by decide))
    · exact hactive
  · split
    · exact hactive
    · exact hactive.trans ((takeCause_but _ _).mono _ (by decide))
  · exact hactive

/-! ## Rows (R66 to R69) -/

theorem angleHolds_iff (r : PostureRow) (widened : Bool) (hf : Option Angle) :
    r.angleHolds widened hf = true
      ↔ (hf = none → r.hall = .closed ∨ r.hall = .folded)
        ∧ ∀ a, hf = some a →
          let h : Int := if widened then r.hysteresis else 0
          (r.low ≤ r.high → max 0 ((r.low : Int) - h) ≤ a.toNat ∧ (a.toNat : Int) ≤ min 4095 ((r.high : Int) + h))
            ∧ (r.high < r.low → (r.low : Int) - h ≤ a.toNat ∨ (a.toNat : Int) ≤ (r.high : Int) + h) := by
  cases hf with
  | none => simp [PostureRow.angleHolds]
  | some a =>
    have ha : a.toNat < 4096 := a.isLt
    simp only [PostureRow.angleHolds, reduceCtorEq, false_implies, true_and, Option.some.injEq, forall_eq']
    cases widened
    · simp only [Bool.false_eq_true, if_false, PostureRow.angleIn]
      split <;> rw [decide_eq_true_iff] <;> omega
    · simp only [if_true, PostureRow.angleInWidened]
      split <;> rw [decide_eq_true_iff] <;> omega

theorem attitude_holds_iff (c : RowAttitude) (a : Attitude) :
    c.holds a = true
      ↔ c = .any ∨ (c = .faceUp ∧ a = .faceUp) ∨ (c = .faceDown ∧ a = .faceDown) ∨ (c = .edge ∧ a = .edge) := by
  cases c <;> simp [RowAttitude.holds]

theorem hall_holds_iff (c : RowHall) (closed folded : Option Bool) :
    c.holds closed folded = true
      ↔ c = .any ∨ (c = .closed ∧ closed = some true) ∨ (c = .folded ∧ folded = some true)
        ∨ (c = .opened ∧ closed = some false ∧ folded = some false) := by
  cases c <;> simp [RowHall.holds]

/-- Settles O26: the four conditions one by one. -/
theorem postureRowsMatchByTheirConditions : Obligations.PostureRowsMatchByTheirConditions := by
  intro s widened n
  have hmatch : s.rowMatches widened n = true
      ↔ (s.postureRow n).enabled = true ∧ (s.postureRow n).angleHolds widened s.posture.heldHf = true
        ∧ (s.postureRow n).attitude.holds s.posture.attitude = true
        ∧ (s.postureRow n).hall.holds s.posture.hallClosed s.posture.hallFolded = true := by
    simp [State.rowMatches, and_assoc]
  rw [hmatch, angleHolds_iff, attitude_holds_iff, hall_holds_iff]
  dsimp only
  rw [and_assoc]

/-! ## A change of posture (R74, R84) -/

/-- How the tracker follows a posture is seen in the tracker and its pending event. -/
theorem trackerFollows_mono {t u : State} {r : OrientBlock} {p : Posture} {ks : List Nat} (h : t.TrackerFollows r p)
    (orient : u.orient = t.orient) (events : EventsKept ks t u) (hks : 2 ∉ ks) : u.TrackerFollows r p := by
  obtain ⟨hstay, hclear, hforce⟩ := h
  unfold State.TrackerFollows
  rw [orient]
  refine ⟨hstay, hclear, fun hnot => ?_⟩
  obtain ⟨hnear, horient, hevent⟩ := hforce hnot
  exact ⟨hnear, horient, events _ hevent hks⟩

theorem trackPosture_but (p : Posture) (s : State) : EventsBut [2] s (trackPosture p s) := by
  let u : State := { s with orient := { s.orient with posture := p } }
  have hu : EventsBut [2] s u := .of_same rfl _
  unfold trackPosture
  dsimp only
  split
  · exact (raise_but (.orientation u.forcedTarget u.orient.locked .forced) _ :)
  · split
    · split <;> exact .of_same rfl _
    · exact hu

theorem kept_of_but {ks : List Nat} {s t : State} (h : EventsBut ks s t) : EventsKept ks s t := fun e he hk => (h e hk).2 he

theorem holdPosture_kept (p : Posture) (s : State) (ks : List Nat) : EventsKept ks s (holdPosture p s) := .of_same rfl ks

/-- What follows a posture's own report leaves its event, its copies and the tracker. -/
theorem posture_reported (p : Posture) (s : State) :
    let t := advisorTakes true true (some .posture) (holdPosture p s)
    EventsKept [6, 7] s t ∧ t.orient = s.orient ∧ t.advisor.heldPosture = p ∧ t.advisor.lastActivity = s.tick := by
  have hframe := advisorTakes_frame true true (some .posture) (holdPosture p s)
  obtain ⟨hheld, -⟩ := advisorTakes_held true true (some .posture) (holdPosture p s)
  exact ⟨(holdPosture_kept p s _).trans (advisorTakes_kept _ _ _ _), hframe .orient (by decide), hheld,
    advisorTakes_lastActivity _ _ _⟩

/-- What a change of posture hands on (R74, R84, R87). -/
theorem changePosture_hands (p : Posture) (row : Option Nat) (s : State) :
    .posture p s.posture.heldHf row ∈ (changePosture p row s).host.events
      ∧ (changePosture p row s).orient.posture = p ∧ (changePosture p row s).advisor.heldPosture = p
      ∧ (changePosture p row s).advisor.lastActivity = s.tick ∧ (changePosture p row s).TrackerFollows s.orient p := by
  let raised := raise (.posture p s.posture.heldHf row)
    { s with posture := { s.posture with posture := p, row := row, candidate := none, dwell := none } }
  let tracked := trackPosture p raised
  have htick : tracked.tick = s.tick := trackPosture_frame p raised .tick (by decide)
  have hevent : .posture p s.posture.heldHf row ∈ raised.host.events := mem_addEvent_self _ _ (by simp [Event.kind])
  have htracked : .posture p s.posture.heldHf row ∈ tracked.host.events :=
    kept_of_but (trackPosture_but p raised) _ hevent (by simp [Event.kind])
  have hfollows : tracked.TrackerFollows s.orient p := trackPosture_follows p raised
  have hposture : tracked.orient.posture = p := trackPosture_posture p raised
  obtain ⟨hkept, horient, hheld, hactivity⟩ := posture_reported p tracked
  have hfirst : .posture p s.posture.heldHf row
        ∈ (advisorTakes true true (some .posture) (holdPosture p tracked)).host.events :=
    hkept _ htracked (by simp [Event.kind])
  have hcases : changePosture p row s = advisorTakes true true (some .posture) (holdPosture p tracked)
      ∨ changePosture p row s = reportRotation (advisorTakes true true (some .posture) (holdPosture p tracked)) := by
    unfold changePosture
    dsimp only
    split
    · exact .inl rfl
    · exact .inr rfl
  obtain h | h := hcases
  · rw [h]
    exact ⟨hfirst, by rw [horient, hposture], hheld, hactivity.trans htick, trackerFollows_mono hfollows horient hkept (by decide)⟩
  · rw [h]
    have hlast := advisorTakes_kept false true none (advisorTakes true true (some .posture) (holdPosture p tracked))
    have horient2 := reportRotation_orient (advisorTakes true true (some .posture) (holdPosture p tracked))
    obtain ⟨hheld2, -⟩ := advisorTakes_held false true none (advisorTakes true true (some .posture) (holdPosture p tracked))
    have htick2 : (advisorTakes true true (some .posture) (holdPosture p tracked)).tick = s.tick :=
      (advisorTakes_frame _ _ _ _ .tick (by decide)).trans htick
    refine ⟨hlast _ hfirst (by simp [Event.kind]), by rw [horient2, horient, hposture], hheld2.trans hheld,
      (advisorTakes_lastActivity false none _).trans htick2, ?_⟩
    exact trackerFollows_mono hfollows (horient2.trans horient) (hkept.trans hlast) (by decide)

/-! ## POSTURE_DWELL_EXPIRY (R71, R73) -/

theorem effect_postureDwellExpiry {s : State} (hdue : s.due s.posture.dwell = true) :
    effect .postureDwellExpiry s = classify true s := if_pos hdue

theorem keeps_of_row {s : State} {row : Nat} (h : s.posture.row = some row) : s.keeps = s.rowMatches true row := by
  unfold State.keeps; rw [h]

theorem not_keeps_of_rows {s : State} (h : ∀ row, s.posture.row = some row → s.rowMatches true row = false) :
    s.keeps = false := by
  unfold State.keeps
  split
  · next n hn => exact h n hn
  · rfl

theorem classify_of_kept {expiring : Bool} {s : State} (hattached : s.posture.attached = true) (hknown : s.posture.posture ≠ .unknown)
    (hkeeps : s.keeps = true) : classify expiring s = clearPosture s := by
  unfold classify
  rw [if_neg (by rw [hattached]; decide), if_neg hknown, if_pos hkeeps]

/-- A candidate that is still the first match is adopted at the end of its dwell (R73). -/
theorem classify_of_expired {s : State} {n : Nat} (hattached : s.posture.attached = true) (hknown : s.posture.posture ≠ .unknown)
    (hkeeps : s.keeps = false) (hcandidate : s.posture.candidate = some n) (hfirst : s.firstMatch = some n)
    (hother : s.rowPosture n ≠ s.posture.posture) : classify true s = adoptRow n s := by
  unfold classify chooseCandidate
  rw [if_neg (by rw [hattached]; decide), if_neg hknown, if_neg (by rw [hkeeps]; decide), hfirst]
  dsimp only
  rw [if_neg hother, if_pos hcandidate, if_pos rfl]

/-- Settles O25: the keep test, and the adoption of the standing candidate. -/
theorem postureDwellExpiryAdoptsTheCandidate : Obligations.PostureDwellExpiryAdoptsTheCandidate := by
  intro s hdue hattached hknown
  refine ⟨_, exec_eq _ s, fun row hrow hmatch => ?_, fun n hrows hcandidate hfirst hother => ?_, ?_⟩
  · have hclear := classify_of_kept (expiring := true) hattached hknown ((keeps_of_row hrow).trans hmatch)
    rw [effect_postureDwellExpiry hdue, hclear]
    exact ⟨rfl, (clearPosture_frame s).settled s⟩
  · rw [effect_postureDwellExpiry hdue,
      classify_of_expired hattached hknown (not_keeps_of_rows hrows) hcandidate hfirst hother]
    obtain ⟨hevent, horient, hheld, hactivity, -⟩ := changePosture_hands (s.rowPosture n) (some n) s
    exact ⟨changePosture_posture _ _ s, hevent, horient, hheld, hactivity⟩
  · rw [effect_postureDwellExpiry hdue]
    exact (classify_frame true s).settled s

/-- Settles O30: the tracker follows the adopted posture as R84 and R85 say. -/
theorem adoptedPostureForcesAnAllowedOrientation : Obligations.AdoptedPostureForcesAnAllowedOrientation := by
  intro s n hdue hattached hknown hkeeps hcandidate hfirst hother
  refine ⟨_, exec_eq _ s, ?_⟩
  rw [effect_postureDwellExpiry hdue, classify_of_expired hattached hknown hkeeps hcandidate hfirst hother]
  obtain ⟨-, -, -, -, hstay, hclear, hforce⟩ := changePosture_hands (s.rowPosture n) (some n) s
  refine ⟨fun hallowed => ?_, fun hset hin => ?_⟩
  · by_cases hall : ∀ c, s.orient.candidate = some c → inSet (s.orient.table.get (s.rowPosture n)) c = true
    · have hcurrent := congrArg OrientBlock.current (hstay hallowed hall)
      exact hcurrent
    · obtain ⟨c, hnot⟩ := Classical.not_forall.1 hall
      obtain ⟨hc, hout⟩ := Classical.not_imp.1 hnot
      have hcurrent := congrArg OrientBlock.current (hclear c hallowed hc (Bool.eq_false_iff.2 hout))
      exact hcurrent
  · obtain ⟨hnear, horient, hevent⟩ := hforce (by rintro (h | h) <;> simp_all)
    exact ⟨hnear, hevent, congrArg OrientBlock.candidate horient, congrArg OrientBlock.dwell horient⟩

/-! ## A classification (R70 to R74) -/

/-- `t` is as a classification leaves it where the classifier, the tracker's and the Advisor's copies, the last activity and the
pending POSTURE events are. -/
theorem State.Classified.mono {fed t u : State} {ks : List Nat} (h : fed.Classified t) (posture : u.posture = t.posture)
    (heldPosture : u.advisor.heldPosture = t.advisor.heldPosture) (tracked : u.orient.posture = t.orient.posture)
    (activity : t.advisor.lastActivity = fed.tick → u.advisor.lastActivity = fed.tick) (events : EventsBut ks t u)
    (hks : 1 ∉ ks) : fed.Classified u := by
  have hevents : ∀ q hf r, .posture q hf r ∈ u.host.events ↔ .posture q hf r ∈ t.host.events := fun q hf r => events _ hks
  unfold State.Classified at h ⊢
  simp only [posture, heldPosture, tracked, hevents]
  obtain ⟨hadopt, hrest⟩ := h
  refine ⟨fun n hn => ?_, hrest⟩
  obtain ⟨hposture, hevent, horient, hheld, hactivity⟩ := hadopt n hn
  exact ⟨hposture, hevent, horient, hheld, activity hactivity⟩

/-- A row is adopted at once or not at all. -/
theorem classify_of_adopts {s : State} {n : Nat} (h : s.AdoptsAtOnce n) : classify false s = adoptRow n s := by
  obtain ⟨hattached, hfirst, hunknown | ⟨hkeeps, hother, hcandidate, hdwell⟩⟩ := h
  · unfold classify
    rw [if_neg (by rw [hattached]; decide), if_pos hunknown, hfirst]
  · by_cases hunknown : s.posture.posture = .unknown
    · unfold classify
      rw [if_neg (by rw [hattached]; decide), if_pos hunknown, hfirst]
    · unfold classify chooseCandidate beginPosture
      rw [if_neg (by rw [hattached]; decide), if_neg hunknown, if_neg (by rw [hkeeps]; decide), hfirst]
      dsimp only
      rw [if_neg hother, if_neg hcandidate, if_pos hdwell]

/-- What a classification does, case by case of R70 to R73. -/
theorem classify_classified (s : State) : s.Classified (classify false s) := by
  have hstill : ∀ b : PostureBlock, ({ s with posture := b } : State).advisor.heldPosture = s.advisor.heldPosture
      ∧ ∀ q hf r, .posture q hf r ∈ ({ s with posture := b } : State).host.events → .posture q hf r ∈ s.host.events :=
    fun _ => ⟨rfl, fun _ _ _ h => h⟩
  unfold State.Classified
  refine ⟨fun n hn => ?_, fun h => ?_, fun h hunknown hnone => ?_, fun ⟨hattached, hknown⟩ hclear => ?_,
    fun n ⟨hattached, hknown⟩ hkeeps hfirst hsame => ?_, fun n ⟨hattached, hknown⟩ hkeeps hfirst hother => ⟨fun hc => ?_, fun hc hdwell => ?_⟩⟩
  · rw [classify_of_adopts hn]
    obtain ⟨hevent, horient, hheld, hactivity, -⟩ := changePosture_hands (s.rowPosture n) (some n) s
    exact ⟨changePosture_posture _ _ s, hevent, horient, hheld, hactivity⟩
  · rw [classify, if_pos h]
    exact ⟨rfl, rfl, fun _ _ _ h => h⟩
  · rw [classify, if_neg (by rw [h]; decide), if_pos hunknown, hnone]
    exact ⟨rfl, rfl, fun _ _ _ h => h⟩
  · have hcleared : classify false s = clearPosture s := by
      by_cases hkeeps : s.keeps = true
      · exact classify_of_kept hattached hknown hkeeps
      · have hnone : s.firstMatch = none := hclear.resolve_left hkeeps
        rw [classify, if_neg (by rw [hattached]; decide), if_neg hknown, if_neg hkeeps, chooseCandidate, hnone]
    rw [hcleared]
    exact ⟨rfl, rfl, fun _ _ _ h => h⟩
  all_goals
    rw [classify, if_neg (by rw [hattached]; decide), if_neg hknown, if_neg (by rw [hkeeps]; decide), chooseCandidate, hfirst]
    dsimp only
  · rw [if_pos hsame]
    exact ⟨rfl, rfl, fun _ _ _ h => h⟩
  · rw [if_neg hother, if_pos hc]
    exact ⟨rfl, rfl, fun _ _ _ h => h⟩
  · rw [if_neg hother, if_neg hc, beginPosture, if_neg (by omega)]
    exact ⟨rfl, rfl, fun _ _ _ h => h⟩

end Sys2Proof.Machine
end

section
/-! The Route Engine's visits: when a visit acts, what it leaves of the traversal, and what the rest of a visit keeps once a
FEED has been performed (`Aftermath`). -/

namespace Sys2Proof.Machine

-- One theorem after another, as in the model's tests: a theorem that waits for a kernel evaluation holds a thread.
set_option Elab.async false

/-! ## Events that carry a set -/

/-- What the event raised says of itself and of every merge into an older entry, a pending event says. -/
theorem exists_mem_addEvent {P : Event → Prop} {e : Event} (hself : P e) (hmerge : ∀ y : Event, y.kind = e.kind → P (mergeEvent y e))
    (list : List Event) : ∃ x ∈ addEvent list e, P x := by
  induction list with
  | nil => exact ⟨e, List.mem_singleton.2 rfl, hself⟩
  | cons y rest ih =>
    unfold addEvent
    split
    · next hy => exact ⟨_, List.mem_cons_self .., hmerge y hy⟩
    · obtain ⟨x, hx, hP⟩ := ih
      exact ⟨x, List.mem_cons_of_mem _ hx, hP⟩

theorem mem_addMembers_singleton {α : Type} [DecidableEq α] (list : List α) (a : α) : a ∈ addMembers list [a] := by
  show a ∈ addMember list a
  unfold addMember
  split
  · assumption
  · exact List.mem_append_right _ (List.mem_singleton.2 rfl)

theorem mem_addEvent_tableCommitted (list : List Event) (table : TableId) :
    ∃ tables, .tableCommitted tables ∈ addEvent list (.tableCommitted [table]) ∧ table ∈ tables := by
  obtain ⟨x, hx, tables, rfl, htable⟩ := exists_mem_addEvent (P := fun x => ∃ tables, x = .tableCommitted tables ∧ table ∈ tables)
    (e := .tableCommitted [table]) ⟨_, rfl, List.mem_singleton.2 rfl⟩
    (fun y hy => by cases y <;> simp [Event.kind, mergeEvent, mem_addMembers_singleton] at hy ⊢) list
  exact ⟨tables, hx, htable⟩

theorem mem_addEvent_chainOverrun (list : List Event) (n : Nat) :
    ∃ entries, .chainOverrun entries ∈ addEvent list (.chainOverrun [n]) ∧ n ∈ entries := by
  obtain ⟨x, hx, entries, rfl, hn⟩ := exists_mem_addEvent (P := fun x => ∃ entries, x = .chainOverrun entries ∧ n ∈ entries)
    (e := .chainOverrun [n]) ⟨_, rfl, List.mem_singleton.2 rfl⟩
    (fun y hy => by cases y <;> simp [Event.kind, mergeEvent, mem_addMembers_singleton] at hy ⊢) list
  exact ⟨entries, hx, hn⟩

/-! ## Route entries and their run-time state -/

theorem routeRuntime_congr {s t : State} (h : t.route.runtime = s.route.runtime) (k : Nat) : t.routeRuntime k = s.routeRuntime k :=
  congrArg (fun l : List RouteRuntime => l.getD k { counter := 0, test := .unknown }) h

theorem routeRuntime_write_self {n : Nat} {s : State} (h : n < s.route.runtime.length) (r : RouteRuntime) :
    (writeRuntime n r s).routeRuntime n = r := by
  show (s.route.runtime.set n r).getD n _ = r
  rw [List.getD_eq_getElem?_getD, List.getElem?_set_self h]
  rfl

theorem routeRuntime_write_ne {n k : Nat} (h : k ≠ n) (r : RouteRuntime) (s : State) :
    (writeRuntime n r s).routeRuntime k = s.routeRuntime k := by
  show (s.route.runtime.set n r).getD k _ = s.route.runtime.getD k _
  rw [List.getD_eq_getElem?_getD, List.getElem?_set_ne h.symm, ← List.getD_eq_getElem?_getD]

theorem writeRuntime_write (n : Nat) (r q : RouteRuntime) (s : State) :
    writeRuntime n q (writeRuntime n r s) = writeRuntime n q s := by
  unfold writeRuntime
  rw [List.set_set]

/-! ## What a visit does to the run-time state -/

/-- Of the run-time state only the test state of one entry may differ. -/
def OnlyTests (n : Nat) (s t : State) : Prop :=
  t.route.runtime.length = s.route.runtime.length ∧ (∀ k, k ≠ n → t.routeRuntime k = s.routeRuntime k)
    ∧ (t.routeRuntime n).counter = (s.routeRuntime n).counter

theorem OnlyTests.of_frame {l : List Block} {s t : State} (n : Nat) (h : SameBut l s t) (hl : Block.routeRuntime ∉ l) : OnlyTests n s t := by
  have hruntime := h .routeRuntime hl
  exact ⟨congrArg List.length hruntime, fun k _ => routeRuntime_congr hruntime k, congrArg RouteRuntime.counter (routeRuntime_congr hruntime n)⟩

theorem OnlyTests.trans {n : Nat} {s t u : State} (h : OnlyTests n s t) (k : OnlyTests n t u) : OnlyTests n s u :=
  ⟨k.1.trans h.1, fun j hj => (k.2.1 j hj).trans (h.2.1 j hj), k.2.2.trans h.2.2⟩

theorem OnlyTests.refl (n : Nat) (s : State) : OnlyTests n s s := ⟨rfl, fun _ _ => rfl, rfl⟩

theorem OnlyTests.write (n : Nat) (x : TestState) (s : State) : OnlyTests n s (writeRuntime n { s.routeRuntime n with test := x } s) := by
  refine ⟨List.length_set, fun k hk => routeRuntime_write_ne hk _ s, ?_⟩
  by_cases hn : n < s.route.runtime.length
  · rw [routeRuntime_write_self hn]
  · have hruntime : (writeRuntime n { s.routeRuntime n with test := x } s).route.runtime = s.route.runtime :=
      List.set_eq_of_length_le (Nat.not_lt.1 hn)
    rw [routeRuntime_congr hruntime]

theorem performTest_onlyTests (n : Nat) (e : RouteEntry) (r : Sample) (s : State) : OnlyTests n s (performTest n e r s) := by
  have hmotion : ∀ u, OnlyTests n u (reportMotion u) := fun u => .of_frame n (reportMotion_frame u) (by decide)
  unfold performTest
  split
  · exact .refl n s
  · next v _ =>
    have hraised : OnlyTests n s
        (if testReported (s.routeRuntime n).test (placeNumber e v) then
          raise (.threshold [(n, placeNumber e v)]) (writeRuntime n { s.routeRuntime n with test := placeNumber e v } s)
        else writeRuntime n { s.routeRuntime n with test := placeNumber e v } s) := by
      split
      · exact (OnlyTests.write n _ s).trans (.of_frame n (raise_frame _ _) (by decide))
      · exact .write n _ s
    dsimp only
    split
    · exact hraised.trans (hmotion _)
    · exact hraised

theorem performActions_onlyTests (n : Nat) (e : RouteEntry) (r : Sample) (fed : List Target) (s : State) :
    OnlyTests n s (performActions n e r fed s).1 := by
  have hfeed : OnlyTests n s (performFeed e r fed s).1 := .of_frame n (performFeed_frame e r fed s) (by decide)
  have htest : OnlyTests n s (if e.test then performTest n e r (performFeed e r fed s).1 else (performFeed e r fed s).1) := by
    split
    · exact hfeed.trans (performTest_onlyTests n e r _)
    · exact hfeed
  unfold performActions
  dsimp only
  split
  · exact htest.trans (.of_frame n (performForward_frame _ _ _ _) (by decide))
  · exact htest

theorem mem_performFeed {e : RouteEntry} {r : Sample} {fed : List Target} {s : State} {target : Target} (h : target ∈ fed) :
    target ∈ (performFeed e r fed s).2 := by
  unfold performFeed
  split
  · exact h
  · split
    · exact h
    · exact List.mem_append_left _ h

/-! ## The work of a visit -/

/-- The sample is counted in at an entry: the counter shows the value given. -/
def countAt (n counter : Nat) (s : State) : State := writeRuntime n { s.routeRuntime n with counter := counter } s

theorem visitEntry_of_silent {w : Traversal} {s : State} (h : (s.routeEntry w.entry).enabled = false ∨ w.entry ∈ w.visited) :
    visitEntry w s = (s, w.fed) := by
  unfold visitEntry
  rw [if_neg]
  rintro ⟨henabled, hnew⟩
  exact h.elim (fun hdisabled => by rw [hdisabled] at henabled; cases henabled) hnew

theorem visitEntry_of_first {w : Traversal} {s : State} (henabled : (s.routeEntry w.entry).enabled = true)
    (hnew : w.entry ∉ w.visited) :
    visitEntry w s =
      if advancedCounter (s.routeEntry w.entry).decimation (s.routeRuntime w.entry).counter = 0 then
        performActions w.entry (s.routeEntry w.entry) w.record w.fed (countAt w.entry 0 s)
      else
        (countAt w.entry (advancedCounter (s.routeEntry w.entry).decimation (s.routeRuntime w.entry).counter) s, w.fed) := by
  unfold visitEntry countAt
  rw [if_pos ⟨henabled, hnew⟩]
  dsimp only
  split
  · next hzero => rw [hzero]
  · rfl

/-- A visit at which the entry acts. -/
theorem visitEntry_of_acts {w : Traversal} {s : State} (h : s.ActsAt w) :
    visitEntry w s = performActions w.entry (s.routeEntry w.entry) w.record w.fed (countAt w.entry 0 s) := by
  obtain ⟨-, henabled, hnew, hzero⟩ := h
  rw [visitEntry_of_first henabled hnew, if_pos hzero]

theorem visit_of_next {w : Traversal} {s : State} {n : Nat} (hnext : (s.routeEntry w.entry).next = some n)
    (hvisits : w.visits + 1 < 16) : visit w s = walkOn (w.goneOn n (visitEntry w s).2) (visitEntry w s).1 := by
  unfold visit
  rw [hnext]
  dsimp only
  rw [if_pos hvisits]
  rfl

theorem visit_of_last {w : Traversal} {s : State} (hnext : (s.routeEntry w.entry).next = none) :
    visit w s = endTraversal (visitEntry w s).1 := by
  unfold visit
  rw [hnext]

/-- The sixteenth visit with a next link ends the traversal with CHAIN_OVERRUN (R26). -/
theorem visit_of_overrun {w : Traversal} {s : State} {n : Nat} (hnext : (s.routeEntry w.entry).next = some n)
    (hvisits : 16 ≤ w.visits + 1) : visit w s = endTraversal (raise (.chainOverrun [w.entry]) (visitEntry w s).1) := by
  unfold visit
  rw [hnext]
  dsimp only
  rw [if_neg (by omega)]

theorem visitNext_of_walking {w : Traversal} {s : State} (h : s.route.walking = some w) : visitNext s = visit w s := by
  unfold visitNext; rw [h]

theorem effect_routeVisit {w : Traversal} {s : State} (h : s.route.walking = some w) : effect .routeVisit s = visit w s :=
  visitNext_of_walking h

theorem mem_visitEntry_fed {w : Traversal} {s : State} {target : Target} (h : target ∈ w.fed) : target ∈ (visitEntry w s).2 := by
  by_cases hfirst : (s.routeEntry w.entry).enabled = true ∧ w.entry ∉ w.visited
  · rw [visitEntry_of_first hfirst.1 hfirst.2]
    split
    · exact mem_performFeed h
    · exact h
  · rw [visitEntry_of_silent (by grind)]
    exact h

/-- The counter of the entry visited for the first time advances (R22). -/
theorem visitEntry_counter {w : Traversal} {s : State} (henabled : (s.routeEntry w.entry).enabled = true)
    (hnew : w.entry ∉ w.visited) (hlength : w.entry < s.route.runtime.length) :
    ((visitEntry w s).1.routeRuntime w.entry).counter
      = ((s.routeRuntime w.entry).counter + 1) % (s.routeEntry w.entry).decimation := by
  have hcount : ∀ c, ((countAt w.entry c s).routeRuntime w.entry).counter = c := fun c => by
    unfold countAt; rw [routeRuntime_write_self hlength]
  rw [visitEntry_of_first henabled hnew]
  split
  · next hzero =>
    rw [(performActions_onlyTests _ _ _ _ _).2.2, hcount]
    exact hzero.symm
  · exact hcount _

theorem visitEntry_runtime_ne {w : Traversal} {s : State} {k : Nat} (h : k ≠ w.entry) :
    (visitEntry w s).1.routeRuntime k = s.routeRuntime k := by
  have hcount : ∀ c, (countAt w.entry c s).routeRuntime k = s.routeRuntime k := fun c => routeRuntime_write_ne h _ s
  by_cases hfirst : (s.routeEntry w.entry).enabled = true ∧ w.entry ∉ w.visited
  · rw [visitEntry_of_first hfirst.1 hfirst.2]
    split
    · rw [(performActions_onlyTests _ _ _ _ _).2.1 k h, hcount]
    · exact hcount _
  · rw [visitEntry_of_silent (by grind)]

/-! ## Visits that go on (R22, R24, R25) -/

/-- Settles O15: the visit's work, then the walk to the next entry. -/
theorem routeVisitFollowsTheNextLink : Obligations.RouteVisitFollowsTheNextLink := by
  intro s w n hwalking hnext hvisits
  refine ⟨_, exec_eq _ s, ?_⟩
  rw [effect_routeVisit hwalking, visit_of_next hnext hvisits]
  refine ⟨⟨_, rfl, fun target h => mem_visitEntry_fed h⟩, fun hfirst hlength => visitEntry_counter hfirst.1 hfirst.2 hlength,
    fun k hk => visitEntry_runtime_ne hk, fun hrepeated => ?_, ?_⟩
  · rw [visitEntry_of_silent (by grind)]
    rfl
  · exact ((visitEntry_frame w s).seq (walkOn_frame _ _) (m := .routeWalking :: actionBlocks) (by decide) (by decide)).settled s

/-- Settles O16: no action is performed, so no holding is touched. -/
theorem silentVisitsOnlyWalkOn : Obligations.SilentVisitsOnlyWalkOn := by
  intro s w n hwalking hnext hvisits
  have hwalk : ∀ u : State, visit w s = u → u.holdings = s.holdings → u.levelMode = s.levelMode →
      exec .routeVisit s = .next u.lineKept := fun u hu hholdings hlevel => by
    rw [exec_eq, effect_routeVisit hwalking, hu, settle_lineKept hholdings hlevel]
  refine ⟨fun hsilent => hwalk _ ?_ rfl rfl, fun k henabled hnew hcounter => hwalk _ ?_ rfl rfl⟩
  · rw [visit_of_next hnext hvisits, visitEntry_of_silent hsilent]
    rfl
  · have hadvanced : advancedCounter (s.routeEntry w.entry).decimation (s.routeRuntime w.entry).counter = k + 1 := hcounter
    rw [visit_of_next hnext hvisits, visitEntry_of_first henabled hnew, hadvanced, if_neg (Nat.succ_ne_zero k)]
    rfl

/-! ## The end of a traversal (R23, R26, R41) -/

theorem applyHeld_of_none {s : State} (h : s.route.hold = false) : applyHeld s = s := by
  unfold applyHeld; rw [if_neg (by rw [h]; decide)]

theorem takeRecord_of_empty {s : State} (h : s.intake.fifo = []) : takeRecord s = s := by
  unfold takeRecord; rw [h]

theorem takeRecord_fifo (s : State) : (takeRecord s).intake.fifo = s.intake.fifo.tail := by
  unfold takeRecord
  split
  · next h => rw [h]; rfl
  · next h => rw [h]; rfl

theorem takeRecord_walking {s : State} (h : s.route.walking = none) :
    (takeRecord s).route.walking = s.intake.fifo.head?.map startTraversal := by
  unfold takeRecord
  split
  · next hfifo => rw [hfifo, h]; rfl
  · next hfifo => rw [hfifo]; rfl

theorem applyHeld_intake (s : State) : (applyHeld s).intake.fifo = s.intake.fifo := applyHeld_frame s .fifo (by decide)

/-- The engine is IDLE, a held commit applied. -/
def atRest (s : State) : State := applyHeld { s with route := { s.route with walking := none } }

theorem endTraversal_eq (s : State) : endTraversal s = takeRecord (atRest s) := rfl

theorem endTraversal_of_free {s : State} (h : s.route.hold = false) :
    endTraversal s = takeRecord { s with route := { s.route with walking := none } } :=
  congrArg takeRecord (applyHeld_of_none h)

theorem endTraversal_fifo (s : State) : (endTraversal s).intake.fifo = s.intake.fifo.tail := by
  rw [endTraversal_eq, takeRecord_fifo, atRest, applyHeld_intake]

theorem endTraversal_walking (s : State) : (endTraversal s).route.walking = s.intake.fifo.head?.map startTraversal := by
  have hidle : (atRest s).route.walking = none := by
    unfold atRest applyHeld
    split <;> rfl
  rw [endTraversal_eq, takeRecord_walking hidle, atRest, applyHeld_intake]

/-- What a record taken leaves of the route block. -/
theorem takeRecord_route (s : State) :
    (takeRecord s).route.hold = s.route.hold ∧ (takeRecord s).route.table = s.route.table
      ∧ (takeRecord s).route.runtime = s.route.runtime :=
  ⟨takeRecord_frame s .routeHold (by decide), takeRecord_frame s .routeTable (by decide), takeRecord_frame s .routeRuntime (by decide)⟩

theorem endTraversal_hold (s : State) : (endTraversal s).route.hold = false := by
  rw [endTraversal_eq, (takeRecord_route _).1]
  unfold atRest applyHeld
  split
  · rfl
  · next h => exact Bool.eq_false_iff.2 h

theorem endTraversal_of_hold {s : State} (h : s.route.hold = true) :
    (endTraversal s).route.table = s.staging.route.map readRouteEntry ∧ (endTraversal s).route.runtime = runtimeReset
      ∧ ∃ tables, .tableCommitted tables ∈ (endTraversal s).host.events ∧ .route ∈ tables := by
  obtain ⟨-, htable, hruntime⟩ := takeRecord_route (atRest s)
  have hevents : (takeRecord (atRest s)).host.events = (atRest s).host.events := takeRecord_frame _ .events (by decide)
  have happlied : atRest s = raise (.tableCommitted [.route])
      { s with route := { s.route with
        table := s.staging.route.map readRouteEntry, runtime := runtimeReset, hold := false, walking := none } } := by
    unfold atRest applyHeld
    rw [if_pos h]
    rfl
  rw [endTraversal_eq, htable, hruntime, hevents, happlied]
  exact ⟨rfl, rfl, mem_addEvent_tableCommitted _ _⟩

/-- The table and the run-time state of a free engine stay. -/
theorem endTraversal_route {s : State} (h : s.route.hold = false) :
    (endTraversal s).route.table = s.route.table ∧ (endTraversal s).route.runtime = s.route.runtime := by
  rw [endTraversal_of_free h]
  exact (takeRecord_route _).2

/-- A visit that ends the traversal does so from a state that differs from the one before in the visit's actions and the
CHAIN_OVERRUN alone. -/
theorem visit_ends {w : Traversal} {s : State} (h : (s.routeEntry w.entry).next = none ∨ 16 ≤ w.visits + 1) :
    ∃ u, visit w s = endTraversal u ∧ SameBut actionBlocks s u
      ∧ ((s.routeEntry w.entry).next ≠ none → ∃ entries, .chainOverrun entries ∈ u.host.events ∧ w.entry ∈ entries) := by
  rcases hnext : (s.routeEntry w.entry).next with _ | n
  · exact ⟨_, visit_of_last hnext, visitEntry_frame w s, fun hne => absurd rfl hne⟩
  · have hvisits : 16 ≤ w.visits + 1 := h.resolve_left (by rw [hnext]; exact Option.some_ne_none n)
    exact ⟨_, visit_of_overrun hnext hvisits, (visitEntry_frame w s).seq (raise_frame _ _) (by decide) (by decide),
      fun _ => mem_addEvent_chainOverrun _ _⟩

/-- Settles O17: the actions leave FIFO, table and hold alone, and the end of the traversal does the rest. -/
theorem routeVisitEndsTheTraversal : Obligations.RouteVisitEndsTheTraversal := by
  intro s w hwalking hlast
  obtain ⟨u, hvisit, hactions, hoverrun⟩ := visit_ends hlast
  have hfifo : u.intake.fifo = s.intake.fifo := hactions .fifo (by decide)
  have hhold : u.route.hold = s.route.hold := hactions .routeHold (by decide)
  have htable : u.route.table = s.route.table := hactions .routeTable (by decide)
  have hstaging : u.staging = s.staging := hactions .staging (by decide)
  refine ⟨_, exec_eq _ s, ?_⟩
  rw [effect_routeVisit hwalking, hvisit]
  refine ⟨(endTraversal_fifo u).trans (by rw [hfifo]), (endTraversal_walking u).trans (by rw [hfifo]), endTraversal_hold u,
    fun hne => ?_, fun hfree => (endTraversal_route (hhold.trans hfree)).1.trans htable, fun hheld => ?_, ?_⟩
  · obtain ⟨entries, hmem, hentry⟩ := hoverrun hne
    exact ⟨entries, endTraversal_kept u _ hmem (by simp [Event.kind]), hentry⟩
  · obtain ⟨htaken, hruntime, hevent⟩ := endTraversal_of_hold (hhold.trans hheld)
    exact ⟨htaken.trans (by rw [hstaging]), hruntime, hevent⟩
  · exact ((hactions.mono visitBlocks (by decide)).trans (endTraversal_frame u)).settled s

/-! ## The begin of a traversal (R23) -/

theorem beginTraversal_of_free {r : Sample} {rest : List Sample} {s : State} (hidle : s.route.walking = none)
    (hfree : s.route.hold = false) (hfifo : s.intake.fifo = r :: rest) :
    beginTraversal s = visit (startTraversal r) (takeRecord s) := by
  have hwalking : (takeRecord s).route.walking = some (startTraversal r) := by
    rw [takeRecord_walking hidle, hfifo]; rfl
  unfold beginTraversal
  rw [if_pos ⟨hidle, hfree⟩, visitNext_of_walking hwalking]

theorem beginTraversal_of_busy {s : State} (h : s.route.walking ≠ none ∨ s.route.hold = true ∨ s.intake.fifo = []) :
    beginTraversal s = s := by
  unfold beginTraversal
  split
  · next hfree =>
    obtain ⟨hidle, hhold⟩ := hfree
    obtain h | h | h := h
    · exact absurd hidle h
    · rw [h] at hhold; cases hhold
    · rw [takeRecord_of_empty h, visitNext, hidle]
  · rfl

theorem routeEntry_congr {s t : State} (h : t.route.table = s.route.table) (n : Nat) : t.routeEntry n = s.routeEntry n :=
  congrArg (fun l : List RouteEntry => l.getD n plainRoute) h

/-- A record taken and the first visit made: what TRAVERSAL_BEGIN may write. -/
def beginBlocks : List Block := .fifo :: .routeWalking :: actionBlocks

/-- The first visit of a free engine: on to the next entry, or the traversal ends and the record behind is taken. -/
theorem visit_of_free {w : Traversal} {s : State} (hfree : s.route.hold = false) (hfirst : w.visits = 0) :
    SameBut beginBlocks s (visit w s) ∧ (visit w s).route.runtime = (visitEntry w s).1.route.runtime
      ∧ (∀ n, (s.routeEntry w.entry).next = some n → (visit w s).intake.fifo = s.intake.fifo
          ∧ (visit w s).route.walking = some (w.goneOn n (visitEntry w s).2))
      ∧ ((s.routeEntry w.entry).next = none → (visit w s).intake.fifo = s.intake.fifo.tail
          ∧ (visit w s).route.walking = s.intake.fifo.head?.map startTraversal) := by
  have hactions := visitEntry_frame w s
  have hfifo : (visitEntry w s).1.intake.fifo = s.intake.fifo := hactions .fifo (by decide)
  have hhold : (visitEntry w s).1.route.hold = false := (hactions .routeHold (by decide)).trans hfree
  rcases hnext : (s.routeEntry w.entry).next with _ | n
  · rw [visit_of_last hnext]
    refine ⟨?_, (endTraversal_route hhold).2, (fun _ h => by cases h), fun _ => ⟨?_, ?_⟩⟩
    · rw [endTraversal_of_free hhold]
      refine (hactions.mono beginBlocks (by decide)).trans (SameBut.trans ?_ ((takeRecord_frame _).mono _ (by decide)))
      intro b hb
      cases b <;> first | rfl | exact absurd (by decide) hb
    · rw [endTraversal_fifo, hfifo]
    · rw [endTraversal_walking, hfifo]
  · rw [visit_of_next hnext (by omega)]
    exact ⟨hactions.seq (walkOn_frame _ _) (by decide) (by decide), rfl,
      (fun m hm => ⟨hfifo, by cases hm; rfl⟩), (fun h => by cases h)⟩

/-- Settles O14: the head record is taken and its first visit made, or the command finds nothing to do. -/
theorem traversalBeginVisitsTheHeadEntry : Obligations.TraversalBeginVisitsTheHeadEntry := by
  refine fun s => ⟨fun r rest hidle hfree hfifo => ?_, fun hbusy => ?_⟩
  · have htaken := takeRecord_frame s
    have hrest : (takeRecord s).intake.fifo = rest := by rw [takeRecord_fifo, hfifo]; rfl
    have hhold : (takeRecord s).route.hold = false := (takeRecord_route s).1.trans hfree
    have hentry := routeEntry_congr (takeRecord_route s).2.1
    have hruntime := routeRuntime_congr (takeRecord_route s).2.2
    obtain ⟨hframe, hvisited, hgoes, hends⟩ := visit_of_free (w := startTraversal r) hhold rfl
    have hwhole : SameBut beginBlocks s (visit (startTraversal r) (takeRecord s)) := (htaken.mono _ (by decide)).trans hframe
    refine ⟨_, exec_eq _ s, ?_⟩
    rw [show effect .traversalBegin s = beginTraversal s from rfl, beginTraversal_of_free hidle hfree hfifo]
    refine ⟨fun n hnext => ?_, fun hnext => ?_, fun hdisabled => ?_, fun henabled hlength => ?_, ?_, ?_, hwhole.settled s⟩
    · obtain ⟨hstays, hwalking⟩ := hgoes n (by rw [hentry]; exact hnext)
      exact ⟨hstays.trans hrest, _, hwalking⟩
    · obtain ⟨hstays, hwalking⟩ := hends (by rw [hentry]; exact hnext)
      exact ⟨hstays.trans (by rw [hrest]), hwalking.trans (by rw [hrest])⟩
    · refine hvisited.trans ?_
      rw [visitEntry_of_silent (.inl (by rw [hentry]; exact hdisabled))]
      exact (takeRecord_route s).2.2
    · have hcounter := visitEntry_counter (w := startTraversal r) (s := takeRecord s) (by rw [hentry]; exact henabled)
        (List.not_mem_nil) (by rw [(takeRecord_route s).2.2]; exact hlength)
      rw [hentry, hruntime] at hcounter
      exact (congrArg RouteRuntime.counter (routeRuntime_congr hvisited _)).trans hcounter
    · exact hwhole .routeTable (by decide)
    · exact (hwhole .routeHold (by decide)).trans hfree
  · rw [exec_eq, show effect .traversalBegin s = beginTraversal s from rfl, beginTraversal_of_busy hbusy, settle_self]

end Sys2Proof.Machine
end

section
/-! TEST, FORWARD and the Batch Store: a visit that performs one of them alone. -/

namespace Sys2Proof.Machine

-- One theorem after another, as in the model's tests: a theorem that waits for a kernel evaluation holds a thread.
set_option Elab.async false

/-! ## TEST (R31 to R34) -/

theorem mem_setPair (p : Nat × TestState) (pairs : List (Nat × TestState)) : p ∈ setPair pairs p := by
  induction pairs with
  | nil => exact List.mem_singleton.2 rfl
  | cons q rest ih =>
    unfold setPair
    split
    · exact List.mem_cons_self ..
    · exact List.mem_cons_of_mem _ ih

theorem mem_addEvent_threshold (list : List Event) (p : Nat × TestState) :
    ∃ pairs, .threshold pairs ∈ addEvent list (.threshold [p]) ∧ p ∈ pairs := by
  obtain ⟨x, hx, pairs, rfl, hp⟩ := exists_mem_addEvent (P := fun x => ∃ pairs, x = .threshold pairs ∧ p ∈ pairs)
    (e := .threshold [p]) ⟨_, rfl, List.mem_singleton.2 rfl⟩
    (fun y hy => by cases y <;> simp [Event.kind, mergeEvent, mem_setPair] at hy ⊢) list
  exact ⟨pairs, hx, hp⟩

theorem placeNumber_inside {e : RouteEntry} {v : Int} (h : e.low.toInt ≤ v ∧ v ≤ e.high.toInt) : placeNumber e v = .inside :=
  if_pos h

theorem placeNumber_outside {e : RouteEntry} {v : Int} (h : v < e.low.toInt ∨ e.high.toInt < v) : placeNumber e v = .outside :=
  if_neg (by omega)

theorem placeNumber_ne_unknown (e : RouteEntry) (v : Int) : placeNumber e v ≠ .unknown := by
  unfold placeNumber
  split <;> decide

/-- A change to OUTSIDE, and one from OUTSIDE to INSIDE, are the changes reported (R32). -/
theorem testReported_iff {old new : TestState} (h : new ≠ .unknown) :
    testReported old new = true ↔ (new = .outside ∧ old ≠ .outside) ∨ (old = .outside ∧ new = .inside) := by
  cases old <;> cases new <;> first | decide | exact absurd rfl h

/-- The test state is set, and the change reported. -/
def placeTest (n : Nat) (e : RouteEntry) (v : Int) (s : State) : State :=
  let placed := writeRuntime n { s.routeRuntime n with test := placeNumber e v } s
  if testReported (s.routeRuntime n).test (placeNumber e v) then raise (.threshold [(n, placeNumber e v)]) placed else placed

theorem performTest_of_number {n : Nat} {e : RouteEntry} {r : Sample} {v : Int} (h : testNumber e.select r.values = some v)
    (s : State) :
    performTest n e r s =
      if e.wake = true ∧ placeNumber e v = .outside ∧ (s.routeRuntime n).test ≠ .outside ∧ r.unsettled = false then
        reportMotion (placeTest n e v s)
      else placeTest n e v s := by
  unfold performTest
  rw [h]
  rfl

theorem performTest_of_none {n : Nat} {e : RouteEntry} {r : Sample} (h : testNumber e.select r.values = none) (s : State) :
    performTest n e r s = s := by
  unfold performTest
  rw [h]

theorem placeTest_frame (n : Nat) (e : RouteEntry) (v : Int) (s : State) :
    SameBut [.routeRuntime, .events] s (placeTest n e v s) := by
  unfold placeTest
  dsimp only
  split
  · exact (writeRuntime_frame _ _ s).seq (raise_frame _ _) (by decide) (by decide)
  · exact (writeRuntime_frame _ _ s).mono _ (by decide)

theorem placeTest_runtime (n : Nat) (e : RouteEntry) (v : Int) (s : State) :
    (placeTest n e v s).route.runtime = s.route.runtime.set n { s.routeRuntime n with test := placeNumber e v } := by
  unfold placeTest
  dsimp only
  split <;> rfl

theorem placeTest_test {n : Nat} {s : State} (h : n < s.route.runtime.length) (e : RouteEntry) (v : Int) :
    ((placeTest n e v s).routeRuntime n).test = placeNumber e v := by
  have hwritten := routeRuntime_congr (s := writeRuntime n { s.routeRuntime n with test := placeNumber e v } s)
    (placeTest_runtime n e v s) n
  rw [hwritten, routeRuntime_write_self h]

theorem placeTest_events (n : Nat) (e : RouteEntry) (v : Int) (s : State) :
    (placeTest n e v s).host.events
      = if testReported (s.routeRuntime n).test (placeNumber e v) = true then
          addEvent s.host.events (.threshold [(n, placeNumber e v)]) else s.host.events := by
  unfold placeTest
  dsimp only
  split <;> rfl

theorem countAt_test {n : Nat} {s : State} (h : n < s.route.runtime.length) (c : Nat) :
    ((countAt n c s).routeRuntime n).test = (s.routeRuntime n).test := by
  unfold countAt
  rw [routeRuntime_write_self h]

theorem countAt_frame (n c : Nat) (s : State) : SameBut [.routeRuntime] s (countAt n c s) := writeRuntime_frame _ _ s

/-- A visit that performs a TEST alone. -/
theorem effect_of_testsOnly {s : State} {w : Traversal} {n : Nat} (h : s.TestsOnly w n) :
    effect .routeVisit s
      = walkOn (w.goneOn n w.fed) (performTest w.entry (s.routeEntry w.entry) w.record (countAt w.entry 0 s)) := by
  obtain ⟨hacts, -, hvisits, hnext, hfeed, htest, hforward⟩ := h
  rw [effect_routeVisit hacts.1, visit_of_next hnext hvisits, visitEntry_of_acts hacts]
  unfold performActions performFeed
  rw [hfeed, htest, hforward]
  rfl

/-- Settles O18: the selected number is read off the sample, and without one the visit only counts the sample in. -/
theorem testComparesTheSelectedNumber : Obligations.TestComparesTheSelectedNumber := by
  refine ⟨fun _ => rfl, fun _ _ _ => ⟨rfl, rfl, rfl⟩, fun v => ?_, fun x y z => ?_, fun _ => ⟨rfl, rfl⟩, fun s w n htests hnone => ?_⟩
  · refine congrArg some ?_
    unfold absValue
    omega
  · refine congrArg some ?_
    unfold absValue
    omega
  · refine ⟨_, exec_eq _ s, ?_⟩
    rw [effect_of_testsOnly htests, performTest_of_none hnone]
    exact ⟨countAt_test htests.2.1 0, ((countAt_frame _ _ s).seq (walkOn_frame _ _) (m := [.routeWalking, .routeRuntime])
      (by decide) (by decide)).settled s⟩

/-- Settles O19: the test state placed, the change reported, and with WAKE the motion. -/
theorem testReportsItsChanges : Obligations.TestReportsItsChanges := by
  intro s w n v htests hnumber
  have hlength : w.entry < (countAt w.entry 0 s).route.runtime.length := by
    show w.entry < (s.route.runtime.set _ _).length
    rw [List.length_set]; exact htests.2.1
  have hold : ((countAt w.entry 0 s).routeRuntime w.entry).test = (s.routeRuntime w.entry).test := countAt_test htests.2.1 0
  refine ⟨_, exec_eq _ s, ?_⟩
  rw [effect_of_testsOnly htests, performTest_of_number hnumber, hold]
  generalize he : s.routeEntry w.entry = e
  generalize hu : placeTest w.entry e v (countAt w.entry 0 s) = u
  have hframe : SameBut [.routeRuntime, .events] s u := by
    rw [← hu]; exact ((countAt_frame _ _ s).mono _ (by decide)).trans (placeTest_frame _ _ _ _)
  have htest : (u.routeRuntime w.entry).test = placeNumber e v := by rw [← hu]; exact placeTest_test hlength e v
  have hevents : u.host.events
      = if testReported (s.routeRuntime w.entry).test (placeNumber e v) = true then
          addEvent s.host.events (.threshold [(w.entry, placeNumber e v)]) else s.host.events := by
    rw [← hu, placeTest_events, hold]; rfl
  have hreports := testReported_iff (old := (s.routeRuntime w.entry).test) (placeNumber_ne_unknown e v)
  have hmotion := reportMotion_frame u
  have hinside := placeNumber_inside (e := e) (v := v)
  have houtside := placeNumber_outside (e := e) (v := v)
  generalize placeNumber e v = new at *
  generalize (s.routeRuntime w.entry).test = old at *
  have hwalk : ∀ x : State, SameBut [.routeWalking, .pulse] x (settleAttention s (walkOn (w.goneOn n w.fed) x)) := fun x =>
    (walkOn_frame _ x).settled s
  by_cases hmoves : e.wake = true ∧ new = .outside ∧ old ≠ .outside ∧ w.record.unsettled = false
  · rw [if_pos hmoves]
    have hmoved : ((settleAttention s (walkOn (w.goneOn n w.fed) (reportMotion u))).routeRuntime w.entry).test = new :=
      (congrArg RouteRuntime.test (routeRuntime_congr (hmotion .routeRuntime (by decide)) _)).trans htest
    rw [hmoved]
    refine ⟨hinside, houtside, fun hreported => ?_, fun h => absurd hmoves h, fun h => absurd hmoves h, fun _ => ?_, ?_⟩
    · rw [if_pos (hreports.2 hreported)] at hevents
      obtain ⟨pairs, hmem, hpair⟩ := mem_addEvent_threshold s.host.events (w.entry, new)
      exact ⟨pairs, advisorTakes_kept _ _ _ u _ (by rw [hevents]; exact hmem) (by simp [Event.kind]), hpair⟩
    · exact (advisorTakes_lastActivity _ _ u).trans (hframe .tick (by decide))
    · exact (((hframe.mono _ (by decide)).trans (hmotion.mono _ (by decide)))).trans ((hwalk _).mono _ (by decide))
  · rw [if_neg hmoves]
    have hplaced : ((settleAttention s (walkOn (w.goneOn n w.fed) u)).routeRuntime w.entry).test = new := htest
    rw [hplaced]
    have hwhole : SameBut [.routeWalking, .routeRuntime, .events, .pulse] s (settleAttention s (walkOn (w.goneOn n w.fed) u)) :=
      (hframe.mono _ (by decide)).trans ((hwalk _).mono _ (by decide))
    refine ⟨hinside, houtside, fun hreported => ?_, fun _ => hevents.trans (by simp only [hreports]), fun _ => hwhole,
      fun h => absurd h hmoves, hwhole.mono _ (by decide)⟩
    rw [if_pos (hreports.2 hreported)] at hevents
    obtain ⟨pairs, hmem, hpair⟩ := mem_addEvent_threshold s.host.events (w.entry, new)
    exact ⟨pairs, by rw [show (settleAttention s (walkOn (w.goneOn n w.fed) u)).host.events = u.host.events from rfl, hevents]; exact hmem, hpair⟩

/-! ## FORWARD (R35 to R37) -/

theorem hostUp_iff (p : Platform) : p.hostUp = true ↔ p = .awake ∨ p = .advised := by cases p <;> decide

/-- A visit that performs a FORWARD alone. -/
theorem effect_of_forwardsOnly {s : State} {w : Traversal} {n : Nat} (h : s.ForwardsOnly w n) :
    effect .routeVisit s
      = walkOn (w.goneOn n w.fed) (performForward w.entry (s.routeEntry w.entry) w.record (countAt w.entry 0 s)) := by
  obtain ⟨hacts, -, hvisits, hnext, hfeed, htest, hforward⟩ := h
  rw [effect_routeVisit hacts.1, visit_of_next hnext hvisits, visitEntry_of_acts hacts]
  unfold performActions performFeed
  rw [hfeed, htest, hforward]
  rfl

/-- What a FORWARD alone touches, the walk and the count of the visit included. -/
theorem forwardsOnly_frame {l m : List Block} {s t : State} {w : Traversal} {n : Nat} (h : SameBut l (countAt w.entry 0 s) t)
    (sub : ∀ b ∈ l, b ∈ m := by decide) (count : ∀ b ∈ [Block.routeRuntime], b ∈ m := by decide)
    (walk : ∀ b ∈ [Block.routeWalking], b ∈ m := by decide) (pulse : ∀ b ∈ [Block.pulse], b ∈ m := by decide) :
    SameBut m s (settleAttention s (walkOn (w.goneOn n w.fed) t)) :=
  ((((countAt_frame _ _ s).mono m count).trans (h.mono m sub)).trans ((walkOn_frame _ _).mono m walk)).trans
    ((settleAttention_frame s _).mono m pulse)

/-- Settles O20: the copy goes where the platform state of the moment sends it. -/
theorem forwardGoesByPlatformState : Obligations.ForwardGoesByPlatformState := by
  intro s w n hforwards
  refine ⟨_, exec_eq _ s, ?_⟩
  rw [effect_of_forwardsOnly hforwards]
  have hcount : (countAt w.entry 0 s).sampleCount = s.sampleCount := rfl
  unfold performForward offerSample
  rw [show (countAt w.entry 0 s).advisor.platform.hostUp = s.advisor.platform.hostUp from rfl, hcount]
  refine ⟨fun hup hroom => ?_, fun hup hfull => ?_, fun hdown hrefused => ?_, fun hdown hallowed => ?_⟩
  · rw [if_pos ((hostUp_iff _).2 hup), if_pos hroom]
    refine ⟨rfl, rfl, forwardsOnly_frame (l := [.samples, .gaps]) ?_⟩
    intro b hb
    cases b <;> first | rfl | exact absurd (by decide) hb
  · rw [if_pos ((hostUp_iff _).2 hup), if_neg (by omega)]
    exact ⟨rfl, forwardsOnly_frame (setGap_frame _ _)⟩
  · rw [if_neg (fun h => hdown ((hostUp_iff _).1 h)), hrefused]
    exact forwardsOnly_frame (SameBut.refl [] _)
  · rw [if_neg (fun h => hdown ((hostUp_iff _).1 h)), hallowed]
    exact forwardsOnly_frame (offerBatch_frame _ _ _)

/-! ## The banks (R157, R158) -/

theorem enterBank_of_room {i : BankId} {r : Sample} {s : State} (n : Nat) (h : (s.batch.bank i).records.length ≠ 63) :
    enterBank i n r s
      = clearGap r.source (writeBank i { s.batch.bank i with records := (s.batch.bank i).records ++ [forwardCopy n r s] } s) := by
  unfold enterBank
  dsimp only
  rw [if_neg (by rw [List.length_append, List.length_singleton]; omega)]

theorem enterBank_of_last {i : BankId} {r : Sample} {s : State} (n : Nat) (h : (s.batch.bank i).records.length = 63) :
    (enterBank i n r s).batch
        = s.batch.setBank i
            { s.batch.bank i with role := .ready, records := (s.batch.bank i).records ++ [forwardCopy n r s] }
      ∧ .batch i .ready ∈ (enterBank i n r s).host.events := by
  unfold enterBank
  dsimp only
  rw [if_pos (by rw [List.length_append, List.length_singleton, h])]
  exact ⟨advisorTakes_frame _ _ _ _ .batch (by decide),
    advisorTakes_kept _ _ _ _ _ (mem_addEvent_self _ _ (by simp [Event.kind])) (by simp [Event.kind])⟩

theorem beginFill_bank (i j : BankId) (gapBefore : Bool) (s : State) :
    (beginFill i gapBefore s).batch.bank j
      = if j = i then { role := .fill, records := [], gapBefore := gapBefore, gapAfter := false } else s.batch.bank j := by
  unfold beginFill
  rw [BatchBlock.bank_order, BatchBlock.bank_setBank]

theorem beginFill_newest (i : BankId) (gapBefore : Bool) (s : State) : (beginFill i gapBefore s).batch.order.getLast? = some i :=
  List.getLast?_concat ..

/-- A bank that begins to fill with a copy holds it alone, as the newer bank. -/
theorem enterBank_of_begun (i : BankId) (n : Nat) (r : Sample) (gapBefore : Bool) (s : State) :
    (enterBank i n r (beginFill i gapBefore s)).batch.bank i
        = { role := .fill, records := [forwardCopy n r s], gapBefore := gapBefore, gapAfter := false }
      ∧ (enterBank i n r (beginFill i gapBefore s)).batch.order.getLast? = some i := by
  have hbank : (beginFill i gapBefore s).batch.bank i = { role := .fill, records := [], gapBefore := gapBefore, gapAfter := false } := by
    rw [beginFill_bank, if_pos rfl]
  rw [enterBank_of_room n (by rw [hbank]; exact (by decide : (0 : Nat) ≠ 63)), hbank]
  refine ⟨?_, ?_⟩
  · show (writeBank i _ (beginFill i gapBefore s)).batch.bank i = _
    rw [writeBank_bank, if_pos rfl]
    rfl
  · show (writeBank i _ (beginFill i gapBefore s)).batch.order.getLast? = _
    rw [writeBank_order]
    exact beginFill_newest ..

/-- Settles O21: the FILL bank, a FREE one, or the overflow rule takes the copy. -/
theorem batchBanksTakeForwardedCopies : Obligations.BatchBanksTakeForwardedCopies := by
  intro s w n i hforwards hallowed hdown
  have hup : ¬ s.advisor.platform.hostUp = true := by
    rw [hostUp_iff]
    obtain h | h := hdown <;> rw [h] <;> decide
  refine ⟨_, exec_eq _ s, ?_⟩
  rw [effect_of_forwardsOnly hforwards]
  unfold performForward
  rw [show (countAt w.entry 0 s).advisor.platform.hostUp = s.advisor.platform.hostUp from rfl, if_neg hup, hallowed, if_pos rfl]
  unfold offerBatch
  rw [show (countAt w.entry 0 s).batch = s.batch from rfl]
  refine ⟨fun hfilling hroom => ?_, fun hfilling hlast => ?_, fun hnone hfree => ?_, fun hnone hnofree hnewest hhead => ?_,
    fun hnone hnofree holdest hlast => ?_⟩
  · rw [hfilling]
    dsimp only
    rw [enterBank_of_room _ (by show (s.batch.bank i).records.length ≠ 63; omega)]
    refine ⟨?_, rfl⟩
    show (writeBank i _ (countAt w.entry 0 s)).batch.bank i = _
    rw [writeBank_bank, if_pos rfl]
    rfl
  · rw [hfilling]
    obtain ⟨hbatch, hevent⟩ := enterBank_of_last (s := countAt w.entry 0 s) (r := w.record) w.entry hlast
    refine ⟨(congrArg (fun b : BatchBlock => b.bank i) hbatch).trans ?_, hevent⟩
    dsimp only
    rw [BatchBlock.bank_setBank, if_pos rfl]
    rfl
  · rw [hnone, hfree]
    exact enterBank_of_begun i w.entry w.record false (countAt w.entry 0 s)
  · rw [hnone, hnofree]
    have holder : (countAt w.entry 0 s).batch.older = i := by
      show s.batch.order.head?.getD .a = i
      rw [hhead]; rfl
    unfold overflowBatch
    rw [if_pos (show (countAt w.entry 0 s).param .batchOverflow = 1 from hnewest), holder]
    exact enterBank_of_begun i w.entry w.record true (countAt w.entry 0 s)
  · rw [hnone, hnofree]
    have hnewer : (countAt w.entry 0 s).batch.newer = i := by
      show s.batch.order.getLast?.getD .b = i
      rw [hlast]; rfl
    unfold overflowBatch
    rw [if_neg (by rw [show (countAt w.entry 0 s).param .batchOverflow = s.param .batchOverflow from rfl, holdest]; decide), hnewer]
    refine ⟨?_, rfl, rfl⟩
    show (writeBank i _ (countAt w.entry 0 s)).batch.bank i = _
    rw [writeBank_bank, if_pos rfl]
    rfl

end Sys2Proof.Machine
end

section
/-! What the rest of a visit keeps once a FEED has been performed (`Aftermath`), and the feeds of the hall levels. -/

namespace Sys2Proof.Machine

-- One theorem after another, as in the model's tests: a theorem that waits for a kernel evaluation holds a thread.
set_option Elab.async false

/-! ## The last activity -/

theorem advisorTakes_lastActivity_or (changed activity : Bool) (cause : Option WakeCause) (s : State) :
    (advisorTakes changed activity cause s).advisor.lastActivity = s.advisor.lastActivity
      ∨ (advisorTakes changed activity cause s).advisor.lastActivity = s.tick := by
  cases activity
  · left
    unfold advisorTakes
    simp only [Bool.false_eq_true, if_false]
    split
    · split
      · exact sleepEvaluate_lastActivity s
      · rfl
    · split
      · exact retestAdvice_lastActivity s
      · rfl
    · split
      · rfl
      · exact takeCause_lastActivity _ s
    · rfl
  · exact .inr (advisorTakes_lastActivity changed cause s)

/-! ## What follows a FEED in its visit -/

/-- What TEST, FORWARD, the walk and the end of a traversal may write. -/
def aftermathBlocks : List Block :=
  [.fifo, .routeTable, .routeHold, .routeWalking, .routeRuntime, .samples, .batch, .gaps, .poll, .dockLink, .advisor, .events,
    .pulse]

/-- From `s` to `t` TEST, FORWARD and the walk of a visit do their work: motion and copies are reported to the Sleep Advisor,
which keeps its held copies, its events are SLEEP_ADVICE and WAKE, and the part power may change. -/
structure Aftermath (s t : State) : Prop where
  frame : SameBut aftermathBlocks s t
  events : EventsBut [6, 7, 9, 10, 12, 13] s t
  held : HeldSame s t
  active : t.advisor.lastActivity = s.advisor.lastActivity ∨ t.advisor.lastActivity = s.tick
  steady : Steady s t

theorem Aftermath.trans {s t u : State} (h : Aftermath s t) (k : Aftermath t u) : Aftermath s u where
  frame := h.frame.trans k.frame
  events := h.events.trans k.events
  held := h.held.trans k.held
  active := k.active.elim (fun e => h.active.imp e.trans e.trans) (fun e => .inr (e.trans (h.frame .tick (by decide))))
  steady := h.steady.trans k.steady

/-- An operation beside the Advisor. -/
theorem Aftermath.of_frame {l : List Block} {s t : State} (h : SameBut l s t) (sub : ∀ b ∈ l, b ∈ aftermathBlocks)
    (hl : Block.advisor ∉ l) (events : EventsBut [6, 7, 9, 10, 12, 13] s t) (steady : Steady s t) : Aftermath s t where
  frame := h.mono _ sub
  events := events
  held := by
    have hadvisor := h .advisor hl
    exact ⟨congrArg _ hadvisor, congrArg _ hadvisor, congrArg _ hadvisor, congrArg _ hadvisor, congrArg _ hadvisor,
      congrArg _ hadvisor, congrArg _ hadvisor⟩
  active := .inl (congrArg AdvisorBlock.lastActivity (h .advisor hl))
  steady := steady

/-- An operation that raises no event besides. -/
theorem Aftermath.of_quiet {l : List Block} {s t : State} (h : SameBut l s t) (sub : ∀ b ∈ l, b ∈ aftermathBlocks := by decide)
    (quiet : ∀ b ∈ [Block.tick, .events, .advisor, .poll, .dockLink, .dockState], b ∉ l := by decide) : Aftermath s t :=
  .of_frame h sub (quiet _ (by decide)) (.of_frame h (quiet _ (by decide)) _) (.of_frame h quiet)

theorem Aftermath.refl (s : State) : Aftermath s s := .of_quiet (SameBut.refl [] s)

theorem raise_aftermath (e : Event) (s : State) (h : e.kind ∈ [6, 7, 9, 10, 12, 13] := by simp [Event.kind]) :
    Aftermath s (raise e s) :=
  .of_frame (raise_frame e s) (by decide) (by decide) ((raise_but e s).mono _ (by simpa using h)) (raise_steady e s)

theorem advisorTakes_aftermath (changed activity : Bool) (cause : Option WakeCause) (s : State) :
    Aftermath s (advisorTakes changed activity cause s) where
  frame := (advisorTakes_frame _ _ _ s).mono _ (by decide)
  events := (advisorTakes_but _ _ _ s).mono _ (by decide)
  held := advisorTakes_held _ _ _ s
  active := advisorTakes_lastActivity_or _ _ _ s
  steady := (advisorTakes_safe _ _ _ s).steady

theorem performTest_aftermath (n : Nat) (e : RouteEntry) (r : Sample) (s : State) : Aftermath s (performTest n e r s) := by
  rcases hnumber : testNumber e.select r.values with _ | v
  · rw [performTest_of_none hnumber]; exact .refl s
  · have hplaced : Aftermath s (placeTest n e v s) := by
      unfold placeTest
      dsimp only
      split
      · exact (Aftermath.of_quiet (writeRuntime_frame _ _ s)).trans (raise_aftermath _ _)
      · exact .of_quiet (writeRuntime_frame _ _ s)
    rw [performTest_of_number hnumber]
    split
    · exact hplaced.trans (advisorTakes_aftermath _ _ _ _)
    · exact hplaced

theorem enterBank_aftermath (i : BankId) (n : Nat) (r : Sample) (s : State) : Aftermath s (enterBank i n r s) := by
  have hwritten : ∀ b u, Aftermath u (clearGap r.source (writeBank i b u)) := fun b u =>
    (Aftermath.of_quiet (writeBank_frame i b u)).trans (.of_quiet (clearGap_frame _ _))
  unfold enterBank
  dsimp only
  split
  · exact ((hwritten _ s).trans (raise_aftermath _ _)).trans (advisorTakes_aftermath _ _ _ _)
  · exact hwritten _ s

theorem offerBatch_aftermath (n : Nat) (r : Sample) (s : State) : Aftermath s (offerBatch n r s) := by
  have hbegun : ∀ i gapBefore, Aftermath s (enterBank i n r (beginFill i gapBefore s)) := fun i gapBefore =>
    (Aftermath.of_quiet (beginFill_frame i gapBefore s)).trans (enterBank_aftermath i n r _)
  unfold offerBatch
  split
  · exact enterBank_aftermath _ n r s
  · split
    · exact hbegun _ _
    · unfold overflowBatch
      split
      · exact hbegun _ _
      · exact (Aftermath.of_quiet (writeBank_frame _ _ s)).trans (raise_aftermath _ _)

theorem performForward_aftermath (n : Nat) (e : RouteEntry) (r : Sample) (s : State) : Aftermath s (performForward n e r s) := by
  unfold performForward
  split
  · exact .of_quiet (offerSample_frame n r s)
  · split
    · exact offerBatch_aftermath n r s
    · exact .refl s

theorem endTraversal_aftermath (s : State) : Aftermath s (endTraversal s) := by
  have hidle : Aftermath s { s with route := { s.route with walking := none } } :=
    .of_quiet (l := [.routeWalking]) (by intro b hb; cases b <;> first | rfl | exact absurd (by decide) hb)
  have happlied : ∀ u, Aftermath u (applyHeld u) := fun u => by
    unfold applyHeld
    split
    · refine Aftermath.trans (.of_quiet (l := [.routeTable, .routeRuntime, .routeHold]) ?_) (raise_aftermath (.tableCommitted [.route]) _)
      intro b hb
      cases b <;> first | rfl | exact absurd (by decide) hb
    · exact .refl u
  exact (hidle.trans (happlied _)).trans (.of_quiet (takeRecord_frame _))

/-- The walk of a visit, its end included. -/
theorem visit_aftermath (w : Traversal) (s : State) : Aftermath (visitEntry w s).1 (visit w s) := by
  unfold visit
  dsimp only
  split
  · exact endTraversal_aftermath _
  · split
    · exact .of_quiet (walkOn_frame _ _)
    · exact (raise_aftermath _ _).trans (endTraversal_aftermath _)

/-- What follows the FEED of a visit (R27). -/
theorem feeds_aftermath {s : State} {w : Traversal} {target : Target} (h : s.Feeds w target) :
    Aftermath (feed target w.record (countAt w.entry 0 s)) (settleAttention s (effect .routeVisit s)) := by
  obtain ⟨hacts, hfeed, hnew⟩ := h
  have hfed : performFeed (s.routeEntry w.entry) w.record w.fed (countAt w.entry 0 s)
      = (feed target w.record (countAt w.entry 0 s), w.fed ++ [target]) := by
    unfold performFeed; rw [hfeed]; dsimp only; rw [if_neg hnew]
  have hactions : Aftermath (feed target w.record (countAt w.entry 0 s)) (visitEntry w s).1 := by
    rw [visitEntry_of_acts hacts]
    unfold performActions
    rw [hfed]
    dsimp only
    have htest : ∀ u, Aftermath u (if (s.routeEntry w.entry).test then performTest w.entry (s.routeEntry w.entry) w.record u else u) :=
      fun u => by
        split
        · exact performTest_aftermath _ _ _ u
        · exact .refl u
    split
    · exact (htest _).trans (performForward_aftermath _ _ _ _)
    · exact htest _
  rw [effect_routeVisit hacts.1]
  exact (hactions.trans (visit_aftermath w s)).trans (.of_quiet (settleAttention_frame s _))

/-! ## The hall levels (R64) -/

/-- What a classification of the fed state says is still so after the rest of the visit. -/
theorem Aftermath.classified {fed t u : State} (h : Aftermath t u) (hclassified : fed.Classified t) (htick : t.tick = fed.tick) :
    fed.Classified u :=
  hclassified.mono (h.frame .posture (by decide)) h.held.1 (congrArg OrientBlock.posture (h.frame .orient (by decide)))
    (fun hactive => h.active.elim (fun e => e.trans hactive) (fun e => e.trans htick)) h.events (by decide)

theorem classify_hall (expiring : Bool) (s : State) :
    (classify expiring s).posture.hallClosed = s.posture.hallClosed
      ∧ (classify expiring s).posture.hallFolded = s.posture.hallFolded := by
  rw [classify_posture]
  dsimp only
  split
  · exact ⟨rfl, rfl⟩
  · split
    · split <;> exact ⟨rfl, rfl⟩
    · split
      · exact ⟨rfl, rfl⟩
      · split
        · exact ⟨rfl, rfl⟩
        · split
          · exact ⟨rfl, rfl⟩
          · split
            · split <;> exact ⟨rfl, rfl⟩
            · split <;> exact ⟨rfl, rfl⟩

theorem Sample.level_eq (r : Sample) : r.level = decide (r.values.first ≠ 0) :=
  Bool.eq_iff_iff.2 (by simp [Sample.level])

/-- Settles O27: the level is taken and classified, and nothing after it in the visit concerns the classifier. -/
theorem hallFeedClassifiesAtOnce : Obligations.HallFeedClassifiesAtOnce := by
  refine ⟨fun s w hfeeds => ⟨_, exec_eq _ s, ?_⟩, fun s w hfeeds => ⟨_, exec_eq _ s, ?_⟩⟩
  all_goals
    have hafter := feeds_aftermath hfeeds
    dsimp only
    rw [← Sample.level_eq]
    generalize settleAttention s (effect .routeVisit s) = t at hafter ⊢
    have hposture := hafter.frame .posture (by decide)
    simp only [Block.same] at hposture
    rw [hposture]
  · obtain ⟨hclosed, hfolded⟩ := classify_hall false
      { countAt w.entry 0 s with posture := { s.posture with hallClosed := some w.record.level } }
    exact ⟨hclosed, hfolded, hafter.classified
      (classify_classified { countAt w.entry 0 s with posture := { s.posture with hallClosed := some w.record.level } })
      (classify_frame _ _ .tick (by decide))⟩
  · obtain ⟨hclosed, hfolded⟩ := classify_hall false
      { countAt w.entry 0 s with posture := { s.posture with hallFolded := some w.record.level } }
    exact ⟨hfolded, hclosed, hafter.classified
      (classify_classified { countAt w.entry 0 s with posture := { s.posture with hallFolded := some w.record.level } })
      (classify_frame _ _ .tick (by decide))⟩

end Sys2Proof.Machine
end

section
/-! The Sleep Advisor: what a sleep evaluation finds, how a wake cause is decided, and the motion of an ACTIVITY feed. -/

namespace Sys2Proof.Machine

-- One theorem after another, as in the model's tests: a theorem that waits for a kernel evaluation holds a thread.
set_option Elab.async false

/-! ## Rows in order -/

/-- In an ascending list the first member that meets a condition is the one found. -/
theorem find?_first {p : Nat → Bool} {l : List Nat} {n : Nat} (hl : l.Pairwise (· < ·)) (hn : n ∈ l) (hp : p n = true)
    (hfirst : ∀ m ∈ l, m < n → p m = false) : l.find? p = some n := by
  induction l with
  | nil => cases hn
  | cons x rest ih =>
    obtain ⟨hx, hrest⟩ := List.pairwise_cons.1 hl
    obtain rfl | hn := List.mem_cons.1 hn
    · exact List.find?_cons_of_pos hp
    · rw [List.find?_cons_of_neg (by rw [hfirst x (List.mem_cons_self ..) (hx n hn)]; decide)]
      exact ih hrest hn fun m hm => hfirst m (List.mem_cons_of_mem _ hm)

theorem rowNumbers8_ascending : rowNumbers8.Pairwise (· < ·) := by decide

theorem policyHolds_iff (s : State) (r : PolicyRow) :
    s.policyHolds r = true ↔
      r.enabled = true ∧ r.postures.getLsbD s.advisor.heldPosture.code.toNat = true
        ∧ (r.dock = .attached → s.advisor.heldDock = .attached) ∧ (r.dock = .detached → s.advisor.heldDock ≠ .attached)
        ∧ (r.pen = .present → s.advisor.penPresent = true) ∧ (r.pen = .absent → s.advisor.penPresent = false) := by
  unfold State.policyHolds
  cases r.dock <;> cases r.pen <;> simp [and_assoc]

/-! ## A sleep evaluation (R150) -/

theorem rowNumbers8_cases {n : Nat} (hn : n ∈ rowNumbers8) :
    n = 1 ∨ n = 2 ∨ n = 3 ∨ n = 4 ∨ n = 5 ∨ n = 6 ∨ n = 7 ∨ n = 8 := by
  simpa only [rowNumbers8, List.mem_cons, List.not_mem_nil, or_false] using hn

theorem rearm_armedAt {n : Nat} (hn : n ∈ rowNumbers8) (s : State) :
    (rearm s).armedAt n = (s.armedAt n || (!(s.policyRow n).wakes && !s.policyHolds (s.policyRow n))) := by
  obtain rfl | rfl | rfl | rfl | rfl | rfl | rfl | rfl := rowNumbers8_cases hn <;> rfl

theorem rearm_candidate {n : Nat} (hn : n ∈ rowNumbers8) (s : State) : (rearm s).sleepCandidate n = s.sleepCandidate n := by
  have hrow : (rearm s).policyRow n = s.policyRow n := rfl
  have hholds : ∀ r, (rearm s).policyHolds r = s.policyHolds r := fun _ => rfl
  unfold State.sleepCandidate
  rw [rearm_armedAt hn, hrow, hholds]
  cases s.armedAt n <;> cases (s.policyRow n).wakes <;> cases s.policyHolds (s.policyRow n) <;> rfl

theorem awaits_iff (s : State) (n : Nat) : s.Awaits n ↔ n ∈ rowNumbers8 ∧ s.sleepCandidate n = true := by
  unfold State.Awaits State.sleepCandidate
  simp only [Bool.and_eq_true, Bool.not_eq_true']
  exact ⟨fun ⟨hn, hwakes, hholds, harmed⟩ => ⟨hn, ⟨hwakes, harmed⟩, hholds⟩,
    fun ⟨hn, ⟨hwakes, harmed⟩, hholds⟩ => ⟨hn, hwakes, hholds, harmed⟩⟩

theorem ready_iff (s : State) (n : Nat) :
    s.Ready n ↔ s.Awaits n ∧ (s.policyRow n).inactivity ≤ s.since s.advisor.lastActivity := by
  unfold State.Ready State.Awaits State.since
  exact ⟨fun ⟨hn, hwakes, hholds, harmed, hmet⟩ => ⟨⟨hn, hwakes, hholds, harmed⟩, hmet⟩,
    fun ⟨⟨hn, hwakes, hholds, harmed⟩, hmet⟩ => ⟨hn, hwakes, hholds, harmed, hmet⟩⟩

theorem rearm_awaits (s : State) (n : Nat) : (rearm s).Awaits n ↔ s.Awaits n := by
  rw [awaits_iff, awaits_iff]
  exact and_congr_right fun hn => by rw [rearm_candidate hn]

theorem advisingRow_of_ready {s : State} {n : Nat} (h : s.Ready n) (hfirst : ∀ m, m < n → ¬ s.Ready m) :
    s.advisingRow = some n := by
  have hpred : ∀ m ∈ rowNumbers8,
      (s.sleepCandidate m && decide ((s.policyRow m).inactivity ≤ s.since s.advisor.lastActivity)) = true ↔ s.Ready m := fun m hm => by
    rw [ready_iff, awaits_iff, Bool.and_eq_true, decide_eq_true_iff]
    simp only [hm, true_and]
  exact find?_first rowNumbers8_ascending h.1 ((hpred n h.1).2 h)
    fun m hm hlt => Bool.eq_false_iff.2 fun hmet => hfirst m hlt ((hpred m hm).1 hmet)

theorem advisingRow_of_none {s : State} (h : ∀ m, ¬ s.Ready m) : s.advisingRow = none := by
  refine List.find?_eq_none.2 fun m hm hmet => h m ?_
  rw [Bool.and_eq_true, decide_eq_true_iff] at hmet
  exact (ready_iff s m).2 ⟨(awaits_iff s m).2 ⟨hm, hmet.1⟩, hmet.2⟩

/-- The inactivity timer is set for the earliest waiting row. -/
theorem idleRemaining_of_least {s : State} {n : Nat} (h : s.Awaits n)
    (hleast : ∀ m, s.Awaits m → (s.policyRow n).inactivity ≤ (s.policyRow m).inactivity) :
    s.idleRemaining = some ((s.policyRow n).inactivity - s.since s.advisor.lastActivity) := by
  refine List.min?_eq_some_iff.2 ⟨?_, fun d hd => ?_⟩
  · exact List.mem_map.2 ⟨n, List.mem_filter.2 ((awaits_iff s n).1 h), rfl⟩
  · obtain ⟨m, hm, rfl⟩ := List.mem_map.1 hd
    have := hleast m ((awaits_iff s m).2 (List.mem_filter.1 hm))
    omega

theorem idleRemaining_of_none {s : State} (h : ∀ m, ¬ s.Awaits m) : s.idleRemaining = none := by
  unfold State.idleRemaining
  rw [List.filter_eq_nil_iff.2 fun m hm hc => h m ((awaits_iff s m).2 ⟨hm, hc⟩)]
  rfl

theorem armedAt_setArmed {n : Nat} {s : State} (hn : n ∈ rowNumbers8) (hlength : s.advisor.armed.length = 8) (b : Bool) :
    (setArmed n b s).armedAt n = b := by
  have hlt : n - 1 < s.advisor.armed.length := by
    rw [hlength]
    have := rowNumbers8_cases hn
    omega
  show (s.advisor.armed.set (n - 1) b).getD (n - 1) true = b
  rw [List.getD_eq_getElem?_getD, List.getElem?_set_self hlt]
  rfl

/-- With a row ready the first such row advises (R151). -/
theorem sleepEvaluate_of_ready {s : State} {n : Nat} (hawake : s.advisor.platform = .awake) (h : s.Ready n)
    (hfirst : ∀ m, m < n → ¬ s.Ready m) : sleepEvaluate s = advise n (rearm s) := by
  have hsame : ∀ m, (rearm s).Ready m ↔ s.Ready m := fun m => by
    rw [ready_iff, ready_iff, rearm_awaits]; rfl
  unfold sleepEvaluate
  rw [if_pos hawake]
  dsimp only
  rw [advisingRow_of_ready ((hsame n).2 h) fun m hm => mt (hsame m).1 (hfirst m hm)]

/-- With no row ready the rows are re-armed and the inactivity timer is set. -/
theorem sleepEvaluate_of_idle {s : State} (hawake : s.advisor.platform = .awake) (h : ∀ m, ¬ s.Ready m) :
    sleepEvaluate s
      = { rearm s with advisor := { (rearm s).advisor with idleTimer := (rearm s).idleRemaining.bind (rearm s).timer } } := by
  have hsame : ∀ m, (rearm s).Ready m ↔ s.Ready m := fun m => by
    rw [ready_iff, ready_iff, rearm_awaits]; rfl
  unfold sleepEvaluate
  rw [if_pos hawake]
  dsimp only
  rw [advisingRow_of_none fun m => mt (hsame m).1 (h m)]

theorem evaluatedIdle_of_idle {s : State} (h : ∀ m, ¬ s.Ready m) :
    s.EvaluatedIdle
      { rearm s with advisor := { (rearm s).advisor with idleTimer := (rearm s).idleRemaining.bind (rearm s).timer } } := by
  refine ⟨fun n hn => ?_, fun n hn hleast => ?_, fun hnone => ?_⟩
  · show (rearm s).armedAt n = true ↔ _
    rw [rearm_armedAt hn]
    simp
  · have hwaits : ¬ (s.policyRow n).inactivity ≤ s.since s.advisor.lastActivity := fun hmet => h n ((ready_iff s n).2 ⟨hn, hmet⟩)
    have hidle := idleRemaining_of_least ((rearm_awaits s n).2 hn) fun m hm => hleast m ((rearm_awaits s m).1 hm)
    refine ⟨_, congrArg (fun r : Option Nat => r.bind (rearm s).timer) hidle, rfl, ?_⟩
    show s.since s.advisor.lastActivity + ((s.policyRow n).inactivity - s.since s.advisor.lastActivity) = _
    omega
  · exact congrArg (fun r : Option Nat => r.bind (rearm s).timer) (idleRemaining_of_none fun m hm => hnone m ((rearm_awaits s m).1 hm))

/-! ## Wake (R153) -/

/-- A wake cause taken in ASLEEP is decided by the first row that accepts it. -/
theorem takeCause_decides {s : State} (c : WakeCause) (hasleep : s.advisor.platform = .asleep) :
    s.WakeDecided (takeCause c s) c ∧ ((∀ m, ¬ s.Accepts c m) → takeCause c s = s) := by
  have hpred : ∀ m ∈ rowNumbers8,
      ((s.policyRow m).wakes && (s.policyRow m).causes.getLsbD c.number && s.policyHolds (s.policyRow m)) = true
        ↔ s.Accepts c m := fun m hm => by
    unfold State.Accepts
    simp only [Bool.and_eq_true, hm, true_and, and_assoc]
  have hnone : (∀ m, ¬ s.Accepts c m) → takeCause c s = s := fun h => by
    have hrow : s.wakingRow c = none := List.find?_eq_none.2 fun m hm hmet => h m ((hpred m hm).1 hmet)
    unfold takeCause
    rw [if_pos hasleep, hrow]
  refine ⟨⟨fun n hn hfirst => ?_, fun h => ?_⟩, hnone⟩
  · have hrow : s.wakingRow c = some n := find?_first rowNumbers8_ascending hn.1 ((hpred n hn.1).2 hn)
      fun m hm hlt => Bool.eq_false_iff.2 fun hmet => hfirst m hlt ((hpred m hm).1 hmet)
    unfold takeCause
    rw [if_pos hasleep, hrow]
    refine ⟨by rw [repower_advisor], ?_⟩
    exact EventsKept.frame (repower_frame _) (by decide) [] _ (mem_addEvent_self _ _ (by simp [Event.kind])) (by simp)
  · rw [hnone h]
    exact ⟨hasleep, fun _ hn => hn⟩

/-! ## The motion of an ACTIVITY feed (R30) -/

/-- The walk of a visit leaves the Advisor and all events but CHAIN_OVERRUN and TABLE_COMMITTED alone. -/
theorem visit_walks (w : Traversal) (s : State) :
    (visit w s).advisor = (visitEntry w s).1.advisor ∧ EventsBut [12, 13] (visitEntry w s).1 (visit w s) := by
  have hends : ∀ u, (endTraversal u).advisor = u.advisor ∧ EventsBut [12, 13] u (endTraversal u) := fun u => by
    refine ⟨?_, EventsBut.trans ?_ (.of_frame (takeRecord_frame _) (by decide) _)⟩
    · exact (takeRecord_frame _ .advisor (by decide)).trans (applyHeld_frame _ .advisor (by decide))
    · unfold applyHeld
      split
      · exact (EventsBut.of_same (by rfl) _).trans ((raise_but (.tableCommitted [.route]) _).mono _ (by simp [Event.kind]))
      · exact .of_same rfl _
  unfold visit
  dsimp only
  split
  · exact hends _
  · split
    · exact ⟨rfl, .of_same rfl _⟩
    · exact ⟨(hends _).1, ((raise_but (.chainOverrun [w.entry]) _).mono _ (by simp [Event.kind])).trans (hends _).2⟩

/-- A visit that performs a FEED alone, as the Advisor sees it. -/
theorem feedsOnly_advisor {s : State} {w : Traversal} {target : Target} (h : s.Feeds w target)
    (htest : (s.routeEntry w.entry).test = false) (hforward : (s.routeEntry w.entry).forward = false) :
    (settleAttention s (effect .routeVisit s)).advisor = (feed target w.record (countAt w.entry 0 s)).advisor
      ∧ EventsBut [12, 13] (feed target w.record (countAt w.entry 0 s)) (settleAttention s (effect .routeVisit s)) := by
  obtain ⟨hacts, hfeed, hnew⟩ := h
  have hentry : (visitEntry w s).1 = feed target w.record (countAt w.entry 0 s) := by
    rw [visitEntry_of_acts hacts]
    unfold performActions performFeed
    rw [hfeed, htest, hforward]
    dsimp only
    rw [if_neg hnew]
    rfl
  have hwalks := visit_walks w s
  rw [hentry] at hwalks
  rw [effect_routeVisit hacts.1]
  exact hwalks

theorem reportMotion_of_asleep {s : State} (h : s.advisor.platform = .asleep) :
    reportMotion s = takeCause .motion { s with advisor := { s.advisor with lastActivity := s.tick } } := by
  unfold reportMotion advisorTakes
  dsimp only
  rw [if_pos rfl]
  dsimp only
  rw [h]

/-- Settles O45: the evaluation, the advice timer, the rows' conditions, the wake rows, and the ACTIVITY feed. -/
theorem adviceIsGivenAndTimesOut : Obligations.AdviceIsGivenAndTimesOut := by
  refine ⟨fun s hdue hawake => ⟨_, exec_eq _ s, ?_⟩, fun s n hdue hadvised hadvising => ⟨_, exec_eq _ s, ?_⟩, policyHolds_iff,
    fun s c => ⟨fun hasleep => ?_, fun hother => if_neg hother⟩, fun s w hfeeds htest hforward => ⟨_, exec_eq _ s, ?_⟩⟩
  · rw [show effect .inactivityTimerExpiry s = sleepEvaluate { s with advisor := { s.advisor with idleTimer := none } } from if_pos hdue]
    refine ⟨fun n hn hfirst => ?_, fun hnone => ?_, (expireIdle_frame s).settled s⟩
    · rw [sleepEvaluate_of_ready (s := { s with advisor := { s.advisor with idleTimer := none } }) hawake hn hfirst]
      exact ⟨rfl, rfl, armedAt_setArmed hn.1 rfl false, rfl, rfl, rfl⟩
    · rw [sleepEvaluate_of_idle (s := { s with advisor := { s.advisor with idleTimer := none } }) hawake hnone]
      exact ⟨hawake, rfl, evaluatedIdle_of_idle (s := { s with advisor := { s.advisor with idleTimer := none } }) hnone⟩
  · have htimes : effect .adviceTimerExpiry s
        = sleepEvaluate { raise (.sleepAdvice .timedOut n) s with
            advisor := { s.advisor with platform := .awake, advising := none, adviceTimer := none } } := by
      show (if s.due s.advisor.adviceTimer && s.advisor.platform = .advised then timeOutAdvice s else s) = _
      rw [hdue, hadvised, if_pos (by decide), timeOutAdvice, hadvising]
      rfl
    rw [htimes]
    refine ⟨fun hnone => ?_, ?_⟩
    · rw [sleepEvaluate_of_idle (s := { raise (.sleepAdvice .timedOut n) s with
        advisor := { s.advisor with platform := .awake, advising := none, adviceTimer := none } }) rfl hnone]
      refine ⟨rfl, rfl, rfl, rfl, evaluatedIdle_of_idle (s := { raise (.sleepAdvice .timedOut n) s with
        advisor := { s.advisor with platform := .awake, advising := none, adviceTimer := none } }) hnone, fun hn hholds => ?_⟩
      refine (rearm_armedAt hn _).trans ?_
      show (s.armedAt n || (!(s.policyRow n).wakes && !s.policyHolds (s.policyRow n))) = s.armedAt n
      rw [hholds]
      simp
    · refine SameBut.settled s (l := [.advisor, .events]) (SameBut.trans ?_ (sleepEvaluate_frame _))
      intro b hb
      cases b <;> first | rfl | exact absurd (by decide) hb
  · obtain ⟨hdecided, hnone⟩ := takeCause_decides c hasleep
    exact ⟨hdecided, hnone, takeCause_frame c s⟩
  · obtain ⟨hadvisor, hevents⟩ := feedsOnly_advisor hfeeds htest hforward
    have hfeed : ∀ u, feed .activity w.record u = if w.record.unsettled then u else reportMotion u := fun _ => rfl
    rw [hfeed] at hadvisor hevents
    generalize settleAttention s (effect .routeVisit s) = t at hadvisor hevents ⊢
    refine ⟨fun hunsettled => ?_, fun hsettled => ?_, fun hsettled hasleep => ?_⟩
    · rw [hadvisor, if_pos hunsettled]
      rfl
    · rw [hadvisor, if_neg (by rw [hsettled]; decide)]
      exact advisorTakes_lastActivity _ _ _
    · rw [if_neg (by rw [hsettled]; decide), reportMotion_of_asleep (s := countAt w.entry 0 s) hasleep] at hadvisor hevents
      obtain ⟨⟨hwakes, hstays⟩, -⟩ := takeCause_decides (s := { countAt w.entry 0 s with advisor := { s.advisor with lastActivity := s.tick } })
        .motion hasleep
      refine ⟨fun n hn hfirst => ?_, fun hnone => ?_⟩
      · obtain ⟨hplatform, hevent⟩ := hwakes n hn hfirst
        exact ⟨(congrArg AdvisorBlock.platform hadvisor).trans hplatform, (hevents _ (by simp [Event.kind])).2 hevent⟩
      · obtain ⟨hplatform, hevent⟩ := hstays hnone
        exact ⟨(congrArg AdvisorBlock.platform hadvisor).trans hplatform, fun n hn => hevent n ((hevents _ (by simp [Event.kind])).1 hn)⟩

end Sys2Proof.Machine
end

section
/-! The Angle Engine's feeds: the hinge computation, what it hands to the classifier, and the orientation update before it. -/

namespace Sys2Proof.Machine

set_option Elab.async false

/-! ## A classification of a state with the same classifier -/

theorem rowMatches_congr {s t : State} (h : t.posture = s.posture) (widened : Bool) (n : Nat) :
    t.rowMatches widened n = s.rowMatches widened n := by
  unfold State.rowMatches State.postureRow; rw [h]

theorem firstMatch_congr {s t : State} (h : t.posture = s.posture) : t.firstMatch = s.firstMatch := by
  unfold State.firstMatch
  rw [show t.rowMatches false = s.rowMatches false from funext fun n => rowMatches_congr h false n]

theorem keeps_congr {s t : State} (h : t.posture = s.posture) : t.keeps = s.keeps := by
  unfold State.keeps
  rw [h]
  split
  · exact rowMatches_congr h true _
  · rfl

theorem rowPosture_congr {s t : State} (h : t.posture = s.posture) (n : Nat) : t.rowPosture n = s.rowPosture n := by
  unfold State.rowPosture State.postureRow; rw [h]

theorem adoptsAtOnce_congr {s t : State} (h : t.posture = s.posture) (n : Nat) : t.AdoptsAtOnce n ↔ s.AdoptsAtOnce n := by
  unfold State.AdoptsAtOnce State.postureRow
  rw [firstMatch_congr h, keeps_congr h, rowPosture_congr h, h]

/-- A classification is the same from a state that differs beside the classifier, the posture held and the POSTURE events. -/
theorem State.Classified.of_like {fed like t : State} {ks : List Nat} (h : like.Classified t) (posture : like.posture = fed.posture)
    (tick : like.tick = fed.tick) (held : like.advisor.heldPosture = fed.advisor.heldPosture) (events : EventsBut ks fed like)
    (hks : 1 ∉ ks) : fed.Classified t := by
  have hevents : ∀ q hf r, .posture q hf r ∈ like.host.events ↔ .posture q hf r ∈ fed.host.events := fun q hf r => events _ hks
  unfold State.Classified at h ⊢
  simp only [adoptsAtOnce_congr posture, firstMatch_congr posture, keeps_congr posture, rowPosture_congr posture, posture, tick,
    held, hevents, State.postureRow] at h ⊢
  exact h

/-- Without a row adopted at once a classification writes the classifier alone. -/
theorem classify_of_not_adopts {s : State} (h : ∀ n, ¬ s.AdoptsAtOnce n) :
    (classify false s).orient = s.orient ∧ (classify false s).host = s.host
      ∧ (classify false s).advisor = s.advisor := by
  unfold classify
  split
  · exact ⟨rfl, rfl, rfl⟩
  · next hattached =>
    have hattached : s.posture.attached = true := by simpa using hattached
    split
    · next hunknown =>
      split
      · next n hfirst => exact absurd ⟨hattached, hfirst, .inl hunknown⟩ (h n)
      · exact ⟨rfl, rfl, rfl⟩
    · split
      · exact ⟨rfl, rfl, rfl⟩
      · next hkeeps =>
        have hkeeps : s.keeps = false := by simpa using hkeeps
        unfold chooseCandidate
        split
        · exact ⟨rfl, rfl, rfl⟩
        · next n hfirst =>
          split
          · exact ⟨rfl, rfl, rfl⟩
          · next hother =>
            split
            · exact ⟨rfl, rfl, rfl⟩
            · next hcandidate =>
              unfold beginPosture
              split
              · next hdwell => exact absurd ⟨hattached, hfirst, .inr ⟨hkeeps, hother, hcandidate, hdwell⟩⟩ (h n)
              · exact ⟨rfl, rfl, rfl⟩

/-- A forced orientation is another one. -/
theorem trackPosture_unforced {p : Posture} {s : State} (h : (trackPosture p s).orient.current = s.orient.current) :
    (trackPosture p s).host = s.host := by
  unfold trackPosture at h ⊢
  dsimp only at h ⊢
  split at h
  · next hforce =>
    obtain ⟨hset, hout⟩ := not_or.1 ((mustForce_iff _).1 hforce)
    have hin := (forcedTarget_nearest hset).1
    rw [show ({ s with orient := { s.orient with posture := p } } : State).forcedTarget = s.orient.current from h] at hin
    exact absurd hin hout
  · next hstay =>
    rw [if_neg hstay]
    split
    · split <;> rfl
    · rfl

/-- A classification that leaves the orientation raises nothing about it. -/
theorem classify_unforced {s : State} (h : (classify false s).orient.current = s.orient.current) :
    EventsBut [1, 6, 7] s (classify false s) := by
  by_cases hadopts : ∃ n, s.AdoptsAtOnce n
  · obtain ⟨n, hn⟩ := hadopts
    rw [classify_of_adopts hn] at h ⊢
    let raised := raise (.posture (s.rowPosture n) s.posture.heldHf (some n))
      { s with posture := { s.posture with posture := s.rowPosture n, row := some n, candidate := none, dwell := none } }
    have hraised : EventsBut [1, 6, 7] s raised :=
      (raise_but (.posture (s.rowPosture n) s.posture.heldHf (some n)) _).mono _ (by simp [Event.kind])
    have hreported : ∀ u, EventsBut [1, 6, 7] u (advisorTakes true true (some .posture) (holdPosture (s.rowPosture n) u)) := fun u =>
      (EventsBut.of_same (by rfl) _).trans ((advisorTakes_but _ _ _ (holdPosture (s.rowPosture n) u)).mono _ (by decide))
    have horient : (adoptRow n s).orient = (trackPosture (s.rowPosture n) raised).orient := by
      have hreport := (posture_reported (s.rowPosture n) (trackPosture (s.rowPosture n) raised)).2.1
      unfold adoptRow changePosture
      dsimp only
      split
      · exact hreport
      · exact (reportRotation_orient _).trans hreport
    have hcurrent : (trackPosture (s.rowPosture n) raised).orient.current = raised.orient.current :=
      (congrArg OrientBlock.current horient).symm.trans h
    have htracked : EventsBut [1, 6, 7] raised (trackPosture (s.rowPosture n) raised) :=
      .of_same (congrArg HostBlock.events (trackPosture_unforced hcurrent)) _
    unfold adoptRow changePosture
    dsimp only
    rw [if_pos hcurrent]
    exact (hraised.trans htracked).trans (hreported _)
  · exact .of_same (congrArg HostBlock.events (classify_of_not_adopts (not_exists.1 hadopts)).2.1) _

/-! ## The last activity -/

/-- The last activity stays or is now. -/
def Stirs (s t : State) : Prop :=
  t.advisor.lastActivity = s.advisor.lastActivity ∨ t.advisor.lastActivity = s.tick

theorem classify_stirs (s : State) : Stirs s (classify false s) := by
  by_cases hadopts : ∃ n, s.AdoptsAtOnce n
  · obtain ⟨n, hn⟩ := hadopts
    rw [classify_of_adopts hn]
    obtain ⟨-, -, -, hactivity, -⟩ := changePosture_hands (s.rowPosture n) (some n) s
    exact .inr hactivity
  · exact .inl (congrArg AdvisorBlock.lastActivity (classify_of_not_adopts (not_exists.1 hadopts)).2.2)

/-! ## The hinge computation (R49 to R54) -/

/-- The engine after a hinge computation. -/
def hingeAngle (other : Option Vector3) (s : State) : AngleBlock :=
  { (match s.hingeOutcome other with
     | .ok h => { s.angle with unresolved := none, h := h, filter := some (filterStep (s.param .filterShift) h s.angle.filter) }
     | .error why => { s.angle with unresolved := some why } : AngleBlock) with attitude := s.judgeAttitude }

theorem computeHinge_eq (other : Option Vector3) (s : State) :
    computeHinge other s
      = takeHinge ((hingeAngle other s).filter.map reportedAngle) (hingeAngle other s).attitude
          { s with angle := hingeAngle other s } := rfl

theorem computeHinge_angle (other : Option Vector3) (s : State) : (computeHinge other s).angle = hingeAngle other s := by
  rw [computeHinge_eq]
  exact takeHinge_frame _ _ _ .angle (by decide)

theorem hingeAngle_of_ok {other : Option Vector3} {s : State} {h : Angle} (hok : s.hingeOutcome other = .ok h) :
    hingeAngle other s
      = { s.angle with
          unresolved := none, h := h, filter := some (filterStep (s.param .filterShift) h s.angle.filter)
          attitude := s.judgeAttitude } := by
  unfold hingeAngle; rw [hok]

theorem hingeAngle_of_error {other : Option Vector3} {s : State} {why : Unresolved} (herror : s.hingeOutcome other = .error why) :
    hingeAngle other s = { s.angle with unresolved := some why, attitude := s.judgeAttitude } := by
  unfold hingeAngle; rw [herror]

/-- The vectors, O and the flat flag are inputs of the hinge computation. -/
theorem hingeAngle_inputs (other : Option Vector3) (s : State) :
    (hingeAngle other s).base = s.angle.base ∧ (hingeAngle other s).lid = s.angle.lid ∧ (hingeAngle other s).o = s.angle.o
      ∧ (hingeAngle other s).flat = s.angle.flat ∧ (hingeAngle other s).attitude = s.judgeAttitude := by
  unfold hingeAngle
  cases s.hingeOutcome other <;> exact ⟨rfl, rfl, rfl, rfl, rfl⟩

/-- An unresolved computation leaves H and Hf16. -/
theorem hingeAngle_unresolved {other : Option Vector3} {s : State} (h : (hingeAngle other s).unresolved ≠ none) :
    (hingeAngle other s).h = s.angle.h ∧ (hingeAngle other s).filter = s.angle.filter := by
  rcases hout : s.hingeOutcome other with why | x
  · rw [hingeAngle_of_error hout]
    exact ⟨rfl, rfl⟩
  · rw [hingeAngle_of_ok hout] at h
    exact absurd rfl h

theorem stale_of_aged {s : State} {v : Vector3} (h : s.param .staleLimit < (s.tick - v.timestamp).toNat) :
    s.stale (some v) = true := decide_eq_true h

theorem not_stale_of_fresh {s : State} {v : Vector3} (h : (s.tick - v.timestamp).toNat ≤ s.param .staleLimit) :
    s.stale (some v) = false := decide_eq_false (by unfold State.since; omega)

theorem hingeOutcome_of_stale {s : State} {other : Option Vector3} (h : s.stale other = true) :
    s.hingeOutcome other = .error .stale := if_pos h

theorem hingeOutcome_of_fresh {s : State} {other : Option Vector3} {b l : Vector3} (h : s.stale other = false)
    (hbase : s.angle.base = some b) (hlid : s.angle.lid = some l) :
    s.hingeOutcome other
      = if s.passesTilt b && s.passesTilt l then .ok (stage l.y l.z - stage b.y b.z) else .error .axis := by
  unfold State.hingeOutcome
  rw [if_neg (by rw [h]; decide), hbase, hlid]

theorem passesTilt_iff (s : State) (v : Vector3) :
    s.passesTilt v = true ↔ s.param .tiltFloor ≤ v.y.toInt.natAbs + v.z.toInt.natAbs := decide_eq_true_iff

/-- A vector fed beside a stored one of the other part: the outcome of the hinge computation (R49 to R52). -/
theorem hingeAngle_judged {s : State} {other : Option Vector3} :
    (other = none → (hingeAngle other s).unresolved = some .stale)
      ∧ (∀ v, other = some v → s.param .staleLimit < (s.tick - v.timestamp).toNat →
          (hingeAngle other s).unresolved = some .stale)
      ∧ ∀ v b l, other = some v → (s.tick - v.timestamp).toNat ≤ s.param .staleLimit → s.angle.base = some b →
          s.angle.lid = some l →
          (¬ (s.passesTilt b = true ∧ s.passesTilt l = true) → (hingeAngle other s).unresolved = some .axis)
            ∧ (s.passesTilt b = true → s.passesTilt l = true →
                hingeAngle other s
                  = { s.angle with
                      unresolved := none, h := stage l.y l.z - stage b.y b.z
                      filter := some (filterStep (s.param .filterShift) (stage l.y l.z - stage b.y b.z) s.angle.filter)
                      attitude := s.judgeAttitude }) := by
  refine ⟨fun hnone => ?_, fun v hv haged => ?_, fun v b l hv hfresh hbase hlid => ⟨fun htilts => ?_, fun hb hl => ?_⟩⟩
  · rw [hingeAngle_of_error (hingeOutcome_of_stale (by rw [hnone]; rfl))]
  · rw [hingeAngle_of_error (hingeOutcome_of_stale (by rw [hv]; exact stale_of_aged haged))]
  · rw [hingeAngle_of_error (why := .axis)]
    rw [hingeOutcome_of_fresh (by rw [hv]; exact not_stale_of_fresh hfresh) hbase hlid, if_neg (by simpa using htilts)]
  · refine hingeAngle_of_ok ?_
    rw [hingeOutcome_of_fresh (by rw [hv]; exact not_stale_of_fresh hfresh) hbase hlid, hb, hl]
    rfl

/-- The step of the filter is the wrapped distance by the gain (R52, R53). -/
theorem filterStep_stepped (k : Nat) (h : Angle) (old : Option (BitVec 16)) :
    FilterStepped k h old (some (filterStep k h old)) := by
  refine ⟨fun hnone => ?_, fun f hf => ?_⟩
  · rw [hnone]
    exact congrArg some (BitVec.ofInt_natCast 16 (16 * h.toNat))
  · have hh : h.toNat < 4096 := h.isLt
    have hfilter : f.toNat < 65536 := f.isLt
    let gap : Int := 16 * (h.toNat : Int) - f.toNat
    refine ⟨if gap > 32767 then gap - 65536 else if gap < -32768 then gap + 65536 else gap, ?_, ?_, ?_, ?_⟩
    · split
      · omega
      · split <;> omega
    · split
      · omega
      · split <;> omega
    · split
      · omega
      · split <;> omega
    · rw [hf]
      unfold filterStep
      dsimp only
      by_cases hk : k = 0
      · rw [if_pos hk, if_pos hk]
      · rw [if_neg hk, if_neg hk]

/-! ## What the hinge result does to classifier and tracker (R56, R65, R70) -/

/-- A state with a hinge result held by its classifier. -/
def holdHinge (hf : Option Angle) (attitude : Attitude) (s : State) : State :=
  { s with posture := { s.posture with heldHf := hf, attitude := attitude } }

theorem holdHinge_posture {s u : State} (h : u.posture = s.posture) (hf : Option Angle) (attitude : Attitude) :
    (holdHinge hf attitude u).posture = (holdHinge hf attitude s).posture :=
  congrArg (fun p : PostureBlock => { p with heldHf := hf, attitude := attitude }) h

/-- A hinge result classified: what HingeTaken says, from a state that differs beside the classifier, the posture held and the
POSTURE events. -/
theorem computeHinge_taken {s u : State} {ks : List Nat} (other : Option Vector3) (posture : u.posture = s.posture)
    (tick : u.tick = s.tick) (held : u.advisor.heldPosture = s.advisor.heldPosture) (events : EventsBut ks s u) (hks : 1 ∉ ks) :
    s.HingeTaken (computeHinge other u) u.orient := by
  have hangle := computeHinge_angle other u
  have hhf : (computeHinge other u).hf = (hingeAngle other u).filter.map reportedAngle := by unfold State.hf; rw [hangle]
  generalize hlike : holdHinge (computeHinge other u).hf (computeHinge other u).angle.attitude { u with angle := hingeAngle other u }
    = like
  have hclassify : computeHinge other u = classify false like := by rw [← hlike, hhf, hangle]; rfl
  have hposture : like.posture = (holdHinge (computeHinge other u).hf (computeHinge other u).angle.attitude s).posture := by
    rw [← hlike]; exact holdHinge_posture posture _ _
  have hadopts := adoptsAtOnce_congr hposture
  refine ⟨?_, fun hnone => ?_, fun n hn => ?_⟩
  · have hclassified := classify_classified like
    rw [← hclassify] at hclassified
    exact hclassified.of_like hposture (by rw [← hlike]; exact tick) (by rw [← hlike]; exact held)
      (by rw [← hlike]; exact events) hks
  · have hkept := (classify_of_not_adopts fun n hn => hnone n ((hadopts n).1 hn)).1
    rw [← hclassify] at hkept
    exact hkept.trans (by rw [← hlike]; rfl)
  · obtain ⟨-, -, -, -, hfollows⟩ := changePosture_hands (like.rowPosture n) (some n) like
    have hrow : like.rowPosture n = _ := rowPosture_congr hposture n
    rw [show changePosture (like.rowPosture n) (some n) like = computeHinge other u by
      rw [hclassify, classify_of_adopts ((hadopts n).2 hn)]; rfl, hrow] at hfollows
    rw [← hlike] at hfollows
    exact hfollows

/-- A hinge result taken stays taken through the rest of the visit. -/
theorem State.HingeTaken.after {s t u : State} {r : OrientBlock} (h : s.HingeTaken t r) (k : Aftermath t u) (tick : t.tick = s.tick) :
    s.HingeTaken u r := by
  have hangle : u.angle = t.angle := k.frame .angle (by decide)
  have horient : u.orient = t.orient := k.frame .orient (by decide)
  have hhf : u.hf = t.hf := by unfold State.hf; rw [hangle]
  unfold State.HingeTaken at h ⊢
  rw [hhf, hangle, horient]
  obtain ⟨hclassified, hstays, hfollows⟩ := h
  exact ⟨k.classified hclassified tick, hstays,
    fun n hn => trackerFollows_mono (hfollows n hn) horient (kept_of_but k.events) (by decide)⟩

/-! ## The orientation update before it (R55, R80, R81) -/

/-- An orientation update writes the tracker alone, its orientation kept, or adopts another orientation at once. -/
theorem takeOrientation_cases (o : Angle) (s : State) :
    (∃ r : OrientBlock, takeOrientation o s = { s with orient := r } ∧ r.current = s.orient.current)
      ∨ s.orient.locked = false
        ∧ ∃ q, takeOrientation o s = adoptOrientation q { s with orient := { s.orient with heldO := some o, heldFlat := false } } := by
  unfold takeOrientation judgeRotation beginRotation
  dsimp only
  split
  · exact .inl ⟨_, rfl, rfl⟩
  · next hunlocked =>
    split
    · exact .inl ⟨_, rfl, rfl⟩
    · next q _ =>
      split
      · exact .inl ⟨_, rfl, rfl⟩
      · split
        · exact .inl ⟨_, rfl, rfl⟩
        · split
          · exact .inr ⟨Bool.eq_false_iff.2 hunlocked, q, rfl⟩
          · exact .inl ⟨_, rfl, rfl⟩

/-- The rotation of a lid vector adopted at once is reported. -/
theorem takeOrientation_reports {o : Angle} {s : State} (h : (takeOrientation o s).orient.current ≠ s.orient.current) :
    (takeOrientation o s).advisor.lastActivity = s.tick
      ∧ .orientation (takeOrientation o s).orient.current false .rotated ∈ (takeOrientation o s).host.events := by
  obtain ⟨r, hkept, hr⟩ | ⟨hunlocked, q, hadopted⟩ := takeOrientation_cases o s
  · rw [hkept] at h
    exact absurd hr h
  · have hreports := adoptOrientation_reports q { s with orient := { s.orient with heldO := some o, heldFlat := false } }
    rw [show ({ s with orient := { s.orient with heldO := some o, heldFlat := false } } : State).orient.locked = false from hunlocked] at hreports
    rw [hadopted, show (adoptOrientation q _).orient.current = q from congrArg OrientBlock.current (reportRotation_orient _)]
    exact ⟨advisorTakes_lastActivity false none _, hreports⟩

theorem takeOrientation_but (o : Angle) (s : State) : EventsBut [2, 6, 7] s (takeOrientation o s) := by
  obtain ⟨r, hkept, -⟩ | ⟨-, q, hadopted⟩ := takeOrientation_cases o s
  · rw [hkept]; exact .of_same rfl _
  · rw [hadopted]
    have hraised : EventsBut [2, 6, 7] s (changeOrientation q .rotated { s with orient := { s.orient with heldO := some o, heldFlat := false } }) :=
      (raise_but (.orientation q s.orient.locked .rotated) _).mono _ (by simp [Event.kind])
    exact hraised.trans ((advisorTakes_but _ _ _ _).mono _ (by decide))

theorem takeOrientation_held (o : Angle) (s : State) : HeldSame s (takeOrientation o s) := by
  obtain ⟨r, hkept, -⟩ | ⟨-, q, hadopted⟩ := takeOrientation_cases o s
  · rw [hkept]; exact .refl s
  · rw [hadopted]; exact advisorTakes_held _ _ _ _

/-- The orientation angle of a lid vector: the engine's O or flat flag, and the tracker's update. -/
theorem computeOrientation_does (v : Vector3) (s : State) :
    let t := computeOrientation v s
    let flat : Prop := v.x.toInt.natAbs + v.y.toInt.natAbs < s.param .flatFloor
    (flat → s.OrientationTaken none t.orient ∧ t.angle = { s.angle with flat := true })
      ∧ (¬ flat → s.OrientationTaken (some (stage v.x v.y)) t.orient
          ∧ t.angle = { s.angle with o := some (stage v.x v.y), flat := false })
      ∧ (t.orient.current ≠ s.orient.current → t.advisor.lastActivity = s.tick
          ∧ .orientation t.orient.current false .rotated ∈ t.host.events)
      ∧ EventsBut [2, 6, 7] s t ∧ HeldSame s t ∧ SameBut (.angle :: rotationBlocks) s t := by
  dsimp only
  unfold computeOrientation
  by_cases hflat : v.x.toInt.natAbs + v.y.toInt.natAbs < s.param .flatFloor
  · rw [if_neg (show ¬ s.param .flatFloor ≤ absValue v.x + absValue v.y from Nat.not_le.2 hflat)]
    refine ⟨fun _ => ⟨takeFlat_taken s, rfl⟩, fun h => absurd hflat h, fun h => absurd rfl h, .of_same rfl _, .refl s, ?_⟩
    intro b hb
    cases b <;> first | rfl | exact absurd (by decide) hb
  · rw [if_pos (show s.param .flatFloor ≤ absValue v.x + absValue v.y from Nat.not_lt.1 hflat)]
    let u : State := { s with angle := { s.angle with o := some (stage v.x v.y), flat := false } }
    have hframe := takeOrientation_frame (stage v.x v.y) u
    have hu : SameBut (.angle :: rotationBlocks) s u := by
      intro b hb
      cases b <;> first | rfl | exact absurd (by decide) hb
    exact ⟨fun h => absurd h hflat, fun _ => ⟨takeOrientation_taken (stage v.x v.y) u, hframe .angle (by decide)⟩,
      takeOrientation_reports, (EventsBut.of_same (t := u) rfl _).trans (takeOrientation_but (stage v.x v.y) u),
      (takeOrientation_held (stage v.x v.y) u :), hu.trans (hframe.mono _ (by decide))⟩

theorem judgeAttitude_of_base {s : State} {b : Vector3} (h : s.angle.base = some b) :
    s.judgeAttitude
      = if (s.param .faceFloor : Int) ≤ b.z.toInt then .faceUp
        else if b.z.toInt ≤ -(s.param .faceFloor : Int) then .faceDown else .edge := by
  unfold State.judgeAttitude; rw [h]

/-! ## What a hinge computation leaves of orientation and activity -/

theorem computeHinge_stirs (other : Option Vector3) (s : State) : Stirs s (computeHinge other s) :=
  (classify_stirs (holdHinge ((hingeAngle other s).filter.map reportedAngle) (hingeAngle other s).attitude
    { s with angle := hingeAngle other s }) :)

theorem computeHinge_unforced {other : Option Vector3} {s : State} (h : (computeHinge other s).orient.current = s.orient.current) :
    EventsBut [1, 6, 7] s (computeHinge other s) :=
  (classify_unforced (s := holdHinge ((hingeAngle other s).filter.map reportedAngle) (hingeAngle other s).attitude
    { s with angle := hingeAngle other s }) h :)

/-- The outcome of a hinge computation with both vectors stored and the other one fresh, in the terms of a state with the same
count, parameters and filter. -/
theorem hingeAngle_fed {s u : State} {other : Option Vector3} {v b l : Vector3} (tick : u.tick = s.tick) (params : u.param = s.param)
    (filter : u.angle.filter = s.angle.filter) (hother : other = some v) (hfresh : (s.tick - v.timestamp).toNat ≤ s.param .staleLimit)
    (hbase : u.angle.base = some b) (hlid : u.angle.lid = some l) :
    let tilts (v : Vector3) : Prop := s.param .tiltFloor ≤ v.y.toInt.natAbs + v.z.toInt.natAbs
    (¬ (tilts b ∧ tilts l) → (hingeAngle other u).unresolved = some .axis)
      ∧ (tilts b → tilts l →
          (hingeAngle other u).unresolved = none ∧ (hingeAngle other u).h = stage l.y l.z - stage b.y b.z
            ∧ FilterStepped (s.param .filterShift) (hingeAngle other u).h s.angle.filter (hingeAngle other u).filter) := by
  obtain ⟨-, -, hboth⟩ := hingeAngle_judged (s := u) (other := other)
  obtain ⟨haxis, hresolved⟩ := hboth v b l hother (by rw [tick, params]; exact hfresh) hbase hlid
  simp only [passesTilt_iff, params] at haxis hresolved
  refine ⟨haxis, fun hb hl => ?_⟩
  rw [hresolved hb hl, filter]
  exact ⟨rfl, rfl, filterStep_stepped _ _ _⟩

/-! ## The two feeds -/

theorem feed_angle_of_unsettled {target : Target} (h : target = .angleLid ∨ target = .angleBase) {r : Sample} (hr : r.unsettled = true)
    (s : State) : feed target r s = s := by
  obtain rfl | rfl := h <;> exact if_pos hr

theorem feed_lid {r : Sample} {x y z : Value} (hr : r.unsettled = false) (hvalues : r.values = .three x y z) (s : State) :
    feed .angleLid r s = feedLid { x := x, y := y, z := z, timestamp := r.timestamp } s := by
  show (if r.unsettled then s else (match r.vector with | some v => feedLid v s | none => s)) = _
  rw [hr, show r.vector = some { x := x, y := y, z := z, timestamp := r.timestamp } by unfold Sample.vector; rw [hvalues]]
  rfl

theorem feed_base {r : Sample} {x y z : Value} (hr : r.unsettled = false) (hvalues : r.values = .three x y z) (s : State) :
    feed .angleBase r s = feedBase { x := x, y := y, z := z, timestamp := r.timestamp } s := by
  show (if r.unsettled then s else (match r.vector with | some v => feedBase v s | none => s)) = _
  rw [hr, show r.vector = some { x := x, y := y, z := z, timestamp := r.timestamp } by unfold Sample.vector; rw [hvalues]]
  rfl

/-- Settles O24: the vector, the orientation update of a lid feed, the hinge computation and its result, then the rest of the
visit. -/
theorem lidFeedUpdatesTheAngles : Obligations.LidFeedUpdatesTheAngles := by
  refine ⟨fun s w x y z hfeeds hvalues => ⟨_, exec_eq _ s, fun hunsettled => ?_, fun hsettled => ?_⟩,
    fun s w x y z hfeeds hvalues => ⟨_, exec_eq _ s, fun hunsettled => ?_, fun hsettled => ?_⟩⟩
  all_goals
    have hafter := feeds_aftermath hfeeds
    generalize settleAttention s (effect .routeVisit s) = t at hafter ⊢
  · rw [feed_angle_of_unsettled (.inl rfl) hunsettled] at hafter
    exact ⟨hafter.frame .angle (by decide), hafter.frame .orient (by decide), hafter.frame .posture (by decide)⟩
  · rw [feed_lid hsettled hvalues] at hafter
    let lid : Vector3 := { x := x, y := y, z := z, timestamp := w.record.timestamp }
    let stored : State := { countAt w.entry 0 s with angle := { s.angle with lid := some lid } }
    obtain ⟨hflat, hturned, hrotated, hevents, hheld, hframe⟩ := computeOrientation_does lid stored
    generalize hu : computeOrientation lid stored = u at hflat hturned hrotated hevents hheld hframe
    have hfed : feedLid lid (countAt w.entry 0 s) = computeHinge u.angle.base u := by rw [← hu]; rfl
    rw [show feedLid { x := x, y := y, z := z, timestamp := w.record.timestamp } (countAt w.entry 0 s) = _ from hfed] at hafter
    have hangle : t.angle = hingeAngle u.angle.base u := (hafter.frame .angle (by decide)).trans (computeHinge_angle _ _)
    have htick : u.tick = s.tick := hframe .tick (by decide)
    have hparams : u.param = s.param := by
      unfold State.param
      rw [show u.params = s.params from hframe .params (by decide)]
    have hposture : u.posture = s.posture := hframe .posture (by decide)
    obtain ⟨hlid, hbase, hkept, hfilter⟩ : u.angle.lid = some lid ∧ u.angle.base = s.angle.base ∧ u.angle.h = s.angle.h
        ∧ u.angle.filter = s.angle.filter := by
      by_cases hlies : x.toInt.natAbs + y.toInt.natAbs < s.param .flatFloor
      · rw [(hflat hlies).2]; exact ⟨rfl, rfl, rfl, rfl⟩
      · rw [(hturned hlies).2]; exact ⟨rfl, rfl, rfl, rfl⟩
    have hcomputed : (computeHinge u.angle.base u).tick = s.tick := (computeHinge_frame _ u .tick (by decide)).trans htick
    obtain ⟨hinput, hinputLid, ho, hlies, hattitude⟩ := hingeAngle_inputs u.angle.base u
    obtain ⟨hnone, haged, -⟩ := hingeAngle_judged (s := u) (other := u.angle.base)
    refine ⟨⟨u.orient, fun h => (hflat h).1, fun h => (hturned h).1,
      (computeHinge_taken u.angle.base hposture htick hheld.1 hevents (by decide)).after hafter hcomputed, fun hturns => ?_⟩, ?_⟩
    · obtain ⟨hactive, hreported⟩ := hrotated hturns
      refine ⟨?_, fun hstays => ?_⟩
      · have hcomputedActive : (computeHinge u.angle.base u).advisor.lastActivity = s.tick :=
          (computeHinge_stirs u.angle.base u).elim (fun e => e.trans hactive) (fun e => e.trans htick)
        exact hafter.active.elim (fun e => e.trans hcomputedActive) (fun e => e.trans hcomputed)
      · have horient : (computeHinge u.angle.base u).orient = u.orient :=
          (hafter.frame .orient (by decide) : t.orient = _).symm.trans hstays
        have hstill := computeHinge_unforced (congrArg OrientBlock.current horient)
        exact (hafter.events _ (by simp [Event.kind])).2 ((hstill _ (by simp [Event.kind])).2 hreported)
    · rw [hangle]
      refine ⟨hinputLid.trans hlid, hinput.trans hbase, fun h => ⟨?_, ?_⟩, fun h => ⟨?_, ?_⟩, fun hb => ⟨hnone (hbase.trans hb), ?_⟩,
        fun b hb hold => haged b (hbase.trans hb) (by rw [htick, hparams]; exact hold),
        fun b hb hfresh => (hingeAngle_fed htick hparams hfilter (hbase.trans hb) hfresh (hbase.trans hb) hlid).1,
        fun b hb hfresh => (hingeAngle_fed htick hparams hfilter (hbase.trans hb) hfresh (hbase.trans hb) hlid).2,
        fun h => ?_, fun b hb => ?_⟩
      · rw [hlies, (hflat h).2]
      · rw [ho, (hflat h).2]
      · rw [hlies, (hturned h).2]
      · rw [ho, (hturned h).2]
      · rw [hattitude, State.judgeAttitude, hbase, hb]
      · obtain ⟨hh, hf⟩ := hingeAngle_unresolved h
        exact ⟨hh.trans hkept, hf.trans hfilter⟩
      · rw [hattitude, judgeAttitude_of_base (hbase.trans hb), hparams]
  · rw [feed_angle_of_unsettled (.inr rfl) hunsettled] at hafter
    exact ⟨hafter.frame .angle (by decide), hafter.frame .orient (by decide), hafter.frame .posture (by decide)⟩
  · rw [feed_base hsettled hvalues] at hafter
    generalize hu : ({ countAt w.entry 0 s with
      angle := { s.angle with base := some { x := x, y := y, z := z, timestamp := w.record.timestamp } } } : State) = u
    have hfed : feedBase { x := x, y := y, z := z, timestamp := w.record.timestamp } (countAt w.entry 0 s)
        = computeHinge u.angle.lid u := by rw [← hu]; rfl
    rw [hfed] at hafter
    have hangle : t.angle = hingeAngle u.angle.lid u := (hafter.frame .angle (by decide)).trans (computeHinge_angle _ _)
    obtain ⟨htick, hparams, hposture, horient, hheld, hhost⟩ : u.tick = s.tick ∧ u.param = s.param ∧ u.posture = s.posture
        ∧ u.orient = s.orient ∧ u.advisor = s.advisor ∧ u.host = s.host := by
      rw [← hu]; exact ⟨rfl, rfl, rfl, rfl, rfl, rfl⟩
    obtain ⟨hbase, hlid, hflat, ho, hkept, hfilter⟩ :
        u.angle.base = some { x := x, y := y, z := z, timestamp := w.record.timestamp } ∧ u.angle.lid = s.angle.lid
          ∧ u.angle.flat = s.angle.flat ∧ u.angle.o = s.angle.o ∧ u.angle.h = s.angle.h ∧ u.angle.filter = s.angle.filter := by
      rw [← hu]; exact ⟨rfl, rfl, rfl, rfl, rfl, rfl⟩
    have hcomputed : (computeHinge u.angle.lid u).tick = s.tick := (computeHinge_frame _ u .tick (by decide)).trans htick
    obtain ⟨hinput, hinputLid, hinputO, hlies, hattitude⟩ := hingeAngle_inputs u.angle.lid u
    obtain ⟨hnone, haged, -⟩ := hingeAngle_judged (s := u) (other := u.angle.lid)
    have htaken := (computeHinge_taken (ks := []) u.angle.lid hposture htick (congrArg AdvisorBlock.heldPosture hheld)
      (.of_same (congrArg HostBlock.events hhost) _) (by decide)).after hafter hcomputed
    rw [horient] at htaken
    refine ⟨htaken, ?_⟩
    rw [hangle]
    refine ⟨hinput.trans hbase, hinputLid.trans hlid, hlies.trans hflat, hinputO.trans ho, fun hl => hnone (hlid.trans hl),
      fun l hl hold => haged l (hlid.trans hl) (by rw [htick, hparams]; exact hold),
      fun l hl hfresh => (hingeAngle_fed htick hparams hfilter (hlid.trans hl) hfresh hbase (hlid.trans hl)).1,
      fun l hl hfresh => (hingeAngle_fed htick hparams hfilter (hlid.trans hl) hfresh hbase (hlid.trans hl)).2,
      fun h => ?_, ?_⟩
    · obtain ⟨hh, hf⟩ := hingeAngle_unresolved h
      exact ⟨hh.trans hkept, hf.trans hfilter⟩
    · rw [hattitude, judgeAttitude_of_base hbase, hparams]

end Sys2Proof.Machine
end

section
/-! The Charge Controller: the gates, the way into CHARGING, PAUSED and out of the run, faults, and the statements about the pen's
feeds, its timers and the host's commands to it. -/

namespace Sys2Proof.Machine

set_option Elab.async false

/-! ## The gates (R120) -/

/-- The gates depend on the pen's two flags, the grants, the parameters and whether the host is up. -/
theorem gateClosed_congr {s t : State} (hinhibit : t.pen.inhibit = s.pen.inhibit)
    (hmonitor : t.pen.monitorClosed = s.pen.monitorClosed) (hsupply : t.supply = s.supply) (hup : t.advisor.platform.hostUp = s.advisor.platform.hostUp)
    (hparams : t.params = s.params) : t.gateClosed = s.gateClosed := by
  funext g
  cases g <;> simp [State.gateClosed, State.param, hinhibit, hmonitor, hsupply, hup, hparams]

theorem leadingGate_of_gates {s t : State} (h : t.gateClosed = s.gateClosed) : t.leadingGate = s.leadingGate := by
  unfold State.leadingGate; rw [h]

theorem gateClosed_sleep_iff (s : State) :
    s.gateClosed .sleep = true ↔ (s.advisor.platform = .asleep ∨ s.advisor.platform = .waking) ∧ s.param .chargeInSleep = 0 := by
  unfold State.gateClosed
  cases s.advisor.platform <;> simp [Platform.hostUp]

theorem leadingGate_eq (s : State) :
    s.leadingGate
      = if s.gateClosed .inhibit then some .inhibit else if s.gateClosed .budget then some .budget
        else if s.gateClosed .sleep then some .sleep else if s.gateClosed .monitor then some .monitor else none := by
  unfold State.leadingGate
  cases hi : s.gateClosed .inhibit <;> cases hb : s.gateClosed .budget <;> cases hs : s.gateClosed .sleep <;>
    cases hm : s.gateClosed .monitor <;> simp [List.find?, hi, hb, hs, hm]

theorem gateClosed_of_leading {s : State} {g : Gate} (h : s.leadingGate = some g) : s.gateClosed g = true :=
  List.find?_some h

/-! ## Into a state of the pen (R115, R116) -/

/-- What a change of pen state makes of the pen. -/
theorem movePen_pen (dest : PenState) (g : Option Gate) (s : State) :
    (movePen dest g s).pen.state = dest ∧ (movePen dest g s).pen.leading = g
      ∧ (movePen dest g s).pen.faults = s.pen.faults ∧ (movePen dest g s).pen.faultRecord = s.pen.faultRecord
      ∧ (movePen dest g s).pen.used = s.pen.used ∧ (movePen dest g s).pen.laterSet = s.pen.laterSet
      ∧ (movePen dest g s).pen.retryTimer = s.pen.retryTimer ∧ (movePen dest g s).pen.restTimer = s.pen.restTimer
      ∧ (movePen dest g s).pen.restCheck = s.pen.restCheck ∧ (movePen dest g s).pen.inhibit = s.pen.inhibit
      ∧ (movePen dest g s).pen.monitorClosed = s.pen.monitorClosed ∧ (movePen dest g s).pen.current = s.pen.current
      ∧ (movePen dest g s).pen.temperature = s.pen.temperature := by
  unfold movePen
  dsimp only
  split <;> exact ⟨rfl, rfl, rfl, rfl, rfl, rfl, rfl, rfl, rfl, rfl, rfl, rfl, rfl⟩

/-- Entering CHARGING begins a run with the coil off and the good-run timer started. -/
theorem movePen_charging (g : Option Gate) (s : State) :
    (movePen .charging g s).pen.duty = 0 ∧ (movePen .charging g s).pen.target = 0
      ∧ (movePen .charging g s).pen.goodRun = some { start := s.tick, duration := 2048 } := by
  unfold movePen
  rw [if_pos (.inr rfl)]
  exact ⟨rfl, rfl, rfl⟩

/-- Leaving CHARGING ends the run. -/
theorem movePen_leaves {dest : PenState} (g : Option Gate) {s : State} (h : s.CoilGuarded) (hdest : dest ≠ .charging) :
    (movePen dest g s).pen.duty = 0 ∧ (movePen dest g s).pen.target = 0 ∧ (movePen dest g s).pen.goodRun = none :=
  movePen_coil h (by rw [(movePen_pen dest g s).1]; exact hdest)

theorem coilGuarded_of_charging {s : State} (h : s.pen.state = .charging) : s.CoilGuarded := fun hne => absurd h hne

theorem enterPen_raises (dest : PenState) (g : Option Gate) (why : PenReason) (s : State) :
    .pen dest why s.pen.faults ∈ (enterPen dest g why s).host.events := by
  rw [enterPen_events]
  exact mem_addEvent_self _ _ (by simp [Event.kind])

theorem enterPen_tick (dest : PenState) (g : Option Gate) (why : PenReason) (s : State) : (enterPen dest g why s).tick = s.tick :=
  enterPen_frame dest g why s .tick (by decide)

/-- PAUSED for a gate (R115, R116, R120). -/
theorem pausePen_pauses (g : Gate) {s : State} (h : s.CoilGuarded) : s.PausesAt g (pausePen g s) := by
  obtain ⟨hstate, hleading, -⟩ := movePen_pen .paused (some g) s
  obtain ⟨hduty, htarget, hrun⟩ := movePen_leaves (dest := .paused) (some g) h (by decide)
  unfold pausePen State.PausesAt
  rw [enterPen_pen]
  exact ⟨hstate, hleading, hduty, htarget, hrun, enterPen_raises _ _ _ s⟩

/-- The gates lead to CHARGING when none is closed. -/
theorem openOrPause_opens {why : PenReason} {s : State} (h : s.leadingGate = none) :
    openOrPause why s = enterPen .charging none why s := by
  unfold openOrPause; rw [h]

theorem openOrPause_pauses {why : PenReason} {s : State} {g : Gate} (h : s.leadingGate = some g) :
    openOrPause why s = pausePen g s := by
  unfold openOrPause; rw [h]

theorem openOrPause_cases (why : PenReason) (s : State) :
    ∃ dest leading reason, openOrPause why s = enterPen dest leading reason s ∧ (dest = .charging ∨ dest = .paused) := by
  unfold openOrPause
  split
  · exact ⟨_, _, _, rfl, .inl rfl⟩
  · exact ⟨_, _, _, rfl, .inr rfl⟩

theorem openOrPause_leadingGate (why : PenReason) (s : State) : (openOrPause why s).leadingGate = s.leadingGate := by
  obtain ⟨dest, leading, reason, h, -⟩ := openOrPause_cases why s
  rw [h, enterPen_leadingGate]

theorem openOrPause_supply (why : PenReason) (s : State) : (openOrPause why s).supply = s.supply := by
  obtain ⟨dest, leading, reason, h, -⟩ := openOrPause_cases why s
  rw [h]
  exact enterPen_frame _ _ _ _ .supply (by decide)

/-- What the way to the gates leaves of the pen. -/
theorem openOrPause_pen (why : PenReason) (s : State) :
    (openOrPause why s).pen.faults = s.pen.faults ∧ (openOrPause why s).pen.faultRecord = s.pen.faultRecord
      ∧ (openOrPause why s).pen.used = s.pen.used ∧ (openOrPause why s).pen.laterSet = s.pen.laterSet
      ∧ (openOrPause why s).pen.restTimer = s.pen.restTimer ∧ (openOrPause why s).pen.restCheck = s.pen.restCheck := by
  obtain ⟨dest, leading, reason, h, -⟩ := openOrPause_cases why s
  obtain ⟨-, -, hfaults, hrecord, hused, hset, -, hrest, hcheck, -⟩ := movePen_pen dest leading s
  rw [h, enterPen_pen]
  exact ⟨hfaults, hrecord, hused, hset, hrest, hcheck⟩

/-- The pen the gates lead to: CHARGING with its run begun, or PAUSED with the leading gate. -/
theorem openOrPause_leads (why : PenReason) (s : State) :
    (s.leadingGate = none → (openOrPause why s).pen.state = .charging ∧ (openOrPause why s).pen.duty = 0
        ∧ (openOrPause why s).pen.target = 0 ∧ (openOrPause why s).pen.goodRun = some { start := s.tick, duration := 2048 }
        ∧ .pen .charging why s.pen.faults ∈ (openOrPause why s).host.events)
      ∧ ∀ g, s.leadingGate = some g → (openOrPause why s).pen.state = .paused ∧ (openOrPause why s).pen.leading = some g
          ∧ .pen .paused (.gate g) s.pen.faults ∈ (openOrPause why s).host.events := by
  refine ⟨fun hopen => ?_, fun g hg => ?_⟩
  · obtain ⟨hduty, htarget, hrun⟩ := movePen_charging none s
    rw [openOrPause_opens hopen, enterPen_pen]
    exact ⟨(movePen_pen _ _ _).1, hduty, htarget, hrun, enterPen_raises _ _ _ s⟩
  · obtain ⟨hstate, hleading, -⟩ := movePen_pen .paused (some g) s
    rw [openOrPause_pauses hg, pausePen, enterPen_pen]
    exact ⟨hstate, hleading, enterPen_raises _ _ _ s⟩

/-! ## The request for i0 (R117, R123) -/

/-- A pen neither PAUSED nor CHARGING asks for i0, and nothing of it but the curve target changes. -/
theorem placeFirst_of_other {s : State} (hpaused : s.pen.state ≠ .paused) (hcharging : s.pen.state ≠ .charging) :
    (placeFirst s).pen = { s.pen with curveTarget := s.firstCurrent }
      ∧ (placeFirst s).supply.requests = { s.supply.requests with pen := penUnits s.firstCurrent } := by
  refine ⟨?_, placeRequests_requests _ _⟩
  exact placeRequests_frame_of_other _ (s := { s with pen := { s.pen with curveTarget := s.firstCurrent } }) hpaused hcharging
    .pen (by decide)

/-! ## Out of the run: a state without a request (R115, R118, R131) -/

theorem placePen_of_other (n : Nat) {s : State} (hpaused : s.pen.state ≠ .paused) (hcharging : s.pen.state ≠ .charging) :
    (placePen n s).pen = s.pen ∧ (placePen n s).advisor = s.advisor :=
  ⟨placeRequests_frame_of_other _ hpaused hcharging .pen (by decide),
    placeRequests_frame_of_other _ hpaused hcharging .advisor (by decide)⟩

/-- The request withdrawn, the neighbours told, the event raised. -/
theorem withdrawPen_does {dest : PenState} (why : PenReason) (s : State) (hpaused : dest ≠ .paused)
    (hcharging : dest ≠ .charging) :
    (withdrawPen dest why s).pen = (movePen dest none s).pen
      ∧ (withdrawPen dest why s).supply.requests = { s.supply.requests with pen := 0 }
      ∧ .pen dest why s.pen.faults ∈ (withdrawPen dest why s).host.events
      ∧ (withdrawPen dest why s).advisor.penPresent
        = if (s.pen.state = .absent) ↔ (dest = .absent) then s.advisor.penPresent else decide (dest ≠ .absent) := by
  obtain ⟨hstate, -, hfaults, -⟩ := movePen_pen dest none s
  obtain ⟨hpen, hadvisor⟩ := placePen_of_other 0 (s := movePen dest none s) (by rw [hstate]; exact hpaused)
    (by rw [hstate]; exact hcharging)
  have hhanded := handPen_frame s.pen.state dest (placePen 0 (movePen dest none s))
  have hkept : (handPen s.pen.state dest (placePen 0 (movePen dest none s))).pen = (movePen dest none s).pen :=
    (hhanded .pen (by decide)).trans hpen
  refine ⟨hkept, ?_, ?_, ?_⟩
  · have hsupply : (withdrawPen dest why s).supply = (placePen 0 (movePen dest none s)).supply := hhanded .supply (by decide)
    rw [hsupply]
    exact placeRequests_requests _ _
  · have hevent := mem_addEvent_self (handPen s.pen.state dest (placePen 0 (movePen dest none s))).host.events
      (.pen dest why s.pen.faults) (by simp [Event.kind])
    unfold withdrawPen raisePen
    rw [hkept, hstate, hfaults]
    exact hevent
  · have htold := congrArg AdvisorBlock.penPresent (handPen_advisor s.pen.state dest (placePen 0 (movePen dest none s))).1
    refine htold.trans ?_
    dsimp only
    rw [hadvisor]
    rfl

theorem withdrawPen_tick (dest : PenState) (why : PenReason) (s : State) : (withdrawPen dest why s).tick = s.tick :=
  withdrawPen_frame dest why s .tick (by decide)

theorem withdrawPen_params (dest : PenState) (why : PenReason) (s : State) : (withdrawPen dest why s).params = s.params :=
  withdrawPen_frame dest why s .params (by decide)

/-- A full cell ends the run in TOPPED (R131, R132). -/
theorem topOff_tops {s : State} (h : s.CoilGuarded) : s.TopsOff (topOff s) ∧ (topOff s).pen.restCheck = s.pen.restCheck := by
  obtain ⟨hpen, hrequests, hevent, -⟩ := withdrawPen_does (dest := .topped) .full s (by decide) (by decide)
  obtain ⟨hstate, -, hfaults, -, -, -, -, -, hcheck, -⟩ := movePen_pen .topped none s
  obtain ⟨hduty, htarget, hrun⟩ := movePen_leaves (dest := .topped) none h (by decide)
  have hparam : (withdrawPen .topped .full s).param .restTime = s.param .restTime := by
    unfold State.param; rw [withdrawPen_params]
  unfold topOff State.TopsOff
  dsimp only [State.timer]
  rw [hpen, hrequests, hparam]
  exact ⟨⟨hstate, hduty, htarget, hrun, rfl, hfaults, hevent, rfl⟩, hcheck⟩

/-! ## Faults (R126, R127) -/

/-- A CHARGING pen that takes a fault. -/
theorem takeFault_taken (f : PenFault) {s : State} (h : s.pen.state = .charging) : s.FaultTaken f (takeFault f s) := by
  let u : State := { s with pen := { s.pen with faultRecord := some f, faults := min 255 (s.pen.faults + 1) } }
  have hu : u.CoilGuarded := coilGuarded_of_charging h
  unfold State.FaultTaken takeFault
  dsimp only
  by_cases hlatches : s.param .retryLimitMode = 1 ∧ 5 ≤ min 255 (s.pen.faults + 1)
  · obtain ⟨hpen, hrequests, hevent, -⟩ := withdrawPen_does (dest := .latched) (.fault f) u (by decide) (by decide)
    obtain ⟨hstate, -, hfaults, hrecord, -⟩ := movePen_pen .latched none u
    obtain ⟨hduty, htarget, hrun⟩ := movePen_leaves (dest := .latched) none hu (by decide)
    rw [if_pos (show u.param .retryLimitMode = 1 ∧ 5 ≤ u.pen.faults from hlatches)]
    change (withdrawPen .latched (.fault f) u).pen.faults = _ ∧ _
    rw [hpen, hrequests]
    refine ⟨hfaults, hrecord, hduty, htarget, hrun, hstate ▸ hevent, fun _ => ⟨hstate, rfl⟩, fun hn => absurd hlatches hn,
      fun hn => absurd hlatches hn, fun hn => absurd hlatches hn⟩
  · rw [if_neg (show ¬ (u.param .retryLimitMode = 1 ∧ 5 ≤ u.pen.faults) from hlatches)]
    have hbegin : ∀ v : State, v.pen.state = .charging → v.pen.faults = min 255 (s.pen.faults + 1) → v.pen.faultRecord = some f →
        let t := enterPen .retryWait none (.fault f) v
        t.pen.faults = min 255 (s.pen.faults + 1) ∧ t.pen.faultRecord = some f ∧ t.pen.duty = 0 ∧ t.pen.target = 0
          ∧ t.pen.goodRun = none ∧ .pen t.pen.state (.fault f) (min 255 (s.pen.faults + 1)) ∈ t.host.events
          ∧ t.pen.state = .retryWait ∧ t.supply = v.supply ∧ t.pen.used = v.pen.used ∧ t.pen.laterSet = v.pen.laterSet
          ∧ t.pen.retryTimer = v.pen.retryTimer ∧ t.tick = v.tick := fun v hcharging hc hf => by
      obtain ⟨hstate, -, hfaults, hrecord, hused, hset, hretry, -⟩ := movePen_pen .retryWait none v
      obtain ⟨hduty, htarget, hrun⟩ := movePen_leaves (dest := .retryWait) none (coilGuarded_of_charging hcharging) (by decide)
      have hevent := enterPen_raises .retryWait none (.fault f) v
      dsimp only
      rw [enterPen_pen, hstate, enterPen_tick]
      exact ⟨hfaults.trans hc, hrecord.trans hf, hduty, htarget, hrun, hc ▸ hevent, rfl,
        enterPen_frame _ _ _ v .supply (by decide), hused, hset, hretry, rfl⟩
    unfold beginRetry
    by_cases hsize : s.pen.used < s.retrySetSize
    · obtain ⟨hfaults, hrecord, hduty, htarget, hrun, hevent, hstate, hsupply, hused, hset, hretry, htick⟩ :=
        hbegin { u with pen := { u.pen with used := u.pen.used + 1, retryTimer := u.timer (u.param .retryWait) } } h rfl rfl
      rw [if_pos (show u.pen.used < u.retrySetSize from hsize)]
      refine ⟨hfaults, hrecord, hduty, htarget, hrun, hevent, fun hn => absurd hn hlatches,
        fun _ => ⟨hstate, congrArg (fun x : SupplyBlock => x.requests.pen) hsupply⟩, fun _ _ => ⟨hused, hset, ?_⟩,
        fun _ hle => absurd (show s.pen.used < _ from hsize) (Nat.not_lt.2 hle)⟩
      rw [hretry, htick]
      rfl
    · obtain ⟨hfaults, hrecord, hduty, htarget, hrun, hevent, hstate, hsupply, hused, hset, hretry, htick⟩ :=
        hbegin { u with pen := { u.pen with
          laterSet := true, used := 1
          retryTimer := u.timer (u.param .retryWait * longMultiplier (u.param .longMultiplier)) } } h rfl rfl
      rw [if_neg (show ¬ u.pen.used < u.retrySetSize from hsize)]
      refine ⟨hfaults, hrecord, hduty, htarget, hrun, hevent, fun hn => absurd hn hlatches,
        fun _ => ⟨hstate, congrArg (fun x : SupplyBlock => x.requests.pen) hsupply⟩, fun _ hlt => absurd hlt hsize,
        fun _ _ => ⟨hused, hset, ?_⟩⟩
      rw [hretry, htick]
      rfl

end Sys2Proof.Machine
end

section
/-! The pen's timers, the host's commands to it, and its feeds. -/

namespace Sys2Proof.Machine

set_option Elab.async false

/-! ## The three timers (R128, R129, R132) -/

theorem stillHot_iff (s : State) :
    s.stillHot = true ↔ s.pen.faultRecord = some .overtemp
      ∧ ∃ v, s.pen.temperature = some v ∧ (s.param .otLimit : Int) - 50 ≤ v.toInt := by
  unfold State.stillHot
  split
  · next v hrecord htemperature => simp [hrecord, htemperature]
  · next hother =>
    refine ⟨(fun h => by cases h), ?_⟩
    rintro ⟨hrecord, v, htemperature, -⟩
    exact absurd htemperature (hother v hrecord)

/-- Settles O42: the retry wait, the rest and the good run, and which gate leads. -/
theorem penTimersLeadBackToTheGates : Obligations.PenTimersLeadBackToTheGates := by
  refine ⟨fun s hdue hstate => ⟨_, exec_eq _ s, ?_⟩, fun s hdue hstate => ⟨_, exec_eq _ s, ?_⟩, fun s hdue => ?_, fun s => ?_⟩
  · have heffect : effect .retryWaitExpiry s = expireRetry s := if_pos (by rw [hdue, hstate]; decide)
    rw [heffect]
    simp only [← stillHot_iff]
    let u : State := { s with pen := { s.pen with retryTimer := none } }
    have hgate : u.leadingGate = s.leadingGate := State.leadingGate_congr rfl rfl rfl rfl rfl
    obtain ⟨hopens, hpauses⟩ := openOrPause_leads .retried u
    have hhot : s.stillHot = true → expireRetry s = { s with pen := { s.pen with retryTimer := s.timer (s.param .retryWait) } } :=
      fun h => if_pos h
    have hcool : ¬ s.stillHot = true → expireRetry s = openOrPause .retried u := fun h => if_neg h
    have hframe : SameBut penBlocks s (expireRetry s) := by
      by_cases h : s.stillHot = true
      · rw [hhot h]
        intro b hb
        cases b <;> first | rfl | exact absurd (by decide) hb
      · obtain ⟨dest, leading, reason, hgates, -⟩ := openOrPause_cases .retried u
        rw [hcool h, hgates]
        refine SameBut.trans (t := u) ?_ (enterPen_frame _ _ _ u)
        intro b hb
        cases b <;> first | rfl | exact absurd (by decide) hb
    refine ⟨fun h => ?_, fun h hopen => ?_, fun h g hg => ?_, hframe .supply (by decide), ?_, hframe.settled s⟩
    · rw [hhot h]
      refine ⟨rfl, SameBut.settled s (l := [.pen]) ?_⟩
      intro b hb
      cases b <;> first | rfl | exact absurd (by decide) hb
    · rw [hcool h]
      exact hopens (hgate.trans hopen)
    · rw [hcool h]
      exact hpauses g (hgate.trans hg)
    · by_cases h : s.stillHot = true
      · rw [hhot h]; rfl
      · rw [hcool h]; exact (openOrPause_pen .retried u).1
  · have heffect : effect .restTimerExpiry s = endRest s := if_pos (by rw [hdue, hstate]; decide)
    let u : State := { s with pen := { s.pen with restTimer := none, restCheck := true } }
    have hpaused : u.pen.state ≠ .paused := by show s.pen.state ≠ _; rw [hstate]; decide
    have hcharging : u.pen.state ≠ .charging := by show s.pen.state ≠ _; rw [hstate]; decide
    obtain ⟨hpen, hrequests⟩ := placeFirst_of_other hpaused hcharging
    obtain ⟨-, -, -, -, hrest, hcheck⟩ := openOrPause_pen .rested (placeFirst u)
    obtain ⟨hopens, hpauses⟩ := openOrPause_leads .rested (placeFirst u)
    have hgate := openOrPause_leadingGate .rested (placeFirst u)
    have hsupply := openOrPause_supply .rested (placeFirst u)
    have hframe : SameBut supplyBlocks s (endRest s) := endRest_frame s
    rw [heffect]
    refine ⟨hcheck.trans (by rw [hpen]), hrest.trans (by rw [hpen]), ?_, fun hopen => ?_, fun g hg => ?_, hframe.settled s⟩
    · exact (congrArg SupplyBlock.requests hsupply).trans hrequests
    · obtain ⟨hstate, -, -, -, hevent⟩ := hopens (hgate.symm.trans hopen)
      rw [hpen] at hevent
      exact ⟨hstate, hevent⟩
    · obtain ⟨hstate, hleading, hevent⟩ := hpauses g (hgate.symm.trans hg)
      rw [hpen] at hevent
      exact ⟨hstate, hleading, hevent⟩
  · rw [exec_eq, show effect .goodRunTimerExpiry s = endGoodRun s from if_pos hdue]
    exact congrArg Host.Outcome.next (settle_lineKept rfl rfl)
  · have hsleep := gateClosed_sleep_iff s
    have hbudget : s.gateClosed .budget = true ↔ s.supply.grants.pen < 5 := decide_eq_true_iff
    have hinhibit : s.gateClosed .inhibit = s.pen.inhibit := rfl
    have hmonitor : s.gateClosed .monitor = s.pen.monitorClosed := rfl
    dsimp only
    rw [← hsleep, ← hbudget, ← hinhibit, ← hmonitor, leadingGate_eq]
    cases s.gateClosed .inhibit <;> cases s.gateClosed .budget <;> cases s.gateClosed .sleep <;> cases s.gateClosed .monitor <;> simp

/-! ## CLEAR_FAULT and CHARGE_INHIBIT (R120, R130) -/

theorem clearFaultOf_of_latched {s : State} (h : s.pen.state = .latched) :
    clearFaultOf s = openOrPause .cleared (placeFirst { s with pen := s.pen.forgive }) := if_pos h

/-- A LATCHED pen forgiven goes back to the gates with the request for i0 (R130). -/
theorem clearFaultOf_does {s : State} (h : s.pen.state = .latched) :
    ((clearFaultOf s).pen.faults = 0 ∧ (clearFaultOf s).pen.laterSet = false ∧ (clearFaultOf s).pen.used = 0
        ∧ (clearFaultOf s).pen.faultRecord = none)
      ∧ (clearFaultOf s).supply.requests = { s.supply.requests with pen := penUnits s.firstCurrent }
      ∧ ((clearFaultOf s).leadingGate = none →
          (clearFaultOf s).pen.state = .charging ∧ .pen .charging .cleared 0 ∈ (clearFaultOf s).host.events)
      ∧ ∀ g, (clearFaultOf s).leadingGate = some g →
          (clearFaultOf s).pen.state = .paused ∧ .pen .paused (.gate g) 0 ∈ (clearFaultOf s).host.events := by
  let u : State := { s with pen := s.pen.forgive }
  obtain ⟨hpen, hrequests⟩ := placeFirst_of_other (s := u) (by show s.pen.state ≠ _; rw [h]; decide)
    (by show s.pen.state ≠ _; rw [h]; decide)
  obtain ⟨hfaults, hrecord, hused, hset, -, -⟩ := openOrPause_pen .cleared (placeFirst u)
  obtain ⟨hopens, hpauses⟩ := openOrPause_leads .cleared (placeFirst u)
  have hnone : (placeFirst u).pen.faults = 0 := by rw [hpen]; rfl
  rw [clearFaultOf_of_latched h, openOrPause_leadingGate]
  rw [hnone] at hopens hpauses
  refine ⟨⟨hfaults.trans hnone, hset.trans (by rw [hpen]; rfl), hused.trans (by rw [hpen]; rfl), hrecord.trans (by rw [hpen]; rfl)⟩,
    (congrArg SupplyBlock.requests (openOrPause_supply .cleared (placeFirst u))).trans hrequests, fun hopen => ?_, fun g hg => ?_⟩
  · obtain ⟨hstate, -, -, -, hevent⟩ := hopens hopen
    exact ⟨hstate, hevent⟩
  · obtain ⟨hstate, -, hevent⟩ := hpauses g hg
    exact ⟨hstate, hevent⟩

theorem rereadGates_pen_inhibit (s : State) : (rereadGates s).pen.inhibit = s.pen.inhibit := by
  obtain h | ⟨dest, leading, why, h⟩ | ⟨g, h⟩ := rereadGates_cases s <;> rw [h]
  · rw [enterPen_pen]
    obtain ⟨-, -, -, -, -, -, -, -, -, hinhibit, -⟩ := movePen_pen dest leading s
    exact hinhibit
  · rfl

theorem inhibitCharge_of_other {on : Bool} {s : State} (h : on ≠ s.pen.inhibit) :
    inhibitCharge on s = rereadGates { s with pen := { s.pen with inhibit := on } } := if_neg h

theorem inhibitCharge_inhibit (on : Bool) (s : State) : (inhibitCharge on s).pen.inhibit = on := by
  by_cases h : on = s.pen.inhibit
  · unfold inhibitCharge; rw [if_pos h, h]
  · rw [inhibitCharge_of_other h, rereadGates_pen_inhibit]

/-- INHIBIT closed on a CHARGING pen pauses it at once. -/
theorem rereadGates_inhibits {s : State} (hstate : s.pen.state = .charging) (h : s.pen.inhibit = true) :
    s.PausesAt .inhibit (rereadGates s) := by
  have hclosed : s.gateClosed .inhibit = true := h
  have hreread : rereadGates s = pausePen .inhibit s := by
    unfold rereadGates pauseLeading
    rw [hstate, leadingGate_eq, hclosed]
    rfl
  rw [hreread]
  exact pausePen_pauses _ (coilGuarded_of_charging hstate)

/-- Settles O43: the faults forgiven and the gates read, and INHIBIT closed or opened. -/
theorem hostClearsAndInhibitsThePen : Obligations.HostClearsAndInhibitsThePen := by
  refine ⟨fun tag s => ⟨_, exec_eq _ s, ?_⟩, fun tag on s => ⟨_, exec_eq _ s, ?_⟩⟩
  · rw [show effect (.clearFault tag) s = respond tag 8 .ack (clearFaultOf (deliverAny s)) from rfl]
    have hframe := clearFaultOf_frame (deliverAny s)
    have hdoes := clearFaultOf_does (s := deliverAny s)
    have hother : s.pen.state ≠ .latched → clearFaultOf (deliverAny s) = deliverAny s := fun h =>
      if_neg (by rw [deliverAny_pen]; exact h)
    have hcurrent : (deliverAny s).firstCurrent = s.firstCurrent := by unfold State.firstCurrent; rw [deliverAny_pen]
    rw [deliverAny_pen, deliverAny_supply, hcurrent] at hdoes
    generalize clearFaultOf (deliverAny s) = x at hframe hdoes hother ⊢
    refine ⟨rfl, fun h => ?_, fun h => ?_, (hframe.seq (respond_frame tag 8 _ x) (m := .slot :: supplyBlocks) (by decide)
      (by decide)).settled s⟩
    · rw [hother h]
      exact respond_only tag 8 _ s _
    · obtain ⟨⟨hfaults, hset, hused, hrecord⟩, hrequests, hgates⟩ := hdoes h
      exact ⟨hfaults, hset, hused, hrecord, hrequests, hgates⟩
  · rw [show effect (.chargeInhibit tag on) s = respond tag 7 .ack (inhibitCharge on (deliverAny s)) from rfl]
    have hframe := inhibitCharge_frame on (deliverAny s)
    have hinhibit := inhibitCharge_inhibit on (deliverAny s)
    have hsame : s.pen.inhibit = on → inhibitCharge on (deliverAny s) = deliverAny s := fun h =>
      if_pos (by rw [deliverAny_pen]; exact h.symm)
    have hpauses : on = true → s.pen.inhibit = false → s.pen.state = .charging → s.PausesAt .inhibit (inhibitCharge on (deliverAny s)) :=
      fun hon hopen hstate => by
        have h := rereadGates_inhibits (s := { deliverAny s with pen := { (deliverAny s).pen with inhibit := on } })
          (by rw [deliverAny_pen]; exact hstate) hon
        rw [inhibitCharge_of_other (by rw [deliverAny_pen, hon, hopen]; decide)]
        unfold State.PausesAt at h ⊢
        dsimp only at h ⊢
        rw [deliverAny_pen] at h ⊢
        exact h
    have hresumes : on = false → s.pen.inhibit = true → s.pen.state = .paused → s.gateClosed .budget = false →
        s.gateClosed .sleep = false → s.gateClosed .monitor = false →
        (inhibitCharge on (deliverAny s)).pen.state = .charging
          ∧ .pen .charging .resumed s.pen.faults ∈ (inhibitCharge on (deliverAny s)).host.events :=
      fun hon hclosed hstate hbudget hsleep hmonitor => by
        generalize hu : ({ deliverAny s with pen := { (deliverAny s).pen with inhibit := on } } : State) = u
        have hpen : u.pen = { s.pen with inhibit := false } := by rw [← hu, ← hon]; dsimp only; rw [deliverAny_pen]
        have hgates : ∀ g, g ≠ .inhibit → u.gateClosed g = s.gateClosed g := fun g hg => by
          rw [← hu]
          cases g <;> simp [State.gateClosed, State.param] at hg ⊢
        have hopen : u.leadingGate = none := by
          have hinhibit : u.gateClosed .inhibit = false := by
            show u.pen.inhibit = false
            rw [hpen]
          rw [leadingGate_eq, hinhibit, hgates _ (by decide), hbudget, hgates _ (by decide), hsleep, hgates _ (by decide), hmonitor]
          rfl
        rw [inhibitCharge_of_other (by rw [deliverAny_pen, hon, hclosed]; decide), hu,
          rereadGates_resumes (by rw [hpen]; exact hstate) hopen, enterPen_pen]
        have hevent := enterPen_raises .charging none .resumed u
        rw [hpen] at hevent
        exact ⟨(movePen_pen _ _ _).1, hevent⟩
    generalize inhibitCharge on (deliverAny s) = x at hframe hinhibit hsame hpauses hresumes ⊢
    refine ⟨rfl, hinhibit, fun h => ?_, hpauses, hresumes,
      (hframe.seq (respond_frame tag 7 _ x) (m := .slot :: penBlocks) (by decide) (by decide)).settled s⟩
    rw [hsame h]
    exact respond_only tag 7 _ s _

end Sys2Proof.Machine
end

section
/-! The pen's feeds: presence, current, cell and temperature. -/

namespace Sys2Proof.Machine

set_option Elab.async false

/-! ## What a visit's FEED left of the pen stays -/

theorem Aftermath.pen {s t : State} (h : Aftermath s t) : t.pen = s.pen := h.frame .pen (by decide)

theorem Aftermath.supply {s t : State} (h : Aftermath s t) : t.supply = s.supply := h.frame .supply (by decide)

theorem Aftermath.tick {s t : State} (h : Aftermath s t) : t.tick = s.tick := h.frame .tick (by decide)

theorem Aftermath.leadingGate {s t : State} (h : Aftermath s t) : t.leadingGate = s.leadingGate :=
  leadingGate_of_gates (gateClosed_congr (congrArg PenBlock.inhibit h.pen) (congrArg PenBlock.monitorClosed h.pen) h.supply h.steady.hostUp
    (h.frame .params (by decide)))

/-- A PEN event stays pending. -/
theorem Aftermath.pen_event {s t : State} (h : Aftermath s t) {p : PenState} {why : PenReason} {n : Nat}
    (he : .pen p why n ∈ s.host.events) : .pen p why n ∈ t.host.events := (h.events _ (by simp [Event.kind])).2 he

theorem Aftermath.activity {s t : State} {now : Tick} (h : Aftermath s t) (hactive : s.advisor.lastActivity = now)
    (htick : s.tick = now) : t.advisor.lastActivity = now :=
  h.active.elim (fun e => e.trans hactive) (fun e => e.trans htick)

theorem State.TopsOff.after {s t u : State} (h : s.TopsOff t) (k : Aftermath t u) : s.TopsOff u := by
  unfold State.TopsOff at h ⊢
  rw [k.pen, k.supply, k.tick]
  obtain ⟨hstate, hduty, htarget, hrun, hrequest, hfaults, hevent, htimer⟩ := h
  exact ⟨hstate, hduty, htarget, hrun, hrequest, hfaults, k.pen_event hevent, htimer⟩

theorem State.FaultTaken.after {s t u : State} {f : PenFault} (h : s.FaultTaken f t) (k : Aftermath t u) : s.FaultTaken f u := by
  unfold State.FaultTaken at h ⊢
  rw [k.pen, k.supply, k.tick]
  obtain ⟨hfaults, hrecord, hduty, htarget, hrun, hevent, hrest⟩ := h
  exact ⟨hfaults, hrecord, hduty, htarget, hrun, k.pen_event hevent, hrest⟩

/-! ## Presence (R117, R118) -/

theorem enterPen_penPresent (dest : PenState) (g : Option Gate) (why : PenReason) (s : State) :
    (enterPen dest g why s).advisor.penPresent
      = if (s.pen.state = .absent) ↔ (dest = .absent) then s.advisor.penPresent else decide (dest ≠ .absent) :=
  congrArg AdvisorBlock.penPresent (handPen_advisor s.pen.state dest (movePen dest g s)).1

/-- A fresh pen at the gates, and what the Advisor hears of it. -/
theorem insertPen_does {s t : State} (h : s.pen.state = .absent) (k : Aftermath (insertPen s) t) :
    (t.pen.faults = 0 ∧ t.pen.faultRecord = none ∧ t.pen.used = 0 ∧ t.pen.laterSet = false)
      ∧ t.supply.requests.pen = penUnits s.firstCurrent
      ∧ (t.leadingGate = none → t.pen.state = .charging ∧ .pen .charging .inserted 0 ∈ t.host.events
          ∧ t.pen.goodRun = some { start := s.tick, duration := 2048 })
      ∧ (∀ g, t.leadingGate = some g → t.pen.state = .paused ∧ t.pen.leading = some g ∧ .pen .paused (.gate g) 0 ∈ t.host.events)
      ∧ t.advisor.penPresent = true ∧ t.advisor.lastActivity = s.tick := by
  let u : State := { s with pen := s.pen.forgive }
  have hpaused : u.pen.state ≠ .paused := by show s.pen.state ≠ _; rw [h]; decide
  have hcharging : u.pen.state ≠ .charging := by show s.pen.state ≠ _; rw [h]; decide
  obtain ⟨hpen, hrequests⟩ := placeFirst_of_other hpaused hcharging
  have hplaced : (placeFirst u).tick = s.tick := placeFirst_frame u .tick (by decide)
  have hnone : (placeFirst u).pen.faults = 0 := by rw [hpen]; rfl
  obtain ⟨hfaults, hrecord, hused, hset, -, -⟩ := openOrPause_pen .inserted (placeFirst u)
  obtain ⟨hopens, hpauses⟩ := openOrPause_leads .inserted (placeFirst u)
  obtain ⟨dest, leading, reason, hentered, hdest⟩ := openOrPause_cases .inserted (placeFirst u)
  have hpresent : (openOrPause .inserted (placeFirst u)).advisor.penPresent = true := by
    rw [hentered, enterPen_penPresent, if_neg, decide_eq_true_iff]
    · obtain rfl | rfl := hdest <;> decide
    · rw [show (placeFirst u).pen.state = .absent by rw [hpen]; exact h]
      obtain rfl | rfl := hdest <;> decide
  have hopened : (openOrPause .inserted (placeFirst u)).tick = s.tick := by
    rw [hentered, enterPen_tick, hplaced]
  have hreport := advisorTakes_aftermath true true (some .penIn) (openOrPause .inserted (placeFirst u))
  have hreported := advisorTakes_lastActivity true (some .penIn) (openOrPause .inserted (placeFirst u))
  have hall : Aftermath (openOrPause .inserted (placeFirst u)) t := hreport.trans k
  have hactive : t.advisor.lastActivity = s.tick :=
    k.activity (hreported.trans hopened) (hreport.tick.trans hopened)
  have hkept := hall.held.2.2.1
  rw [hnone] at hopens hpauses
  rw [hplaced] at hopens
  rw [hall.pen, hall.supply, hall.leadingGate, openOrPause_leadingGate, openOrPause_supply, hrequests]
  refine ⟨⟨hfaults.trans hnone, hrecord.trans (by rw [hpen]; rfl), hused.trans (by rw [hpen]; rfl), hset.trans (by rw [hpen]; rfl)⟩,
    rfl, fun hopen => ?_, fun g hg => ?_, hkept.trans hpresent, hactive⟩
  · obtain ⟨hstate, -, -, hrun, hevent⟩ := hopens hopen
    exact ⟨hstate, hall.pen_event hevent, hrun⟩
  · obtain ⟨hstate, hleading, hevent⟩ := hpauses g hg
    exact ⟨hstate, hleading, hall.pen_event hevent⟩

/-- A pen taken away, and what the Advisor hears of it. -/
theorem removePen_does {s t : State} (hguarded : s.CoilGuarded) (h : s.pen.state ≠ .absent) (k : Aftermath (removePen s) t) :
    t.pen.state = .absent ∧ t.pen.duty = 0 ∧ t.pen.target = 0 ∧ t.pen.faults = 0 ∧ t.pen.faultRecord = none
      ∧ t.pen.retryTimer = none ∧ t.pen.restTimer = none ∧ t.supply.requests.pen = 0
      ∧ (∃ c, (c = 0 ∨ c = s.pen.faults) ∧ .pen .absent .removed c ∈ t.host.events)
      ∧ t.advisor.penPresent = false ∧ t.advisor.lastActivity = s.tick := by
  generalize hshown : (if Config.removalClearsFirst then 0 else s.pen.faults) = shown
  let u : State := { s with pen := { s.pen with faults := shown, retryTimer := none, restTimer := none, restCheck := false } }
  have hu : u.CoilGuarded := hguarded
  obtain ⟨hpen, hrequests, hevent, hpresent⟩ := withdrawPen_does (dest := .absent) .removed u (by decide) (by decide)
  obtain ⟨hstate, -, -, -, -, -, hretry, hrest, -⟩ := movePen_pen .absent none u
  obtain ⟨hduty, htarget, -⟩ := movePen_leaves (dest := .absent) none hu (by decide)
  let forgiven : State := { withdrawPen .absent .removed u with pen := (withdrawPen .absent .removed u).pen.forgive }
  have hremoved : removePen s = advisorTakes true true (some .penOut) forgiven := by
    unfold removePen
    rw [hshown]
  have htick : forgiven.tick = s.tick := withdrawPen_tick .absent .removed u
  have hreport := advisorTakes_aftermath true true (some .penOut) forgiven
  have hreported := advisorTakes_lastActivity true (some .penOut) forgiven
  rw [hremoved] at k
  have hall : Aftermath forgiven t := hreport.trans k
  have hgone : forgiven.advisor.penPresent = false := by
    refine hpresent.trans ?_
    rw [if_neg (fun hiff => h (hiff.2 rfl))]
    rfl
  have hforgiven : forgiven.pen = (movePen .absent none u).pen.forgive := congrArg PenBlock.forgive hpen
  have hsupply : forgiven.supply.requests.pen = 0 := congrArg Shares.pen hrequests
  rw [hall.pen, hall.supply, hforgiven]
  refine ⟨hstate, hduty, htarget, rfl, rfl, hretry, hrest, hsupply, ⟨shown, ?_, hall.pen_event hevent⟩, hall.held.2.2.1.trans hgone,
    k.activity (hreported.trans htick) (hreport.tick.trans htick)⟩
  rw [← hshown]
  split
  · exact .inl rfl
  · exact .inr rfl

/-! ## The monitor's current (R119) -/

theorem rereadGates_monitor (s : State) :
    (rereadGates s).pen.current = s.pen.current ∧ (rereadGates s).pen.monitorClosed = s.pen.monitorClosed := by
  obtain h | ⟨dest, leading, why, h⟩ | ⟨g, h⟩ := rereadGates_cases s <;> rw [h]
  · exact ⟨rfl, rfl⟩
  · rw [enterPen_pen]
    obtain ⟨-, -, -, -, -, -, -, -, -, -, hmonitor, hcurrent, -⟩ := movePen_pen dest leading s
    exact ⟨hcurrent, hmonitor⟩
  · exact ⟨rfl, rfl⟩

theorem takeFault_temperature (f : PenFault) (s : State) : (takeFault f s).pen.temperature = s.pen.temperature := by
  have hentered : ∀ u, (enterPen .retryWait none (.fault f) u).pen.temperature = u.pen.temperature := fun u => by
    rw [enterPen_pen]
    obtain ⟨-, -, -, -, -, -, -, -, -, -, -, -, htemperature⟩ := movePen_pen .retryWait none u
    exact htemperature
  unfold takeFault beginRetry
  dsimp only
  split
  · rw [(withdrawPen_does (dest := .latched) (.fault f) _ (by decide) (by decide)).1]
    obtain ⟨-, -, -, -, -, -, -, -, -, -, -, -, htemperature⟩ := movePen_pen .latched none
      { s with pen := { s.pen with faultRecord := some f, faults := min 255 (s.pen.faults + 1) } }
    exact htemperature
  · split <;> exact hentered _

/-- Settles O41: each feed by its rule, then the rest of the visit. -/
theorem presenceFeedsInsertAndRemoveThePen : Obligations.PresenceFeedsInsertAndRemoveThePen := by
  refine ⟨fun s w hfeeds => ⟨_, exec_eq _ s, ?_⟩, fun s w hfeeds => ⟨_, exec_eq _ s, ?_⟩, fun s w hfeeds => ⟨_, exec_eq _ s, ?_⟩,
    fun s w hfeeds => ⟨_, exec_eq _ s, ?_⟩⟩
  all_goals
    have hafter := feeds_aftermath hfeeds
    generalize settleAttention s (effect .routeVisit s) = t at hafter ⊢
  · have hlevel := w.record.level_eq
    have hfeed : feed .penPresence w.record (countAt w.entry 0 s)
        = if w.record.level then (if s.pen.state = .absent then insertPen (countAt w.entry 0 s) else countAt w.entry 0 s)
          else if s.pen.state = .absent then countAt w.entry 0 s else removePen (countAt w.entry 0 s) := rfl
    rw [hfeed, hlevel] at hafter
    refine ⟨fun hin habsent => ?_, fun hguarded hout hpresent => ?_, fun hsame => ?_⟩
    · rw [if_pos (by simpa using hin), if_pos habsent] at hafter
      obtain ⟨⟨hfaults, hrecord, hused, hset⟩, hrest⟩ := insertPen_does (s := countAt w.entry 0 s) habsent hafter
      exact ⟨hfaults, hrecord, hused, hset, hrest⟩
    · rw [if_neg (by simpa using hout), if_neg hpresent] at hafter
      exact removePen_does (s := countAt w.entry 0 s) hguarded hpresent hafter
    · rw [hafter.pen]
      by_cases hin : w.record.values.first ≠ 0
      · rw [if_pos (by simpa using hin), if_neg (hsame.1 hin)]
        rfl
      · rw [if_neg (by simpa using hin), if_pos (Classical.byContradiction fun habsent => hin (hsame.2 habsent))]
        rfl
  · have hfeed : feed .chargeCurrent w.record (countAt w.entry 0 s)
        = if w.record.unsettled then countAt w.entry 0 s
          else feedCurrent w.record.values.first w.record.timestamp (countAt w.entry 0 s) := rfl
    rw [hfeed] at hafter
    let fed : State := { countAt w.entry 0 s with
      pen := { s.pen with current := some { value := w.record.values.first, timestamp := w.record.timestamp } } }
    let opened : State := { fed with pen := { fed.pen with monitorClosed := false } }
    have hopen : s.pen.monitorClosed = false → feedCurrent w.record.values.first w.record.timestamp (countAt w.entry 0 s) = fed :=
      fun h => if_neg (show ¬ s.pen.monitorClosed = true by rw [h]; decide)
    have hclosed : s.pen.monitorClosed = true →
        feedCurrent w.record.values.first w.record.timestamp (countAt w.entry 0 s) = rereadGates opened := fun h => if_pos h
    have hsettled : w.record.unsettled = false → Aftermath (feedCurrent w.record.values.first w.record.timestamp (countAt w.entry 0 s)) t :=
      fun h => by rw [if_neg (by rw [h]; decide)] at hafter; exact hafter
    refine ⟨?_, fun h => ?_, fun h => ?_, fun h hmonitor => ?_, fun h hmonitor hpaused => ⟨fun hinhibit hbudget hsleep => ?_, fun g hg => ?_⟩⟩
    · rw [hafter.supply]
      split
      · rfl
      · rcases hmonitor : s.pen.monitorClosed with _ | _
        · rw [hopen hmonitor]
          rfl
        · rw [hclosed hmonitor]
          exact rereadGates_frame opened .supply (by decide)
    · rw [hafter.pen, if_pos h]
      rfl
    · rw [(hsettled h).pen]
      rcases hmonitor : s.pen.monitorClosed with _ | _
      · rw [hopen hmonitor]
        exact ⟨rfl, hmonitor⟩
      · rw [hclosed hmonitor]
        exact rereadGates_monitor opened
    · rw [(hsettled h).pen, hopen hmonitor]
    · have hafter := hclosed hmonitor ▸ hsettled h
      have hnone : opened.leadingGate = none := by
        have hgates : ∀ g, g ≠ .monitor → opened.gateClosed g = s.gateClosed g := fun g hg => by
          cases g <;> first | rfl | exact absurd rfl hg
        rw [leadingGate_eq, hgates _ (by decide), hinhibit, hgates _ (by decide), hbudget, hgates _ (by decide), hsleep]
        rfl
      rw [rereadGates_resumes (s := opened) hpaused hnone] at hafter
      rw [hafter.pen, enterPen_pen]
      exact ⟨(movePen_pen _ _ _).1, hafter.pen_event (enterPen_raises _ _ _ opened)⟩
    · have hafter := hclosed hmonitor ▸ hsettled h
      rw [hafter.leadingGate, rereadGates_leadingGate] at hg
      rw [hafter.pen, (rereadGates_stays_paused (s := opened) hpaused hg).1]
      exact ⟨hpaused, rfl⟩
  · have hfeed : feed .chargeCell w.record (countAt w.entry 0 s)
        = if w.record.unsettled then countAt w.entry 0 s else feedCell w.record.values.first (countAt w.entry 0 s) := rfl
    rw [hfeed] at hafter
    let fed : State := { countAt w.entry 0 s with pen := { s.pen with cell := some w.record.values.first, restCheck := false } }
    have hcell : s.pen.state = .charging → feedCell w.record.values.first (countAt w.entry 0 s)
        = if s.pen.restCheck && decide ((s.param .fullVoltage : Int) ≤ w.record.values.first.toInt) then topOff fed else fed :=
      fun h => if_pos h
    refine ⟨fun h => ?_, fun h hcharging hnot => ?_, fun h hcharging hfull => ?_⟩
    · have hdeclined : (if w.record.unsettled then countAt w.entry 0 s else feedCell w.record.values.first (countAt w.entry 0 s))
          = countAt w.entry 0 s := by
        by_cases hu : w.record.unsettled = true
        · exact if_pos hu
        · rw [if_neg hu]
          exact if_neg (h.resolve_left hu)
      rw [hdeclined] at hafter
      exact ⟨hafter.pen, hafter.supply⟩
    · rw [if_neg (by rw [h]; decide), hcell hcharging, if_neg (by simpa using hnot)] at hafter
      exact ⟨hafter.pen, hafter.supply⟩
    · rw [if_neg (by rw [h]; decide), hcell hcharging, if_pos (by simpa using hfull)] at hafter
      obtain ⟨htops, hcheck⟩ := topOff_tops (s := fed) (coilGuarded_of_charging hcharging)
      exact ⟨htops.after hafter, by rw [hafter.pen, hcheck]⟩
  · have hfeed : feed .chargeTemp w.record (countAt w.entry 0 s)
        = if w.record.unsettled then countAt w.entry 0 s else feedTemp w.record.values.first (countAt w.entry 0 s) := rfl
    rw [hfeed] at hafter
    let fed : State := { countAt w.entry 0 s with pen := { s.pen with temperature := some w.record.values.first } }
    have htemp : feedTemp w.record.values.first (countAt w.entry 0 s)
        = if s.pen.state = .charging ∧ (s.param .otLimit : Int) < w.record.values.first.toInt then takeFault .overtemp fed else fed := rfl
    have hsettled : w.record.unsettled = false → Aftermath (feedTemp w.record.values.first (countAt w.entry 0 s)) t :=
      fun h => by rw [if_neg (by rw [h]; decide)] at hafter; exact hafter
    rw [htemp] at hsettled
    refine ⟨fun h => ?_, fun h => ?_, fun h hcool => ?_, fun h hhot => ?_⟩
    · rw [if_pos h] at hafter
      exact ⟨hafter.pen, hafter.supply⟩
    · rw [(hsettled h).pen]
      split
      · exact takeFault_temperature .overtemp fed
      · rfl
    · have hafter := hsettled h
      rw [if_neg hcool] at hafter
      exact ⟨hafter.pen, hafter.supply⟩
    · have hafter := hsettled h
      rw [if_pos hhot] at hafter
      exact (takeFault_taken .overtemp (s := fed) hhot.1 :).after hafter

end Sys2Proof.Machine
end

section
/-! Changes of dock state and departures: what a change says and tells, and everything a departure leaves (`Departed`). -/

namespace Sys2Proof.Machine

set_option Elab.async false

/-! ## What later operations of the same step leave -/

/-- The dock's state with its timers and counts of attempts. -/
def State.station (s : State) : DockState × Option Identity × Nat × Nat × Option Timer × Option Timer :=
  (s.dock.state, s.dock.identity, s.dock.attempts, s.dock.reattaches, s.dock.identifyTimer, s.dock.settleTimer)

/-- After a change of dock state another block's operation leaves the state, the Advisor's copy of it, the activity reported, and
the pending events of all kinds but those named. -/
structure Trails (ks : List Nat) (s t : State) : Prop where
  station : t.station = s.station
  heldDock : t.advisor.heldDock = s.advisor.heldDock
  stirs : Stirs s t
  tick : t.tick = s.tick
  events : EventsKept ks s t

theorem Trails.trans {ks : List Nat} {s t u : State} (h : Trails ks s t) (k : Trails ks t u) : Trails ks s u where
  station := k.station.trans h.station
  heldDock := k.heldDock.trans h.heldDock
  stirs := k.stirs.elim (fun e => h.stirs.imp e.trans e.trans) (fun e => .inr (e.trans h.tick))
  tick := k.tick.trans h.tick
  events := h.events.trans k.events

theorem Trails.mono {ks : List Nat} {s t : State} (h : Trails ks s t) (ks' : List Nat) (sub : ∀ k ∈ ks, k ∈ ks' := by decide) :
    Trails ks' s t where
  station := h.station
  heldDock := h.heldDock
  stirs := h.stirs
  tick := h.tick
  events := h.events.mono ks' sub

/-- An activity reported before is reported at this tick after. -/
theorem Trails.active {ks : List Nat} {s t : State} {now : Tick} (h : Trails ks s t) (hactive : s.advisor.lastActivity = now)
    (htick : s.tick = now) : t.advisor.lastActivity = now :=
  h.stirs.elim (fun e => e.trans hactive) (fun e => e.trans htick)

theorem station_of_frame {l : List Block} {s t : State} (h : SameBut l s t) (hl : Block.dockState ∉ l) : t.station = s.station := by
  have hdock := h .dockState hl
  simp only [Block.same, Prod.mk.injEq] at hdock
  obtain ⟨hstate, hidentity, hattempts, hreattaches, -, hidentify, hsettle⟩ := hdock
  unfold State.station
  rw [hstate, hidentity, hattempts, hreattaches, hidentify, hsettle]

theorem Trails.of_frame {l : List Block} {s t : State} (h : SameBut l s t)
    (hl : ∀ b ∈ [Block.tick, .dockState, .advisor, .events], b ∉ l := by decide) (ks : List Nat) : Trails ks s t where
  station := station_of_frame h (hl _ (by decide))
  heldDock := congrArg AdvisorBlock.heldDock (h .advisor (hl _ (by decide)))
  stirs := .inl (congrArg AdvisorBlock.lastActivity (h .advisor (hl _ (by decide))))
  tick := h .tick (hl _ (by decide))
  events := .frame h (hl _ (by decide)) ks

/-- A write that leaves all that is spoken of. -/
theorem Trails.of_same {s t : State} (ks : List Nat) (station : t.station = s.station := by rfl)
    (advisor : t.advisor = s.advisor := by rfl) (tick : t.tick = s.tick := by rfl)
    (events : t.host.events = s.host.events := by rfl) : Trails ks s t where
  station := station
  heldDock := congrArg AdvisorBlock.heldDock advisor
  stirs := .inl (congrArg AdvisorBlock.lastActivity advisor)
  tick := tick
  events := .of_same events ks

theorem Trails.refl (ks : List Nat) (s : State) : Trails ks s s := .of_same ks

theorem advisorTakes_trails (changed activity : Bool) (cause : Option WakeCause) (s : State) :
    Trails [6, 7] s (advisorTakes changed activity cause s) where
  station := station_of_frame (advisorTakes_frame _ _ _ s) (by decide)
  heldDock := (advisorTakes_held _ _ _ s).2.1
  stirs := advisorTakes_lastActivity_or _ _ _ s
  tick := advisorTakes_frame _ _ _ s .tick (by decide)
  events := advisorTakes_kept _ _ _ s

theorem PenTold.lastActivity {s t : State} (h : PenTold s t) : t.advisor.lastActivity = s.advisor.lastActivity := by
  obtain ⟨c, p, w, h⟩ := h; rw [h]

theorem placeRequests_trails (r : Shares) (s : State) : Trails [3, 8] s (placeRequests r s) where
  station := station_of_frame (placeRequests_frame r s) (by decide)
  heldDock := (placeRequests_told r s).heldDock
  stirs := .inl (placeRequests_told r s).lastActivity
  tick := placeRequests_frame r s .tick (by decide)
  events := placeRequests_kept r s

theorem raise_trails (e : Event) (s : State) : Trails [e.kind] s (raise e s) where
  station := rfl
  heldDock := rfl
  stirs := .inl rfl
  tick := rfl
  events := raise_kept e s

theorem trackPosture_trails (p : Posture) (s : State) : Trails [2] s (trackPosture p s) where
  station := station_of_frame (trackPosture_frame p s) (by decide)
  heldDock := congrArg AdvisorBlock.heldDock (trackPosture_frame p s .advisor (by decide))
  stirs := .inl (congrArg AdvisorBlock.lastActivity (trackPosture_frame p s .advisor (by decide)))
  tick := trackPosture_frame p s .tick (by decide)
  events := kept_of_but (trackPosture_but p s)

theorem changePosture_trails (p : Posture) (row : Option Nat) (s : State) : Trails [1, 2, 6, 7] s (changePosture p row s) := by
  let moved : State := { s with posture := { s.posture with posture := p, row := row, candidate := none, dwell := none } }
  have hmoved : Trails [1, 2, 6, 7] s moved := .of_same _
  have hraised : Trails [1, 2, 6, 7] moved (raise (.posture p s.posture.heldHf row) moved) := (raise_trails _ _).mono _ (by simp [Event.kind])
  have htracked : Trails [1, 2, 6, 7] s (trackPosture p (raise (.posture p s.posture.heldHf row) moved)) :=
    (hmoved.trans hraised).trans ((trackPosture_trails p _).mono _)
  have hreported : ∀ u, Trails [1, 2, 6, 7] u (advisorTakes true true (some .posture) (holdPosture p u)) := fun u =>
    Trails.trans (t := holdPosture p u) ⟨rfl, rfl, .inl rfl, rfl, .of_same rfl _⟩ ((advisorTakes_trails _ _ _ _).mono _)
  unfold changePosture
  dsimp only
  split
  · exact htracked.trans (hreported _)
  · exact (htracked.trans (hreported _)).trans ((advisorTakes_trails _ _ _ _).mono _)

/-- A write to the Advisor's latch copy, the part power following. -/
theorem holdLatch_trails (locked : Bool) (s : State) : Trails [] s (holdLatch locked s) where
  station := station_of_frame (holdLatch_frame locked s) (by decide)
  heldDock := by unfold holdLatch; rw [repower_advisor]
  stirs := .inl (by unfold holdLatch; rw [repower_advisor])
  tick := holdLatch_frame locked s .tick (by decide)
  events := .frame (holdLatch_frame locked s) (by decide) _

theorem endRelease_trails (outcome : LatchOutcome) (s : State) : Trails [3, 5, 8] s (endRelease outcome s) := by
  have hlocked : Trails [3, 5, 8] s { s with latch := latchReset } := .of_same _
  have hraise : ∀ u, Trails [3, 5, 8] u (raise (.latch outcome) u) := fun u => (raise_trails _ u).mono _ (by simp [Event.kind])
  exact ((hlocked.trans ((holdLatch_trails true _).mono _)).trans ((placeRequests_trails _ _).mono _)).trans (hraise _)

/-! ## A change of dock state (R99) -/

/-- The event a change of dock state raises. -/
def moveEvent (dest : DockState) (why : DockReason) (s : State) : Event :=
  .dock dest why (if dest = .detached then none else s.dock.identity)

theorem changeDock_does (dest : DockState) (why : DockReason) (s : State) :
    (changeDock dest why s).station = (moveDock dest s).station ∧ moveEvent dest why s ∈ (changeDock dest why s).host.events
      ∧ (changeDock dest why s).advisor.heldDock = dest ∧ EventsKept [4] s (changeDock dest why s)
      ∧ (changeDock dest why s).advisor.lastActivity = s.advisor.lastActivity := by
  let raised := raise (.dock dest why (moveDock dest s).dock.identity) (moveDock dest s)
  have hframe := holdDock_frame dest raised
  have hevents : (changeDock dest why s).host.events = raised.host.events := hframe .events (by decide)
  have hkept : EventsKept [4] s raised :=
    (EventsKept.of_same (t := moveDock dest s) rfl _).trans ((raise_kept _ _).mono _ (by simp [Event.kind]))
  refine ⟨(station_of_frame hframe (by decide) :), ?_, ?_, hkept.trans (.of_same hevents _), ?_⟩
  · rw [hevents]
    exact mem_addEvent_self _ _ (by simp [Event.kind])
  · rw [changeDock_eq]
    unfold holdDock
    rw [repower_advisor]
  · rw [changeDock_eq]
    unfold holdDock
    rw [repower_advisor]
    rfl

theorem enterDock_tick (dest : DockState) (why : DockReason) (s : State) : (enterDock dest why s).tick = s.tick :=
  enterDock_frame dest why s .tick (by decide)

theorem enterDock_trails (dest : DockState) (why : DockReason) (s : State) :
    Trails [6, 7] (changeDock dest why s) (enterDock dest why s) := by
  obtain h | ⟨activity, cause, h⟩ := enterDock_cases dest why s
  · rw [h]; exact .refl _ _
  · rw [h]; exact advisorTakes_trails _ _ _ _

theorem enterDock_does (dest : DockState) (why : DockReason) (s : State) :
    (enterDock dest why s).station = (moveDock dest s).station ∧ moveEvent dest why s ∈ (enterDock dest why s).host.events
      ∧ (enterDock dest why s).advisor.heldDock = dest ∧ EventsKept [4, 6, 7] s (enterDock dest why s)
      ∧ (dest = .detached → (enterDock dest why s).advisor.lastActivity = s.tick) := by
  obtain ⟨hstation, hevent, hheld, hkept, -⟩ := changeDock_does dest why s
  have htrails := enterDock_trails dest why s
  refine ⟨htrails.station.trans hstation, htrails.events _ hevent (by simp [moveEvent, Event.kind]), htrails.heldDock.trans hheld,
    (hkept.mono _ (by decide)).trans (htrails.events.mono _ (by decide)), ?_⟩
  rintro rfl
  exact (advisorTakes_lastActivity true (some .dock) (changeDock .detached why s)).trans (changeDock_frame _ _ s .tick (by decide))

/-! ## A departure (R104) -/

/-- What a departure to `dest` leaves. -/
structure Departed (dest : DockState) (why : DockReason) (s t : State) : Prop where
  station : t.station = (moveDock dest s).station
  event : moveEvent dest why s ∈ t.host.events
  heldDock : t.advisor.heldDock = dest
  active : dest = .detached → t.advisor.lastActivity = s.tick
  requests : t.supply.requests
    = { s.supply.requests with base := 0, extra := 0, latch := if s.latch.state = .locked then s.supply.requests.latch else 0 }
  latch : t.latch.state = .locked
  cancelled : s.latch.state ≠ .locked → .latch .cancelled ∈ t.host.events
  kept : s.latch.state = .locked → EventsKept [1, 2, 3, 4, 6, 7, 8] s t
  cycle : t.dock.cycle.map Cycle.shape = (cycleAfter dest s.dock.cycle).map Cycle.shape
  silence : t.dock.silence = s.dock.silence
  sent : t.dock.sent = s.dock.sent
  running : t.dock.motionRunning = false
  base : t.angle.base = none
  attitude : t.angle.attitude = .none
  gaps : t.intake.gaps = s.intake.gaps.set .basa true
  posture : t.posture
    = if s.dock.state = .attached then
        { s.posture with attached := false, posture := .slate, row := none, candidate := none, dwell := none }
      else s.posture
  keys : t.dock.keys = if s.dock.state = .attached then (releaseKeys s).dock.keys else s.dock.keys

theorem releaseKeys_trails (s : State) : Trails [] s (releaseKeys s) := .of_frame (releaseKeys_frame s) (ks := [])

/-- The dock left and the base's requests dropped: a departure's steps before channels 2 and 3 stop. -/
def quitLink (dest : DockState) (why : DockReason) (s : State) : State :=
  let entered := enterDock dest why s
  let released := if s.dock.state = .attached then releaseKeys entered else entered
  dropRequests { released with dock := { released.dock with remembered := none } }

/-- A departure's last steps: the posture goes, and a release in progress ends. -/
def quitPosture (attached : Bool) (s : State) : State :=
  endReleaseIfAny .cancelled (if attached then postureDetach s else s)

theorem depart_eq (dest : DockState) (why : DockReason) (s : State) :
    depart dest why s
      = quitPosture (decide (s.dock.state = .attached)) (discardBase (stopChannels (quitLink dest why s))) := by
  unfold depart quitPosture quitLink
  simp only [decide_eq_true_eq]

theorem dropRequests_requests (s : State) :
    (dropRequests s).supply.requests = { s.supply.requests with base := 0, extra := 0 } := placeRequests_requests _ _

theorem dropRequests_trails (s : State) : Trails [3, 8] s (dropRequests s) :=
  Trails.trans (t := { s with dock := { s.dock with extraHeld := 0 } }) (.of_same _) (placeRequests_trails _ _)

theorem dropRequests_steady (s : State) : Steady { s with dock := { s.dock with extraHeld := 0 } } (dropRequests s) :=
  (placeRequests_safe _ _).steady

/-- A write of the dock beside what `Steady` speaks of. -/
theorem Steady.of_dock_write {s t : State} (h : SameBut [.dockKeys] s t) : Steady s t := .of_frame h (by decide)

theorem releaseKeys_keys (s : State) :
    (releaseKeys s).dock.keys
      = if s.dock.lastPressed then s.dock.keys ++ [{ pressed := [], fn := false, synthetic := true, queued := s.tick }]
        else s.dock.keys := by
  unfold releaseKeys
  split <;> rfl

theorem dockKeys_of_frame {l : List Block} {s t : State} (h : SameBut l s t) (hl : Block.dockKeys ∉ l) :
    t.dock.keys = s.dock.keys ∧ t.dock.lastPressed = s.dock.lastPressed ∧ t.dock.remembered = s.dock.remembered := by
  have hkeys := h .dockKeys hl
  simp only [Block.same, Prod.mk.injEq] at hkeys
  exact hkeys

/-- The keys as a departure leaves them, before the requests drop. -/
def quitKeys (dest : DockState) (why : DockReason) (s : State) : State :=
  let entered := enterDock dest why s
  let released := if s.dock.state = .attached then releaseKeys entered else entered
  { released with dock := { released.dock with remembered := none } }

theorem quitKeys_frame (dest : DockState) (why : DockReason) (s : State) :
    SameBut [.dockKeys] (enterDock dest why s) (quitKeys dest why s) := by
  have hreleased : ∀ u : State, SameBut [.dockKeys] u (if s.dock.state = .attached then releaseKeys u else u) := fun u => by
    split
    · exact releaseKeys_frame u
    · exact .refl _ u
  refine (hreleased _).trans ?_
  intro b hb
  cases b <;> first | rfl | exact absurd (by decide) hb

theorem quitKeys_keys (dest : DockState) (why : DockReason) (s : State) :
    (quitKeys dest why s).dock.keys = if s.dock.state = .attached then (releaseKeys s).dock.keys else s.dock.keys := by
  obtain ⟨hkeys, hpressed, -⟩ := dockKeys_of_frame (enterDock_frame dest why s) (by decide)
  unfold quitKeys
  dsimp only
  split
  · rw [releaseKeys_keys, releaseKeys_keys, hkeys, hpressed, enterDock_tick]
  · exact hkeys

theorem quitLink_does (dest : DockState) (why : DockReason) (s : State) :
    (quitLink dest why s).station = (moveDock dest s).station ∧ moveEvent dest why s ∈ (quitLink dest why s).host.events
      ∧ (quitLink dest why s).advisor.heldDock = dest ∧ EventsKept [3, 4, 6, 7, 8] s (quitLink dest why s)
      ∧ (dest = .detached → (quitLink dest why s).advisor.lastActivity = s.tick)
      ∧ (quitLink dest why s).supply.requests = { s.supply.requests with base := 0, extra := 0 }
      ∧ (quitLink dest why s).dock.cycle.map Cycle.shape = (cycleAfter dest s.dock.cycle).map Cycle.shape
      ∧ (quitLink dest why s).dock.silence = s.dock.silence ∧ (quitLink dest why s).dock.sent = s.dock.sent
      ∧ (quitLink dest why s).dock.keys = (if s.dock.state = .attached then (releaseKeys s).dock.keys else s.dock.keys)
      ∧ SameBut [.dockState, .dockKeys, .supply, .pen, .poll, .dockLink, .advisor, .events] s (quitLink dest why s) := by
  obtain ⟨hstation, hevent, hheld, hkept, hactive⟩ := enterDock_does dest why s
  have hkeys := quitKeys_frame dest why s
  have hquit : quitLink dest why s = dropRequests (quitKeys dest why s) := rfl
  have htrails : Trails [3, 8] (enterDock dest why s) (quitLink dest why s) :=
    (Trails.of_frame hkeys (ks := [3, 8])).trans (hquit ▸ dropRequests_trails _)
  have hsteady : Steady (moveDock dest s) (quitKeys dest why s) := (enterDock_steady dest why s).trans (.of_dock_write hkeys)
  have hdropped := dropRequests_steady (quitKeys dest why s)
  have hrequests : (quitKeys dest why s).supply = s.supply :=
    (hkeys .supply (by decide)).trans (enterDock_frame dest why s .supply (by decide))
  refine ⟨htrails.station.trans hstation, htrails.events _ hevent (by simp [moveEvent, Event.kind]), htrails.heldDock.trans hheld,
    (hkept.mono _ (by decide)).trans (htrails.events.mono _ (by decide)), fun hdest => htrails.active (hactive hdest) (enterDock_tick _ _ s),
    ?_, ?_, ?_, ?_, ?_, ?_⟩
  · rw [hquit, dropRequests_requests, hrequests]
  · exact hdropped.cycle.trans hsteady.cycle
  · exact hdropped.silence.trans hsteady.silence
  · exact hdropped.sent.trans hsteady.sent
  · have hplaced := dockKeys_of_frame (placeRequests_frame
      { (quitKeys dest why s).supply.requests with base := 0, extra := 0 }
      { quitKeys dest why s with dock := { (quitKeys dest why s).dock with extraHeld := 0 } }) (by decide)
    exact hplaced.1.trans (quitKeys_keys dest why s)
  · have hextra : SameBut [.dockState] (quitKeys dest why s)
        { quitKeys dest why s with dock := { (quitKeys dest why s).dock with extraHeld := 0 } } := by
      intro b hb
      cases b <;> first | rfl | exact absurd (by decide) hb
    exact (((enterDock_frame dest why s).mono _ (by decide)).trans (hkeys.mono _ (by decide))).trans
      ((hextra.mono _ (by decide)).trans ((placeRequests_frame _ _).mono _ (by decide)))

theorem endReleaseIfAny_of_locked {outcome : LatchOutcome} {s : State} (h : s.latch.state = .locked) :
    endReleaseIfAny outcome s = s := if_pos h

theorem endReleaseIfAny_of_open {outcome : LatchOutcome} {s : State} (h : s.latch.state ≠ .locked) :
    endReleaseIfAny outcome s = endRelease outcome s := if_neg h

theorem postureDetach_trails (s : State) : Trails [1, 2, 6, 7] s (postureDetach s) :=
  Trails.trans (t := { s with posture := { s.posture with attached := false } }) (.of_same _) (changePosture_trails _ _ _)

theorem postureDetach_posture (s : State) :
    (postureDetach s).posture
      = { s.posture with attached := false, posture := .slate, row := none, candidate := none, dwell := none } :=
  changePosture_posture _ _ _

/-- A departure's last steps. -/
theorem quitPosture_does (attached : Bool) (s : State) :
    Trails [1, 2, 3, 5, 6, 7, 8] s (quitPosture attached s) ∧ Steady s (quitPosture attached s)
      ∧ (quitPosture attached s).supply.requests
        = { s.supply.requests with latch := if s.latch.state = .locked then s.supply.requests.latch else 0 }
      ∧ (quitPosture attached s).latch.state = .locked
      ∧ (s.latch.state ≠ .locked → .latch .cancelled ∈ (quitPosture attached s).host.events)
      ∧ (s.latch.state = .locked → EventsKept [1, 2, 6, 7] s (quitPosture attached s))
      ∧ (quitPosture attached s).posture
        = (if attached then
            { s.posture with attached := false, posture := .slate, row := none, candidate := none, dwell := none }
          else s.posture)
      ∧ SameBut [.posture, .orient, .latch, .supply, .pen, .poll, .dockLink, .advisor, .events] s (quitPosture attached s) := by
  generalize hu : (if attached then postureDetach s else s) = u
  have hdetached : Trails [1, 2, 6, 7] s u ∧ Steady s u ∧ SameBut postureBlocks s u
      ∧ u.posture = (if attached then
          { s.posture with attached := false, posture := .slate, row := none, candidate := none, dwell := none }
        else s.posture) := by
    rw [← hu]
    cases attached
    · exact ⟨.refl _ s, .refl s, .refl _ s, rfl⟩
    · exact ⟨postureDetach_trails s, (postureDetach_safe s).steady, postureDetach_frame s, postureDetach_posture s⟩
  obtain ⟨htrails, hsteady, hframe, hposture⟩ := hdetached
  have hlatch : u.latch = s.latch := hframe .latch (by decide)
  have hsupply : u.supply = s.supply := hframe .supply (by decide)
  have hquit : quitPosture attached s = endReleaseIfAny .cancelled u := by rw [← hu]; rfl
  have hend := endReleaseIfAny_frame .cancelled u
  rw [hquit]
  refine ⟨(htrails.mono _).trans ?_, hsteady.trans (endReleaseIfAny_safe _ u).steady, ?_, ?_, fun h => ?_, fun h => ?_, ?_,
    (hframe.mono _ (by decide)).trans (hend.mono _ (by decide))⟩
  · unfold endReleaseIfAny
    split
    · exact .refl _ u
    · exact (endRelease_trails _ u).mono _
  · by_cases h : s.latch.state = .locked
    · rw [endReleaseIfAny_of_locked (by rw [hlatch]; exact h), hsupply, if_pos h]
    · rw [endReleaseIfAny_of_open (by rw [hlatch]; exact h), endRelease_requests, hsupply, if_neg h]
  · by_cases h : s.latch.state = .locked
    · rw [endReleaseIfAny_of_locked (by rw [hlatch]; exact h), hlatch, h]
    · rw [endReleaseIfAny_of_open (by rw [hlatch]; exact h), endRelease_latch]
      rfl
  · rw [endReleaseIfAny_of_open (by rw [hlatch]; exact h)]
    exact endRelease_reports _ u
  · rw [endReleaseIfAny_of_locked (by rw [hlatch]; exact h)]
    exact htrails.events
  · exact (hend .posture (by decide)).trans hposture

theorem stopChannels_trails (s : State) : Trails [] s (stopChannels s) := .of_same _

/-- Everything a departure leaves (R104). -/
theorem depart_departed (dest : DockState) (why : DockReason) (s : State) : Departed dest why s (depart dest why s) := by
  obtain ⟨hstation, hevent, hheld, hkept, hactive, hrequests, hcycle, hsilence, hsent, hkeys, hframe⟩ := quitLink_does dest why s
  generalize hq : quitLink dest why s = q at hstation hevent hheld hkept hactive hrequests hcycle hsilence hsent hkeys hframe
  have hdiscarded : Trails [] q (discardBase (stopChannels q)) :=
    (stopChannels_trails q).trans (.of_frame (discardBase_frame _) (ks := []))
  obtain ⟨htrails, hsteady, hlast, hlocked, hcancelled, hstill, hposture, hpostureFrame⟩ :=
    quitPosture_does (decide (s.dock.state = .attached)) (discardBase (stopChannels q))
  have hdepart : depart dest why s = quitPosture (decide (s.dock.state = .attached)) (discardBase (stopChannels q)) := by
    rw [depart_eq, hq]
  have hlatch : (discardBase (stopChannels q)).latch = s.latch := hframe .latch (by decide)
  have hwhole : Trails [1, 2, 3, 5, 6, 7, 8] q (depart dest why s) := hdepart ▸ (hdiscarded.mono _).trans htrails
  rw [← hdepart, hlatch] at hlast hcancelled hstill
  rw [← hdepart] at hsteady hlocked hposture hpostureFrame
  have htick : q.tick = s.tick := hframe .tick (by decide)
  exact
    { station := hwhole.station.trans hstation
      event := hwhole.events _ hevent (by simp [moveEvent, Event.kind])
      heldDock := hwhole.heldDock.trans hheld
      active := fun hdest => hwhole.active (hactive hdest) htick
      requests := by
        rw [hlast, show (discardBase (stopChannels q)).supply.requests = q.supply.requests from rfl, hrequests]
      latch := hlocked
      cancelled := hcancelled
      kept := fun h => (hkept.mono _ (by decide)).trans ((hdiscarded.events.mono _ (by decide)).trans ((hstill h).mono _ (by decide)))
      cycle := hsteady.cycle.trans hcycle
      silence := hsteady.silence.trans hsilence
      sent := hsteady.sent.trans hsent
      running := hsteady.motionRunning
      base := congrArg AngleBlock.base (hpostureFrame .angle (by decide))
      attitude := congrArg AngleBlock.attitude (hpostureFrame .angle (by decide))
      gaps := by
        refine (hpostureFrame .gaps (by decide) : _ = (discardBase (stopChannels q)).intake.gaps).trans ?_
        exact congrArg (fun g : PerSource Bool => g.set .basa true) (hframe .gaps (by decide) : q.intake.gaps = _)
      posture := by
        rw [hposture, show (discardBase (stopChannels q)).posture = s.posture from hframe .posture (by decide)]
        simp only [decide_eq_true_eq]
      keys := (dockKeys_of_frame hpostureFrame (by decide)).1.trans hkeys }

end Sys2Proof.Machine
end

section
/-! The loss of the base: to DETACHED by sense or silence (`Lost`), failed identify attempts, and the attachment's own obligation. -/

namespace Sys2Proof.Machine

set_option Elab.async false

/-! ## The link lost (R105) -/

/-- What a departure to DETACHED leaves of the base. -/
def State.BaseGone (t : State) : Prop :=
  t.supply.requests.base = 0 ∧ t.supply.requests.extra = 0 ∧ t.angle.base = none ∧ t.angle.attitude = .none
    ∧ t.dock.motionRunning = false ∧ t.dock.outgoing = none ∧ t.dock.waiting = waitingEmpty

/-- What a departure from ATTACHED leaves of posture and keys, the stuck-key release queued (R109). -/
def State.KeyboardGone (s t : State) : Prop :=
  t.posture.posture = .slate ∧ t.posture.attached = false
    ∧ t.dock.keys
        = if s.dock.lastPressed then s.dock.keys ++ [{ pressed := [], fn := false, synthetic := true, queued := s.tick }]
          else s.dock.keys

/-- From `s` to `t` the dock loses its link; a release in progress ends RELEASED and gives the reason (R105, R112). -/
structure Lost (why : DockReason) (s t : State) : Prop where
  state : t.dock.state = .detached
  identity : t.dock.identity = none
  latch : t.latch.state = .locked
  heldDock : t.advisor.heldDock = .detached
  event : .dock .detached (if s.latch.state = .locked then why else .release) none ∈ t.host.events
  released : s.latch.state ≠ .locked → .latch .released ∈ t.host.events ∧ t.supply.requests.latch = 0
  cycle : t.dock.cycle.map Cycle.shape = (s.dock.cycle.map fun c => { c with discarded := true }).map Cycle.shape
  base : s.linked = true → t.BaseGone
  settling : s.dock.state = .settling → t.dock.keys = s.dock.keys
  attached : s.dock.state = .attached → s.KeyboardGone t
  active : t.advisor.lastActivity = s.tick

theorem linked_iff (s : State) : s.linked = true ↔ s.dock.state = .settling ∨ s.dock.state = .attached := by
  simp [State.linked]

theorem moveDock_detached (s : State) :
    (moveDock .detached s).station = (.detached, none, s.dock.attempts, s.dock.reattaches, none, none) := rfl

/-- The state and identity a station shows. -/
theorem station_state {s : State} {st : DockState} {i : Option Identity} {a r : Nat} {x y : Option Timer}
    (h : s.station = (st, i, a, r, x, y)) :
    s.dock.state = st ∧ s.dock.identity = i ∧ s.dock.attempts = a ∧ s.dock.reattaches = r ∧ s.dock.identifyTimer = x
      ∧ s.dock.settleTimer = y := by
  unfold State.station at h
  simpa only [Prod.mk.injEq] using h

theorem Departed.keyboardGone {dest : DockState} {why : DockReason} {s t : State} (h : Departed dest why s t)
    (hattached : s.dock.state = .attached) : s.KeyboardGone t := by
  unfold State.KeyboardGone
  rw [h.posture, h.keys, if_pos hattached, if_pos hattached, releaseKeys_keys]
  exact ⟨rfl, rfl, rfl⟩

theorem Departed.settling {dest : DockState} {why : DockReason} {s t : State} (h : Departed dest why s t)
    (hsettling : s.dock.state = .settling) : t.dock.keys = s.dock.keys ∧ t.posture = s.posture := by
  have hleft : ¬ s.dock.state = .attached := by rw [hsettling]; decide
  rw [h.keys, h.posture, if_neg hleft, if_neg hleft]
  exact ⟨rfl, rfl⟩

/-- A departure to DETACHED with no release in progress. -/
theorem depart_lost {why : DockReason} {s : State} (h : s.latch.state = .locked) : Lost why s (depart .detached why s) := by
  have hleft := depart_departed .detached why s
  obtain ⟨hwaiting, houtgoing⟩ := depart_channel (dest := .detached) why s (by decide) (by decide)
  obtain ⟨hstate, hidentity, -⟩ := station_state (hleft.station.trans (moveDock_detached s))
  exact
    { state := hstate
      identity := hidentity
      latch := hleft.latch
      heldDock := hleft.heldDock
      event := by rw [if_pos h]; exact hleft.event
      released := fun hopen => absurd h hopen
      cycle := hleft.cycle
      base := fun _ => by
        refine ⟨?_, ?_, hleft.base, hleft.attitude, hleft.running, houtgoing, hwaiting⟩ <;> rw [hleft.requests]
      settling := fun hsettling => (hleft.settling hsettling).1
      attached := hleft.keyboardGone
      active := hleft.active rfl }

/-- Outside SETTLING and ATTACHED there is nothing to depart from. -/
theorem enterDetached_lost {why : DockReason} {s : State} (h : s.latch.state = .locked) (hunlinked : s.linked = false) :
    Lost why s (enterDock .detached why s) := by
  obtain ⟨hstation, hevent, hheld, -, hactive⟩ := enterDock_does .detached why s
  obtain ⟨hstate, hidentity, -⟩ := station_state (hstation.trans (moveDock_detached s))
  have hneither : ¬ (s.dock.state = .settling ∨ s.dock.state = .attached) := by
    rw [← linked_iff, hunlinked]; decide
  exact
    { state := hstate
      identity := hidentity
      latch := (congrArg LatchBlock.state (enterDock_frame _ _ s .latch (by decide))).trans h
      heldDock := hheld
      event := by rw [if_pos h]; exact hevent
      released := fun hopen => absurd h hopen
      cycle := (enterDock_steady .detached why s).cycle
      base := fun hlinked => absurd hlinked (by rw [hunlinked]; decide)
      settling := fun hsettling => absurd (.inl hsettling) hneither
      attached := fun hattached => absurd (.inr hattached) hneither
      active := hactive rfl }

theorem leaveDock_lost {why : DockReason} {s : State} (h : s.latch.state = .locked) : Lost why s (leaveDock .detached why s) := by
  unfold leaveDock
  split
  · exact depart_lost h
  · next hunlinked => exact enterDetached_lost h (by simpa using hunlinked)

/-- The loss keeps a LATCH event and the latch's request. -/
theorem leaveDock_latch {why : DockReason} {s : State} (h : s.latch.state = .locked) :
    EventsKept [1, 2, 3, 4, 6, 7, 8] s (leaveDock .detached why s)
      ∧ (leaveDock .detached why s).supply.requests.latch = s.supply.requests.latch := by
  unfold leaveDock
  split
  · have hleft := depart_departed .detached why s
    refine ⟨hleft.kept h, ?_⟩
    rw [hleft.requests, if_pos h]
  · obtain ⟨-, -, -, hkept, -⟩ := enterDock_does .detached why s
    exact ⟨hkept.mono _ (by decide), congrArg (fun b : SupplyBlock => b.requests.latch) (enterDock_frame _ _ s .supply (by decide))⟩

/-- A release ended beforehand changes nothing else the loss speaks of. -/
theorem Lost.after_release {why : DockReason} {s t : State} (h : Lost .release (endRelease .released s) t)
    (hopen : s.latch.state ≠ .locked) (hevent : .latch .released ∈ t.host.events) (hlatch : t.supply.requests.latch = 0) :
    Lost why s t := by
  have hframe := endRelease_frame .released s
  have hlocked : (endRelease .released s).latch.state = .locked := by rw [endRelease_latch]; rfl
  have hsteady := (endRelease_safe .released s).steady
  have hstate : (endRelease .released s).dock.state = s.dock.state := hsteady.channel.state
  obtain ⟨hkeys, hpressed, -⟩ := dockKeys_of_frame hframe (by decide)
  have htick : (endRelease .released s).tick = s.tick := hframe .tick (by decide)
  have hdock := h.event
  rw [if_pos hlocked] at hdock
  exact
    { state := h.state
      identity := h.identity
      latch := h.latch
      heldDock := h.heldDock
      event := by rw [if_neg hopen]; exact hdock
      released := fun _ => ⟨hevent, hlatch⟩
      cycle := by
        refine h.cycle.trans ?_
        have hshape := hsteady.cycle
        revert hshape
        rcases (endRelease .released s).dock.cycle with _ | c <;> rcases s.dock.cycle with _ | d <;>
          simp +contextual [Cycle.shape]
      base := fun hlinked => h.base (hsteady.channel.linked.trans hlinked)
      settling := fun hsettling => (h.settling (hstate.trans hsettling)).trans hkeys
      attached := fun hattached => by
        obtain ⟨hposture, hdetached, hqueued⟩ := h.attached (hstate.trans hattached)
        exact ⟨hposture, hdetached, by rw [hqueued, hkeys, hpressed, htick]⟩
      active := h.active.trans htick }

theorem loseDock_lost (why : DockReason) (s : State) : Lost why s (loseDock why s) := by
  unfold loseDock
  split
  · next h => exact leaveDock_lost h
  · next h =>
    have hlocked : (endRelease .released s).latch.state = .locked := by rw [endRelease_latch]; rfl
    obtain ⟨hkept, hrequest⟩ := leaveDock_latch (why := .release) hlocked
    refine Lost.after_release (leaveDock_lost hlocked) h (hkept _ (endRelease_reports _ s) (by simp [Event.kind])) ?_
    rw [hrequest, endRelease_requests]

/-- What follows in the visit leaves the loss as it is. -/
theorem Lost.after {why : DockReason} {s t u : State} (h : Lost why s t) (k : Aftermath t u) (htick : t.tick = s.tick) :
    Lost why s u := by
  have hpath := k.steady.channel
  obtain ⟨hkeys, -, -⟩ := dockKeys_of_frame k.frame (by decide)
  have hstation := station_of_frame k.frame (by decide)
  have hclosed : t.linked = false := by simp [State.linked, h.state]
  have hposture : u.posture = t.posture := k.frame .posture (by decide)
  exact
    { state := hpath.state.trans h.state
      identity := (congrArg (fun x => x.2.1) hstation).trans h.identity
      latch := (congrArg LatchBlock.state (k.frame .latch (by decide))).trans h.latch
      heldDock := k.held.2.1.trans h.heldDock
      event := (k.events _ (by simp [Event.kind])).2 h.event
      released := fun hopen => by
        rw [k.supply]
        exact (h.released hopen).imp_left (k.events (.latch .released) (by simp [Event.kind])).2
      cycle := k.steady.cycle.trans h.cycle
      base := fun hlinked => by
        have hangle : u.angle = t.angle := k.frame .angle (by decide)
        obtain ⟨hbase, hextra, hvector, hattitude, hrunning, houtgoing, hwaiting⟩ := h.base hlinked
        unfold State.BaseGone
        rw [k.supply, hangle, k.steady.motionRunning, hpath.outgoing, hpath.closed (.inl hclosed)]
        exact ⟨hbase, hextra, hvector, hattitude, hrunning, houtgoing, hwaiting⟩
      settling := fun hsettling => hkeys.trans (h.settling hsettling)
      attached := fun hattached => by
        unfold State.KeyboardGone
        rw [hposture, hkeys]
        exact h.attached hattached
      active := k.activity h.active htick }

/-! ## Resets and failed attempts (R100, R101) -/

theorem enterIdentifying_does (s : State) :
    (enterIdentifying s).dock.state = .identifying ∧ (enterIdentifying s).dock.identity = s.dock.identity
      ∧ (enterIdentifying s).dock.toggles = PerChannel.all false ∧ (enterIdentifying s).dock.silence = 0
      ∧ (enterIdentifying s).dock.halted = false ∧ (enterIdentifying s).dock.remembered = none
      ∧ (enterIdentifying s).dock.identifyTimer = some { start := s.tick, duration := 100 }
      ∧ .dock .identifying .none s.dock.identity ∈ (enterIdentifying s).host.events := by
  obtain ⟨hstation, hevent, -⟩ := enterDock_does .identifying .none s
  obtain ⟨hstate, hidentity, -⟩ := station_state (hstation.trans rfl)
  refine ⟨hstate, hidentity, rfl, rfl, rfl, rfl,
    congrArg (fun now => some ({ start := now, duration := 100 } : Timer)) (enterDock_tick _ _ s), hevent⟩

/-- A failed attempt drives a new pulse, or faults the dock after the third. -/
theorem failAttempt_does (s : State) :
    (failAttempt s).dock.identifyTimer = none
      ∧ (s.dock.attempts < 3 →
          (failAttempt s).dock.state = .resetting ∧ (failAttempt s).dock.attempts = s.dock.attempts + 1
            ∧ .dock .resetting .noIdent s.dock.identity ∈ (failAttempt s).host.events)
      ∧ (3 ≤ s.dock.attempts →
          (failAttempt s).dock.state = .dockFault
            ∧ .dock .dockFault .noIdent s.dock.identity ∈ (failAttempt s).host.events) := by
  unfold failAttempt
  split
  · next hfew =>
    obtain ⟨hstation, hevent, -⟩ := enterDock_does .resetting .noIdent
      { s with dock := { s.dock with attempts := s.dock.attempts + 1 } }
    obtain ⟨hstate, -, hattempts, -, htimer, -⟩ := station_state (hstation.trans rfl)
    exact ⟨htimer, fun _ => ⟨hstate, hattempts, hevent⟩, fun hmany => absurd hfew (Nat.not_lt.2 hmany)⟩
  · next hmany =>
    obtain ⟨hstation, hevent, -⟩ := enterDock_does .dockFault .noIdent s
    obtain ⟨hstate, -, -, -, htimer, -⟩ := station_state (hstation.trans rfl)
    exact ⟨htimer, fun hfew => absurd hfew hmany, fun _ => ⟨hstate, hevent⟩⟩

/-! ## The sense line (R100, R105) -/

/-- A DOCK_SENSE of 1 in DETACHED starts the first reset pulse. -/
def beginAttachment (s : State) : State :=
  enterDock .resetting .sense { s with dock := { s.dock with attempts := 1, reattaches := 0 } }

theorem feedSense_cases (level : Bool) (s : State) :
    (level = true → s.dock.state = .detached → feedSense level s = beginAttachment s)
      ∧ (level = false → s.dock.state ≠ .detached → feedSense level s = loseDock .sense s)
      ∧ ((level = true ↔ s.dock.state ≠ .detached) → feedSense level s = s) := by
  unfold feedSense
  refine ⟨fun hl hs => ?_, fun hl hs => ?_, fun hl => ?_⟩
  · rw [if_pos hl, if_pos hs]; rfl
  · rw [if_neg (by rw [hl]; decide), if_neg hs]
  · by_cases h : s.dock.state = .detached
    · rw [if_neg (fun hlevel => hl.1 hlevel h), if_pos h]
    · rw [if_pos (hl.2 h), if_neg h]

theorem beginAttachment_does {s t : State} (k : Aftermath (beginAttachment s) t) :
    t.dock.state = .resetting ∧ t.dock.attempts = 1 ∧ t.dock.reattaches = 0 ∧ t.advisor.heldDock = .resetting
      ∧ .dock .resetting .sense s.dock.identity ∈ t.host.events := by
  obtain ⟨hstation, hevent, hheld, -⟩ := enterDock_does .resetting .sense
    { s with dock := { s.dock with attempts := 1, reattaches := 0 } }
  obtain ⟨hstate, -, hattempts, hreattaches, -⟩ :=
    station_state (((station_of_frame k.frame (by decide)).trans hstation).trans rfl)
  exact ⟨hstate, hattempts, hreattaches, k.held.2.1.trans hheld, (k.events _ (by simp [Event.kind])).2 hevent⟩

/-- The loss as the statements name it. -/
theorem Lost.cycleDiscarded {why : DockReason} {s t : State} (h : Lost why s t) :
    t.dock.cycle.map (fun c => (c.tick, c.channel, c.rest, c.discarded))
      = s.dock.cycle.map (fun c => (c.tick, c.channel, c.rest, true)) := by
  have hcycle := h.cycle
  rw [Option.map_map] at hcycle
  exact hcycle

/-- A DOCK_SENSE feed and what follows it: the first pulse, the loss of the base, or nothing. -/
theorem feedSense_does {level : Bool} {s t : State} (k : Aftermath (feedSense level s) t) :
    (level = true → s.dock.state = .detached →
        t.dock.state = .resetting ∧ t.dock.attempts = 1 ∧ t.dock.reattaches = 0 ∧ t.advisor.heldDock = .resetting
          ∧ .dock .resetting .sense s.dock.identity ∈ t.host.events)
      ∧ (level = false → s.dock.state ≠ .detached → Lost .sense s t)
      ∧ ((level = true ↔ s.dock.state ≠ .detached) →
          Block.dockState.same s t ∧ Block.dockKeys.same s t ∧ t.latch = s.latch ∧ t.angle = s.angle
            ∧ t.posture = s.posture ∧ t.supply = s.supply) := by
  obtain ⟨hbegins, hloses, hstays⟩ := feedSense_cases level s
  refine ⟨fun hone hdetached => ?_, fun hzero hdetached => ?_, fun hiff => ?_⟩
  · rw [hbegins hone hdetached] at k
    exact beginAttachment_does k
  · rw [hloses hzero hdetached] at k
    exact (loseDock_lost .sense s).after k (loseDock_frame _ s .tick (by decide))
  · rw [hstays hiff] at k
    exact ⟨k.frame .dockState (by decide), k.frame .dockKeys (by decide), k.frame .latch (by decide),
      k.frame .angle (by decide), k.frame .posture (by decide), k.supply⟩

/-- Settles O36: the feed's three cases, then the two ways an attempt goes on, from what a change of dock state does. -/
theorem attachmentsBeginWithAResetPulse : Obligations.AttachmentsBeginWithAResetPulse := by
  refine ⟨fun s w hfeeds => ⟨_, exec_eq _ s, ?_⟩, fun s hstate => ⟨_, exec_eq _ s, ?_⟩, fun s hdue hstate => ⟨_, exec_eq _ s, ?_⟩⟩
  · have hafter : Aftermath (feedSense w.record.level (countAt w.entry 0 s)) (settleAttention s (effect .routeVisit s)) :=
      feeds_aftermath hfeeds
    generalize settleAttention s (effect .routeVisit s) = t at hafter ⊢
    obtain ⟨hbegins, hloses, hstays⟩ := feedSense_does hafter
    rw [Sample.level_eq, decide_eq_true_eq] at hbegins hstays
    rw [Sample.level_eq, decide_eq_false_iff_not, Classical.not_not] at hloses
    refine ⟨hbegins, fun hzero hdetached => ?_, hstays⟩
    have hlost : Lost .sense (countAt w.entry 0 s) t := hloses hzero hdetached
    exact ⟨hlost.state, hlost.identity, hlost.latch, hlost.heldDock, hlost.event, hlost.released, hlost.cycleDiscarded,
      hlost.base, hlost.settling, hlost.attached, hlost.active⟩
  · have hdo : effect .resetPulseEnd s = enterIdentifying s := if_pos hstate
    rw [hdo]
    obtain ⟨hidentifying, -, htoggles, hsilence, hhalted, hremembered, htimer, hevent⟩ := enterIdentifying_does s
    refine ⟨hidentifying, htoggles, hsilence, hhalted, hremembered, htimer, hevent, ?_⟩
    have hwritten : SameBut [.dockState, .dockKeys, .dockLink] (enterDock .identifying .none s) (enterIdentifying s) := by
      intro b hb
      cases b <;> first | rfl | exact absurd (by decide) hb
    exact SameBut.settled s (((enterDock_frame _ _ s).mono [.dockState, .dockKeys, .dockLink, .poll, .advisor, .events] (by decide)).trans
      (hwritten.mono _ (by decide)))
  · have hdo : effect .identifyTimerExpiry s = failAttempt s := if_pos (by simp [hdue, hstate])
    rw [hdo]
    obtain ⟨htimer, hfew, hmany⟩ := failAttempt_does s
    exact ⟨htimer, hfew, hmany, SameBut.settled s (failAttempt_frame s)⟩

end Sys2Proof.Machine
end

section
/-! How an exchange ends and its cycle goes on: the state in which an outcome is judged (`beginTurn`), what the next exchange
leaves (`GoesOn`), and which one it is; silent exchanges and stalls. -/

namespace Sys2Proof.Machine

set_option Elab.async false

/-! ## The next exchange (R95, R97) -/

/-- From `s` to `t` the cycle goes on to one of `channels`, or ends: frames are added, channel 3 may take its message. -/
structure GoesOn (channels : List Channel) (s t : State) : Prop where
  frame : SameBut [.dockLink] s t
  toggles : t.dock.toggles = s.dock.toggles
  silence : t.dock.silence = s.dock.silence
  halted : t.dock.halted = s.dock.halted
  motionRunning : t.dock.motionRunning = s.dock.motionRunning
  motionNext : t.dock.motionNext = s.dock.motionNext
  cadence : t.dock.cadence = s.dock.cadence
  sent : ∃ more, t.dock.sent = s.dock.sent ++ more
  outgoing : .output ∉ channels → t.dock.outgoing = s.dock.outgoing ∧ t.dock.waiting = s.dock.waiting

theorem GoesOn.refl (channels : List Channel) (s : State) : GoesOn channels s s where
  frame := .refl _ s
  toggles := rfl
  silence := rfl
  halted := rfl
  motionRunning := rfl
  motionNext := rfl
  cadence := rfl
  sent := ⟨[], (List.append_nil _).symm⟩
  outgoing _ := ⟨rfl, rfl⟩

theorem loadOutgoing_eq (s : State) :
    ∃ outgoing waiting, loadOutgoing s = { s with dock := { s.dock with outgoing := outgoing, waiting := waiting } } := by
  unfold loadOutgoing
  split
  · exact ⟨_, _, rfl⟩
  · exact ⟨_, _, rfl⟩

theorem beginExchange_goesOn (cycleTick : Tick) (c : Channel) (rest : List Channel) (s : State) :
    GoesOn (c :: rest) s (beginExchange cycleTick c rest s) := by
  unfold beginExchange
  split
  · next h =>
    obtain ⟨outgoing, waiting, hload⟩ := loadOutgoing_eq s
    rw [hload]
    refine ⟨?_, rfl, rfl, rfl, rfl, rfl, rfl, ⟨_, rfl⟩, fun hout => absurd (h ▸ List.mem_cons_self) hout⟩
    intro b hb
    cases b <;> first | rfl | exact absurd (by decide) hb
  · refine ⟨?_, rfl, rfl, rfl, rfl, rfl, rfl, ⟨_, rfl⟩, fun _ => ⟨rfl, rfl⟩⟩
    intro b hb
    cases b <;> first | rfl | exact absurd (by decide) hb

theorem nextExchange_goesOn (cycleTick : Tick) (channels : List Channel) (s : State) :
    GoesOn channels s (nextExchange cycleTick channels s) := by
  induction channels with
  | nil =>
    refine ⟨?_, rfl, rfl, rfl, rfl, rfl, rfl, ⟨[], (List.append_nil _).symm⟩, fun _ => ⟨rfl, rfl⟩⟩
    intro b hb
    cases b <;> first | rfl | exact absurd (by decide) hb
  | cons c rest ih =>
    unfold nextExchange
    split
    · exact beginExchange_goesOn cycleTick c rest s
    · exact { ih with outgoing := fun hout => ih.outgoing fun hmem => hout (List.mem_cons_of_mem _ hmem) }

/-- A cycle is counted when it ends, and only then. -/
theorem nextExchange_counts (cycleTick : Tick) (channels : List Channel) (s : State) :
    ((nextExchange cycleTick channels s).dock.cycle = none → (nextExchange cycleTick channels s).dock.cycles = s.dock.cycles + 1)
      ∧ ((nextExchange cycleTick channels s).dock.cycle ≠ none → (nextExchange cycleTick channels s).dock.cycles = s.dock.cycles) := by
  have hbegin : ∀ c rest, (beginExchange cycleTick c rest s).dock.cycle ≠ none
      ∧ (beginExchange cycleTick c rest s).dock.cycles = s.dock.cycles := fun c rest => by
    unfold beginExchange
    refine ⟨fun h => (by cases h), ?_⟩
    obtain ⟨outgoing, waiting, hload⟩ := loadOutgoing_eq s
    split
    · rw [hload]; rfl
    · rfl
  induction channels with
  | nil => exact ⟨fun _ => rfl, fun h => absurd rfl h⟩
  | cons c rest ih =>
    unfold nextExchange
    split
    · exact ⟨fun h => absurd h (hbegin c rest).1, fun _ => (hbegin c rest).2⟩
    · exact ih

/-! ## Which exchange it is -/

theorem waiting_isEmpty_iff (w : Waiting) : w.isEmpty = true ↔ w = waitingEmpty := by
  obtain ⟨lights, grant, cadence⟩ := w
  unfold Waiting.isEmpty Waiting.take waitingEmpty
  cases lights <;> cases grant <;> cases cadence <;> simp

theorem exchangeWanted_iff (s : State) (cycleTick : Tick) (c : Channel) :
    s.exchangeWanted cycleTick c = true ↔ s.Wants cycleTick c := by
  have hwaiting : (!s.dock.waiting.isEmpty) = true ↔ s.dock.waiting ≠ waitingEmpty := by
    rw [Bool.not_eq_true', Bool.eq_false_iff, Ne, waiting_isEmpty_iff]
  have hdue : s.motionDue cycleTick = true
      ↔ ∃ due, s.dock.motionNext = some due ∧ (cycleTick - due).toNat < 2147483648 := by
    unfold State.motionDue
    cases s.dock.motionNext <;> simp
  cases c with
  | control => simp [State.exchangeWanted, State.Wants]
  | output => simp [State.exchangeWanted, State.Wants, hwaiting, Option.isSome_iff_ne_none, and_assoc]
  | keys => simp [State.exchangeWanted, State.Wants]
  | motion => simp [State.exchangeWanted, State.Wants, hdue, and_assoc]

/-- The first waiting message, when none is pending. -/
theorem loadOutgoing_of_take {s : State} {m : OutMessage} {w : Waiting} (h : s.dock.outgoing = none)
    (htake : s.dock.waiting.take = some (m, w)) :
    loadOutgoing s = { s with dock := { s.dock with outgoing := some m, waiting := w } } := by
  unfold loadOutgoing
  rw [h, htake]

theorem loadOutgoing_of_pending {s : State} {m : OutMessage} (h : s.dock.outgoing = some m) : loadOutgoing s = s := by
  unfold loadOutgoing
  rw [h]

/-- Channel 3's exchange sends its pending message. -/
theorem beginExchange_sends {cycleTick : Tick} {rest : List Channel} {s : State} {m : OutMessage} {w : Waiting}
    (h : loadOutgoing s = { s with dock := { s.dock with outgoing := some m, waiting := w } }) (hsent : s.dock.sent = []) :
    s.Sends (beginExchange cycleTick .output rest s) m w := by
  unfold beginExchange
  rw [if_pos rfl, h]
  exact ⟨congrArg (· ++ [outputFrame (s.dock.toggles.get .output) m]) hsent, rfl, rfl⟩

theorem beginExchange_begins (cycleTick : Tick) (c : Channel) (rest : List Channel) {s : State} (hsent : s.dock.sent = []) :
    s.Begins (beginExchange cycleTick c rest s) cycleTick c rest := by
  refine ⟨?_, fun hinward => ?_, ?_⟩
  · unfold beginExchange
    obtain ⟨outgoing, waiting, hload⟩ := loadOutgoing_eq s
    split
    · rw [hload]; rfl
    · rfl
  · unfold beginExchange
    rw [if_neg hinward]
    refine ⟨?_, rfl, rfl⟩
    have hpoll : s.openingFrame c = pollFrame c (s.dock.toggles.get c) := by
      cases c with
      | output => exact absurd rfl hinward
      | _ => rfl
    show s.dock.sent ++ [s.openingFrame c] = _
    rw [hsent, hpoll]
    rfl
  · rintro rfl
    have htakes : ∀ {m w}, s.dock.outgoing = none → s.dock.waiting.take = some (m, w) →
        s.Sends (beginExchange cycleTick .output rest s) m w := fun h htake =>
      beginExchange_sends (loadOutgoing_of_take h htake) hsent
    refine ⟨fun m h => beginExchange_sends ?_ hsent, fun l h hlights => htakes h ?_, fun g h hlights hgrant => htakes h ?_,
      fun code h hlights hgrant hcadence => htakes h ?_⟩
    · rw [loadOutgoing_of_pending h, ← h]
    all_goals
      unfold Waiting.take
      simp only [*]

/-- The cycle goes on to the first exchange whose condition holds. -/
theorem nextExchange_cycleGoesOn (cycleTick : Tick) (channels : List Channel) {s : State} (hsent : s.dock.sent = []) :
    s.CycleGoesOn (nextExchange cycleTick channels s) cycleTick channels := by
  have hskip : ∀ {c rest}, ¬ s.Wants cycleTick c →
      nextExchange cycleTick (c :: rest) s = nextExchange cycleTick rest s := fun h =>
    if_neg fun hwanted => h ((exchangeWanted_iff s cycleTick _).1 hwanted)
  refine ⟨fun before c rest hchannels hbefore hwants => ?_, fun hnone => ?_⟩
  · have hcounts : (beginExchange cycleTick c rest s).dock.cycles = s.dock.cycles := by
      unfold beginExchange
      obtain ⟨outgoing, waiting, hload⟩ := loadOutgoing_eq s
      split
      · rw [hload]; rfl
      · rfl
    subst hchannels
    induction before with
    | nil =>
      rw [List.nil_append, nextExchange, if_pos ((exchangeWanted_iff s cycleTick c).2 hwants)]
      exact ⟨beginExchange_begins cycleTick c rest hsent, hcounts⟩
    | cons x before ih =>
      rw [List.cons_append, hskip (hbefore x List.mem_cons_self)]
      exact ih fun y hy => hbefore y (List.mem_cons_of_mem _ hy)
  · induction channels with
    | nil => exact ⟨rfl, hsent, rfl, rfl, rfl⟩
    | cons x rest ih =>
      rw [hskip (hnone x List.mem_cons_self)]
      exact ih fun y hy => hnone y (List.mem_cons_of_mem _ hy)

/-! ## The end of an exchange -/

/-- The wire freed of exchange `c`; a channel-2 exchange moves the next due tick on (R97). -/
def beginTurn (c : Cycle) (s : State) : State :=
  { s with
    dock :=
      { s.dock with
        cycle := none, sent := []
        motionNext := if c.channel = .motion then nextPoll (cadencePeriod s.dock.cadence) c.tick else s.dock.motionNext } }

def judgeTurn (c : Cycle) (j : Judged) (s : State) : State :=
  if c.channel = .output then resolveOutput j s else resolveInward c j s

/-- The cycle goes on, unless the dock has left its link. -/
def goOn (c : Cycle) (s : State) : State := if s.linkActive then nextExchange c.tick c.rest s else s

theorem endExchange_eq {c : Cycle} (h : c.discarded = false) (j : Judged) (s : State) :
    endExchange c j s = goOn c (judgeTurn c j (beginTurn c s)) := by
  have hresolve : resolve c j { s with dock := { s.dock with cycle := none, sent := [] } } = judgeTurn c j (beginTurn c s) := by
    unfold resolve judgeTurn beginTurn
    obtain ⟨tick, channel, rest, afterMark, discarded⟩ := c
    cases channel <;> rfl
  unfold endExchange goOn
  dsimp only
  rw [h, if_neg (by decide), hresolve]

theorem beginTurn_frame (c : Cycle) (s : State) : SameBut [.dockLink] s (beginTurn c s) := by
  intro b hb
  cases b <;> first | rfl | exact absurd (by decide) hb

theorem goOn_goesOn (c : Cycle) (s : State) : GoesOn c.rest s (goOn c s) := by
  unfold goOn
  split
  · exact nextExchange_goesOn _ _ s
  · exact .refl _ s

theorem goOn_of_left {c : Cycle} {s : State} (h : s.linkActive = false) : goOn c s = s := if_neg (by rw [h]; decide)

theorem effect_reply {s : State} {c : Cycle} (frame : List Byte) (h : s.dock.cycle = some c) (hkept : c.discarded = false) :
    effect (.dockReply frame) s = goOn c (judgeTurn c (judgeReply c.channel frame) (beginTurn c s)) := by
  show onExchange _ s = _
  unfold onExchange
  rw [h]
  exact endExchange_eq hkept _ s

theorem effect_silence {s : State} {c : Cycle} {command : Instr} (hcommand : command = .replyTimeout ∨ command = .byteTimeout)
    (h : s.dock.cycle = some c) (hkept : c.discarded = false) :
    effect command s = goOn c (countFailure (beginTurn c s)) := by
  have heffect : effect command s = onExchange (fun _ => .failure) s := by
    obtain rfl | rfl := hcommand <;> rfl
  have hjudged : judgeTurn c .failure (beginTurn c s) = countFailure (beginTurn c s) := by
    unfold judgeTurn
    split <;> rfl
  rw [heffect, onExchange, h]
  dsimp only
  rw [endExchange_eq hkept, hjudged]

/-! ## Failures counted (R98, R105) -/

/-- One more failure on the count. -/
def tally (s : State) : State := { s with dock := { s.dock with silence := s.dock.silence + 1 } }

theorem countFailure_of_few {s : State} (h : s.dock.silence + 1 < s.param .silenceLimit) :
    countFailure s = tally s :=
  if_neg fun hlimit => absurd hlimit.1 (Nat.not_le.2 h)

theorem countFailure_of_limit {s : State} (h : s.param .silenceLimit ≤ s.dock.silence + 1) (hactive : s.linkActive = true) :
    countFailure s = loseDock .silence (tally s) :=
  if_pos ⟨h, hactive⟩

theorem linkActive_of_state {s : State} {st : DockState} (h : s.dock.state = st)
    (hleft : st = .detached ∨ st = .resetting ∨ st = .dockFault) : s.linkActive = false := by
  unfold State.linkActive State.linked
  rw [h]
  obtain rfl | rfl | rfl := hleft <;> rfl

/-- Below the limit a failure only counts. -/
theorem failure_counts {c : Cycle} {s : State} (h : s.dock.silence + 1 < s.param .silenceLimit) :
    GoesOn c.rest (tally (beginTurn c s))
      (goOn c (countFailure (beginTurn c s))) := by
  rw [countFailure_of_few (s := beginTurn c s) h]
  exact goOn_goesOn c _

/-- A write of the Dock Link before the cycle goes on. -/
theorem GoesOn.frame_from {channels : List Channel} {s u t : State} (h : GoesOn channels u t)
    (hu : SameBut [.dockLink] s u := by intro b hb; cases b <;> first | rfl | exact absurd (by decide) hb) :
    SameBut [.dockLink, .pulse] s (settleAttention s t) :=
  SameBut.settled s (hu.trans h.frame)

/-- At the limit the dock is lost, and no further exchange of the cycle begins. -/
theorem failure_loses {c : Cycle} {s : State} (h : s.param .silenceLimit ≤ s.dock.silence + 1) (hactive : s.linkActive = true) :
    Lost .silence (tally (beginTurn c s))
      (goOn c (countFailure (beginTurn c s))) := by
  rw [countFailure_of_limit (s := beginTurn c s) h hactive]
  have hlost := loseDock_lost .silence (tally (beginTurn c s))
  rw [goOn_of_left (linkActive_of_state hlost.state (.inl rfl))]
  exact hlost

/-- Settles O34: below the limit a failure counts, at it the dock is lost; channel 3's outcomes one by one. -/
theorem silentExchangesLeadToDetached : Obligations.SilentExchangesLeadToDetached := by
  refine ⟨fun s c command hcommand hcycle hkept => ⟨_, exec_eq _ s, ?_⟩,
    fun s c frame hcycle hkept hchannel hrest => ⟨_, exec_eq _ s, ?_⟩⟩
  · rw [effect_silence hcommand hcycle hkept]
    refine ⟨fun hfew => ?_, fun hlimit hactive => ?_, ?_⟩
    · have hcounts := failure_counts (c := c) hfew
      exact ⟨hcounts.silence, hcounts.frame_from⟩
    · have hlost := failure_loses (c := c) hlimit hactive
      generalize goOn c (countFailure (beginTurn c s)) = t at hlost ⊢
      refine ⟨hlost.state, hlost.identity, hlost.latch, hlost.event, fun h => (hlost.released h).1, fun h => ?_, fun h => ?_,
        hlost.active⟩
      · obtain ⟨hbase, hextra, hvector, -⟩ := hlost.base h
        exact ⟨hbase, hextra, hvector⟩
      · obtain ⟨hposture, hdetached, -⟩ := hlost.attached h
        exact ⟨hposture, hdetached⟩
    · exact SameBut.settled s ((((beginTurn_frame c s).mono dockBlocks (by decide)).trans (countFailure_frame _)).trans
        ((goOn_goesOn c _).frame.mono _ (by decide)))
  · have hoff : c.channel ≠ .motion := by rw [hchannel]; decide
    have houtcome : judgeTurn c (judgeReply .output frame) (beginTurn c s) = resolveOutput (judgeReply .output frame) (beginTurn c s) :=
      if_pos hchannel
    rw [effect_reply frame hcycle hkept, hchannel, houtcome]
    refine ⟨fun hjudged => ?_, fun hjudged => ?_, fun hjudged => ?_, fun hjudged hfew => ?_⟩ <;> rw [hjudged]
    · have hon := goOn_goesOn c (resolveOutput .ack (beginTurn c s))
      obtain ⟨houtgoing, hwaiting⟩ := hon.outgoing hrest
      exact ⟨houtgoing, hwaiting, hon.silence, hon.toggles, hon.frame_from⟩
    · have hon := goOn_goesOn c (resolveOutput .nak (beginTurn c s))
      obtain ⟨houtgoing, hwaiting⟩ := hon.outgoing hrest
      exact ⟨houtgoing, hwaiting, hon.silence, hon.toggles, hon.frame_from⟩
    · have hon := goOn_goesOn c (resolveOutput .stall (beginTurn c s))
      obtain ⟨houtgoing, hwaiting⟩ := hon.outgoing hrest
      exact ⟨hon.halted, houtgoing, hwaiting, hon.silence, hon.toggles, hon.frame_from⟩
    · have hon : GoesOn c.rest _ (goOn c (resolveOutput .failure (beginTurn c s))) := failure_counts hfew
      obtain ⟨houtgoing, hwaiting⟩ := hon.outgoing hrest
      exact ⟨houtgoing, hwaiting, hon.silence, hon.toggles, hon.frame_from⟩

/-! ## Stalls (R101, R106) -/

/-- A failed attempt writes of the Dock Link no more than a change of state does, and the link is gone. -/
theorem failAttempt_link (s : State) :
    (failAttempt s).linkActive = false ∧ (s.dock.cycle = none → (failAttempt s).dock.cycle = none)
      ∧ (failAttempt s).dock.sent = s.dock.sent ∧ (failAttempt s).dock.silence = s.dock.silence := by
  obtain ⟨-, hfew, hmany⟩ := failAttempt_does s
  have hentered : ∀ dest u, (u.dock.cycle = none → cycleAfter dest u.dock.cycle = none) →
      (u.dock.cycle = none → (enterDock dest .noIdent u).dock.cycle = none)
        ∧ (enterDock dest .noIdent u).dock.sent = u.dock.sent ∧ (enterDock dest .noIdent u).dock.silence = u.dock.silence :=
    fun dest u hafter => by
      have hsteady := enterDock_steady dest .noIdent u
      refine ⟨fun hnone => ?_, hsteady.sent, hsteady.silence⟩
      have hshape := hsteady.cycle
      rw [show (moveDock dest u).dock.cycle = none from hafter hnone] at hshape
      exact Option.map_eq_none_iff.1 hshape
  by_cases h : s.dock.attempts < 3
  · have hagain : failAttempt s = enterDock .resetting .noIdent { s with dock := { s.dock with attempts := s.dock.attempts + 1 } } :=
      if_pos h
    refine ⟨linkActive_of_state (hfew h).1 (.inr (.inl rfl)), ?_⟩
    rw [hagain]
    exact hentered .resetting { s with dock := { s.dock with attempts := s.dock.attempts + 1 } } fun _ => rfl
  · have hfault : failAttempt s = enterDock .dockFault .noIdent s := if_neg h
    refine ⟨linkActive_of_state (hmany (Nat.le_of_not_lt h)).1 (.inr (.inr rfl)), ?_⟩
    rw [hfault]
    exact hentered .dockFault s fun hnone => by rw [hnone]; rfl

/-- A stall in SETTLING or ATTACHED: a departure, with the reattaches counted while they last. -/
theorem takeStall_of_linked {s : State} (h : s.linked = true) :
    (s.dock.reattaches < 3 →
        takeStall s = depart .resetting .stall { s with dock := { s.dock with reattaches := s.dock.reattaches + 1, attempts := 1 } })
      ∧ (3 ≤ s.dock.reattaches → takeStall s = depart .dockFault .stall s) := by
  have hstate : s.dock.state ≠ .identifying := fun hid => by
    rw [State.linked, hid] at h
    exact absurd h (by decide)
  unfold takeStall
  rw [if_neg hstate, if_pos h]
  exact ⟨fun hfew => if_pos hfew, fun hmany => if_neg (Nat.not_lt.2 hmany)⟩

/-- A stall's departure, in the terms of the state before. -/
structure Stalled (s t : State) : Prop where
  reattached : s.dock.reattaches < 3 →
    t.dock.state = .resetting ∧ t.dock.reattaches = s.dock.reattaches + 1 ∧ t.dock.attempts = 1
      ∧ .dock .resetting .stall s.dock.identity ∈ t.host.events
  faulted : 3 ≤ s.dock.reattaches → t.dock.state = .dockFault ∧ .dock .dockFault .stall s.dock.identity ∈ t.host.events
  left : t.linkActive = false
  channel : t.dock.waiting = waitingEmpty ∧ t.dock.outgoing = none
  departed : ∃ dest u, Departed dest .stall u t ∧ cycleAfter dest none = none ∧ u.dock.cycle = s.dock.cycle
    ∧ u.supply = s.supply ∧ u.latch = s.latch ∧ u.intake = s.intake ∧ u.posture = s.posture ∧ u.tick = s.tick
    ∧ u.dock.state = s.dock.state ∧ u.dock.keys = s.dock.keys ∧ u.dock.lastPressed = s.dock.lastPressed
    ∧ u.dock.silence = s.dock.silence ∧ u.dock.sent = s.dock.sent

theorem takeStall_stalled {s : State} (h : s.linked = true) : Stalled s (takeStall s) := by
  obtain ⟨hreset, hfault⟩ := takeStall_of_linked h
  by_cases hfew : s.dock.reattaches < 3
  · rw [hreset hfew]
    have hleft := depart_departed .resetting .stall
      { s with dock := { s.dock with reattaches := s.dock.reattaches + 1, attempts := 1 } }
    obtain ⟨hstate, -, hattempts, hreattaches, -⟩ := station_state (hleft.station.trans rfl)
    exact
      { reattached := fun _ => ⟨hstate, hreattaches, hattempts, hleft.event⟩
        faulted := fun hmany => absurd hfew (Nat.not_lt.2 hmany)
        left := linkActive_of_state hstate (.inr (.inl rfl))
        channel := depart_channel _ _ (by decide) (by decide)
        departed := ⟨_, _, hleft, rfl, rfl, rfl, rfl, rfl, rfl, rfl, rfl, rfl, rfl, rfl, rfl⟩ }
  · rw [hfault (Nat.le_of_not_lt hfew)]
    have hleft := depart_departed .dockFault .stall s
    obtain ⟨hstate, -⟩ := station_state (hleft.station.trans rfl)
    exact
      { reattached := fun h => absurd h hfew
        faulted := fun _ => ⟨hstate, hleft.event⟩
        left := linkActive_of_state hstate (.inr (.inr rfl))
        channel := depart_channel _ _ (by decide) (by decide)
        departed := ⟨_, _, hleft, rfl, rfl, rfl, rfl, rfl, rfl, rfl, rfl, rfl, rfl, rfl, rfl⟩ }

/-- Settles O35: the departure of a stall in SETTLING or ATTACHED, and the failed attempt of one in IDENTIFYING. -/
theorem stallsReattachOrFault : Obligations.StallsReattachOrFault := by
  refine ⟨fun s c frame hcycle hkept hchannel hjudged hlinked => ⟨_, exec_eq _ s, ?_⟩,
    fun s c frame hcycle hkept hchannel hjudged hstate => ⟨_, exec_eq _ s, ?_⟩⟩
  · have hstalled := takeStall_stalled (s := beginTurn c s) hlinked
    have heffect : effect (.dockReply frame) s = takeStall (beginTurn c s) := by
      have hturn : judgeTurn c .stall (beginTurn c s) = takeStall (beginTurn c s) := if_neg hchannel
      rw [effect_reply frame hcycle hkept, hjudged, hturn, goOn_of_left hstalled.left]
    rw [heffect]
    have hframe : SameBut dockBlocks s (takeStall (beginTurn c s)) :=
      ((beginTurn_frame c s).mono _ (by decide)).trans (takeStall_frame _)
    generalize takeStall (beginTurn c s) = t at hstalled hframe ⊢
    obtain ⟨dest, u, hleft, hafter, hucycle, husupply, hulatch, huintake, huposture, hutick, hustate, hukeys, hupressed, husilence,
      husent⟩ := hstalled.departed
    have hrequests := hleft.requests
    have hgaps := hleft.gaps
    have hsilence := hleft.silence
    rw [husupply, hulatch] at hrequests
    rw [huintake] at hgaps
    rw [husilence] at hsilence
    refine ⟨hstalled.reattached, hstalled.faulted, congrArg Shares.base hrequests, congrArg Shares.extra hrequests, hleft.latch,
      fun hopen => ⟨?_, hleft.cancelled (by rw [hulatch]; exact hopen)⟩, ?_, hleft.sent.trans husent, hsilence, hleft.base,
      hleft.attitude, hgaps, hleft.running, hstalled.channel.2, hstalled.channel.1, fun hsettling => ?_, fun hattached => ?_,
      SameBut.settled s hframe⟩
    · exact (congrArg Shares.latch hrequests).trans (if_neg hopen)
    · have hshape := hleft.cycle
      rw [hucycle, show (beginTurn c s).dock.cycle = none from rfl, hafter] at hshape
      exact Option.map_eq_none_iff.1 hshape
    · obtain ⟨hkeys, hposture⟩ := hleft.settling (hustate.trans hsettling)
      exact ⟨hkeys.trans hukeys, hposture.trans huposture⟩
    · obtain ⟨hslate, hdetached, hkeys⟩ := hleft.keyboardGone (hustate.trans hattached)
      rw [hukeys, hupressed, hutick] at hkeys
      exact ⟨hslate, hdetached, hkeys⟩
  · have hoff : ¬ c.channel = .output := by rw [hchannel]; decide
    obtain ⟨hleft, hnone, hsent, hsilence⟩ := failAttempt_link (beginTurn c s)
    have heffect : effect (.dockReply frame) s = failAttempt (beginTurn c s) := by
      have hstall : takeStall (beginTurn c s) = failAttempt (beginTurn c s) := if_pos hstate
      have hturn : judgeTurn c .stall (beginTurn c s) = takeStall (beginTurn c s) := if_neg hoff
      rw [effect_reply frame hcycle hkept, hchannel, hjudged, hturn, hstall, goOn_of_left hleft]
    rw [heffect]
    obtain ⟨htimer, hfew, hmany⟩ := failAttempt_does (beginTurn c s)
    exact ⟨hfew, hmany, htimer, hnone rfl, hsent, hsilence,
      SameBut.settled s (((beginTurn_frame c s).mono _ (by decide)).trans (failAttempt_frame _))⟩

end Sys2Proof.Machine
end

section
/-! The entry to ATTACHED and its parts (R103), and the key reports of the base (R107, R108). -/

namespace Sys2Proof.Machine

set_option Elab.async false

/-! ## Keys -/

/-- A key report joins the Key Queue, before it is reported. -/
def joinKeys (k : KeySet) (s : State) : State :=
  { s with
    dock :=
      { s.dock with
        keys := s.dock.keys ++ [{ pressed := k.pressed, fn := k.fn, synthetic := false, queued := s.tick }]
        lastPressed := !k.pressed.isEmpty } }

theorem queueKeys_eq (k : KeySet) (s : State) : queueKeys k s = advisorTakes false true (some .keys) (joinKeys k s) := rfl

theorem joinKeys_frame (k : KeySet) (s : State) : SameBut [.dockKeys] s (joinKeys k s) := by
  intro b hb
  cases b <;> first | rfl | exact absurd (by decide) hb

theorem queueKeys_steady (k : KeySet) (s : State) : Steady s (queueKeys k s) :=
  (Steady.of_dock_write (joinKeys_frame k s)).trans (advisorTakes_safe _ _ _ _).steady

/-- A key report queued, with its report to the Advisor. -/
theorem queueKeys_does (k : KeySet) (s : State) :
    (queueKeys k s).dock.keys = s.dock.keys ++ [{ pressed := k.pressed, fn := k.fn, synthetic := false, queued := s.tick }]
      ∧ (queueKeys k s).dock.lastPressed = decide (k.pressed ≠ [])
      ∧ (queueKeys k s).dock.remembered = s.dock.remembered ∧ (queueKeys k s).advisor.lastActivity = s.tick
      ∧ Trails [6, 7] s (queueKeys k s) := by
  obtain ⟨hkeys, hpressed, hremembered⟩ :=
    dockKeys_of_frame (advisorTakes_frame false true (some .keys) (joinKeys k s)) (by decide)
  refine ⟨hkeys, hpressed.trans ?_, hremembered, advisorTakes_lastActivity _ _ (joinKeys k s),
    Trails.trans (t := joinKeys k s) (.of_same _) (advisorTakes_trails _ _ _ _)⟩
  show (!k.pressed.isEmpty) = _
  cases k.pressed <;> rfl

/-- The settle report's keys, queued at the entry to ATTACHED if one is pressed (R108). -/
theorem replayKeys_does (s : State) :
    (replayKeys s).dock.remembered = none
      ∧ (∀ k, s.dock.remembered = some k → k.pressed ≠ [] →
          (replayKeys s).dock.keys
            = s.dock.keys ++ [{ pressed := k.pressed, fn := k.fn, synthetic := false, queued := s.tick }])
      ∧ ((∀ k, s.dock.remembered = some k → k.pressed = []) → (replayKeys s).dock.keys = s.dock.keys)
      ∧ Trails [6, 7] s (replayKeys s) ∧ Steady s (replayKeys s) := by
  let cleared : State := { s with dock := { s.dock with remembered := none } }
  have htrails : Trails [6, 7] s cleared := .of_same _
  have hsteady : Steady s cleared := .of_dock_write (by intro b hb; cases b <;> first | rfl | exact absurd (by decide) hb)
  unfold replayKeys
  dsimp only
  split
  · next h => exact ⟨rfl, fun k hk => absurd (h.symm.trans hk) (by simp), fun _ => rfl, htrails, hsteady⟩
  · next k h =>
    have hsame : ∀ k', s.dock.remembered = some k' → k' = k := fun k' hk' => Option.some.inj (hk'.symm.trans h)
    split
    · next hnone =>
      refine ⟨rfl, fun k' hk' hpressed => ?_, fun _ => rfl, htrails, hsteady⟩
      rw [hsame k' hk'] at hpressed
      exact absurd (List.isEmpty_iff.1 hnone) hpressed
    · next hsome =>
      obtain ⟨hkeys, -, hremembered, -, hreported⟩ := queueKeys_does k cleared
      refine ⟨hremembered, fun k' hk' _ => ?_, fun hno => ?_, htrails.trans hreported, hsteady.trans (queueKeys_steady k _)⟩
      · rw [hsame k' hk']
        exact hkeys
      · exact absurd (List.isEmpty_iff.2 (hno k h)) hsome

/-! ## Entry to ATTACHED (R103) -/

/-- The posture at the entry to ATTACHED: UNKNOWN, reported. -/
theorem postureAttach_does (s : State) :
    (postureAttach s).posture
        = { s.posture with
            posture := .unknown, row := none, candidate := none, dwell := none, heldHf := none, attached := true }
      ∧ .posture .unknown none none ∈ (postureAttach s).host.events ∧ Trails [1, 2, 6, 7] s (postureAttach s)
      ∧ Steady s (postureAttach s) := by
  let attached : State := { s with posture := { s.posture with heldHf := none, attached := true } }
  obtain ⟨hevent, -⟩ := changePosture_hands .unknown none attached
  exact ⟨changePosture_posture .unknown none attached, hevent,
    Trails.trans (t := attached) (.of_same _) (changePosture_trails _ _ _), (postureAttach_safe s).steady⟩

theorem moveDock_attached (s : State) :
    (moveDock .attached s).station = (.attached, s.dock.identity, s.dock.attempts, s.dock.reattaches, none, none) := rfl

/-- What the entry to ATTACHED leaves. -/
structure Attached (s t : State) : Prop where
  station : t.station = (moveDock .attached s).station
  dockEvent : .dock .attached .none s.dock.identity ∈ t.host.events
  angle : t.angle = { s.angle with filter := none }
  posture : t.posture
    = { s.posture with
        posture := .unknown, row := none, candidate := none, dwell := none, heldHf := none, attached := true }
  postureEvent : .posture .unknown none none ∈ t.host.events
  remembered : t.dock.remembered = none
  replayed : ∀ k, s.dock.remembered = some k → k.pressed ≠ [] →
    t.dock.keys = s.dock.keys ++ [{ pressed := k.pressed, fn := k.fn, synthetic := false, queued := s.tick }]
  silent : (∀ k, s.dock.remembered = some k → k.pressed = []) → t.dock.keys = s.dock.keys
  requests : t.supply.requests = { s.supply.requests with extra := s.dock.extraHeld }
  heldDock : t.advisor.heldDock = .attached
  active : t.advisor.lastActivity = s.tick
  steady : Steady (moveDock .attached s) t
  extraHeld : t.dock.extraHeld = s.dock.extraHeld
  frame : SameBut [.dockState, .dockKeys, .angle, .posture, .orient, .supply, .pen, .poll, .dockLink, .advisor, .events] s t

theorem extraHeld_of_frame {l : List Block} {s t : State} (h : SameBut l s t) (hl : Block.dockState ∉ l) :
    t.dock.extraHeld = s.dock.extraHeld := by
  have hdock := h .dockState hl
  simp only [Block.same, Prod.mk.injEq] at hdock
  obtain ⟨-, -, -, -, hextra, -⟩ := hdock
  exact hextra

theorem changeDock_extraHeld (dest : DockState) (why : DockReason) (s : State) :
    (changeDock dest why s).dock.extraHeld = s.dock.extraHeld := by
  rw [changeDock_eq]
  generalize hraised : raise (.dock dest why (moveDock dest s).dock.identity) (moveDock dest s) = u
  have hheld : u.dock.extraHeld = s.dock.extraHeld := by rw [← hraised]; rfl
  exact (extraHeld_of_frame (holdDock_frame dest u) (by decide)).trans hheld

/-- The dock attached and its filter cleared, before posture and keys follow. -/
theorem attachDock_does (s : State) :
    (clearFilter (changeDock .attached .none s)).station = (moveDock .attached s).station
      ∧ .dock .attached .none s.dock.identity ∈ (clearFilter (changeDock .attached .none s)).host.events
      ∧ (clearFilter (changeDock .attached .none s)).advisor.heldDock = .attached
      ∧ Steady (moveDock .attached s) (clearFilter (changeDock .attached .none s))
      ∧ SameBut [.angle, .dockState, .dockLink, .poll, .advisor, .events] s (clearFilter (changeDock .attached .none s))
      ∧ (clearFilter (changeDock .attached .none s)).angle = { s.angle with filter := none }
      ∧ (clearFilter (changeDock .attached .none s)).dock.extraHeld = s.dock.extraHeld := by
  obtain ⟨hstation, hevent, hheld, -⟩ := changeDock_does .attached .none s
  have hchange := changeDock_frame .attached .none s
  have hclear := clearFilter_frame (changeDock .attached .none s)
  refine ⟨hstation, hevent, hheld, (changeDock_steady .attached .none s).trans (.of_frame hclear (by decide)),
    (hchange.mono _ (by decide)).trans (hclear.mono _ (by decide)), ?_, ?_⟩
  · exact congrArg (fun a : AngleBlock => { a with filter := none }) (hchange .angle (by decide))
  · exact changeDock_extraHeld .attached .none s

theorem enterAttached_attached (s : State) : Attached s (enterAttached s) := by
  obtain ⟨hstation, hdockEvent, hheld, hsteady, hframe, hangle, hextra⟩ := attachDock_does s
  generalize hd : clearFilter (changeDock .attached .none s) = d at hstation hdockEvent hheld hsteady hframe hangle hextra
  obtain ⟨hposture, hpostureEvent, hpostureTrails, hpostureSteady⟩ := postureAttach_does d
  obtain ⟨hremembered, hreplayed, hsilent, hkeysTrails, hkeysSteady⟩ := replayKeys_does (postureAttach d)
  have hpostureFrame := postureAttach_frame d
  have hkeysFrame := replayKeys_frame (postureAttach d)
  generalize hr : replayKeys (postureAttach d) = r at hremembered hreplayed hsilent hkeysTrails hkeysSteady hkeysFrame
  have hplaced := placeRequests_trails { r.supply.requests with extra := r.dock.extraHeld } r
  have hplacedFrame := placeExtra_frame r.dock.extraHeld r
  have hreported := advisorTakes_trails true true (some .dock) (placeExtra r.dock.extraHeld r)
  have hreportedFrame := advisorTakes_frame true true (some .dock) (placeExtra r.dock.extraHeld r)
  have hend : enterAttached s = advisorTakes true true (some .dock) (placeExtra r.dock.extraHeld r) := by
    unfold enterAttached; dsimp only; rw [hd, hr]
  have hlast : Trails [3, 6, 7, 8] (postureAttach d) (enterAttached s) :=
    hend ▸ ((hkeysTrails.mono [3, 6, 7, 8]).trans (hplaced.mono _)).trans (hreported.mono _)
  have hwhole : Trails [1, 2, 3, 6, 7, 8] d (enterAttached s) := (hpostureTrails.mono _).trans (hlast.mono _)
  have hafter : SameBut [.dockKeys, .supply, .pen, .poll, .dockLink, .advisor, .events] (postureAttach d) (enterAttached s) :=
    hend ▸ ((hkeysFrame.mono _ (by decide)).trans (hplacedFrame.mono _ (by decide))).trans (hreportedFrame.mono _ (by decide))
  obtain ⟨hdkeys, -, hdremembered⟩ := dockKeys_of_frame ((hframe.mono [.angle, .dockState, .posture, .orient, .poll, .dockLink, .advisor, .events] (by decide)).trans
    (hpostureFrame.mono _ (by decide))) (by decide)
  have htick : (postureAttach d).tick = s.tick := (hpostureFrame .tick (by decide)).trans (hframe .tick (by decide))
  have hlastFrame : SameBut [.supply, .pen, .poll, .dockLink, .advisor, .events] r (enterAttached s) :=
    hend ▸ (hplacedFrame.mono _ (by decide)).trans (hreportedFrame.mono _ (by decide))
  obtain ⟨hkeysEnd, -, hrememberedEnd⟩ := dockKeys_of_frame hlastFrame (by decide)
  have hdposture : d.posture = s.posture := hframe .posture (by decide)
  have hrequests : r.supply.requests = s.supply.requests := congrArg SupplyBlock.requests
    ((hkeysFrame .supply (by decide)).trans ((hpostureFrame .supply (by decide)).trans (hframe .supply (by decide))))
  have hrextra : r.dock.extraHeld = s.dock.extraHeld :=
    (extraHeld_of_frame hkeysFrame (by decide)).trans ((extraHeld_of_frame hpostureFrame (by decide)).trans hextra)
  exact
    { station := hwhole.station.trans hstation
      dockEvent := hwhole.events _ hdockEvent (by simp [Event.kind])
      angle := (hafter .angle (by decide)).trans ((hpostureFrame .angle (by decide)).trans hangle)
      posture := by
        rw [hdposture] at hposture
        exact (hafter .posture (by decide)).trans hposture
      postureEvent := hlast.events _ hpostureEvent (by simp [Event.kind])
      remembered := hrememberedEnd.trans hremembered
      replayed := fun k hk hpressed => by
        rw [hkeysEnd, hreplayed k (hdremembered.trans hk) hpressed, hdkeys, htick]
      silent := fun hno => by
        rw [hkeysEnd, hsilent fun k hk => hno k (hdremembered.symm.trans hk), hdkeys]
      requests := by
        have hadvised : (enterAttached s).supply = (placeExtra r.dock.extraHeld r).supply := by
          rw [hend]; exact hreportedFrame .supply (by decide)
        rw [hadvised]
        have hextraPlaced : (placeExtra r.dock.extraHeld r).supply.requests = { r.supply.requests with extra := r.dock.extraHeld } :=
          placeRequests_requests _ r
        rw [hextraPlaced, hrequests, hrextra]
      heldDock := hwhole.heldDock.trans hheld
      active := by
        rw [hend]
        refine (advisorTakes_lastActivity _ _ _).trans ((hplacedFrame .tick (by decide)).trans ?_)
        exact (hkeysFrame .tick (by decide)).trans htick
      extraHeld := (extraHeld_of_frame hlastFrame (by decide)).trans hrextra
      steady := by
        rw [hend]
        exact ((hsteady.trans hpostureSteady).trans hkeysSteady).trans
          ((placeRequests_safe _ r).steady.trans (advisorTakes_safe _ _ _ _).steady)
      frame := ((hframe.mono _ (by decide)).trans (hpostureFrame.mono _ (by decide))).trans (hafter.mono _ (by decide)) }

/-- Settles O37: the timer's end is the entry to ATTACHED. -/
theorem settleTimerExpiryAttaches : Obligations.SettleTimerExpiryAttaches := by
  intro s hdue hstate
  refine ⟨_, exec_eq _ s, ?_⟩
  have heffect : effect .settleTimerExpiry s = enterAttached s := if_pos (by simp [hdue, hstate])
  have h := enterAttached_attached s
  rw [heffect]
  generalize enterAttached s = t at h ⊢
  obtain ⟨hattached, -, -, -, -, hsettle⟩ := station_state (h.station.trans (moveDock_attached s))
  exact ⟨hattached, hsettle, h.dockEvent, h.angle, h.posture, h.postureEvent, h.remembered, h.replayed, h.silent, h.requests,
    h.heldDock, h.active, SameBut.settled s h.frame⟩

end Sys2Proof.Machine
end

section
/-! Arrival at Intake in the order of a tick: what samples on their way leave (`Lands`), several in a row, and a sample that
takes its turn; the two ends of a poll (R11, R12, R14). -/

namespace Sys2Proof.Machine

set_option Elab.async false

/-! ## Lists

The model's files import no library, so the few list facts the order of arrival needs stand here. -/

theorem filterMap_eq_of_mem {α β : Type} {f g : α → Option β} {l : List α} (h : ∀ x ∈ l, f x = g x) :
    l.filterMap f = l.filterMap g := by
  induction l with
  | nil => rfl
  | cons x rest ih =>
    rw [List.filterMap_cons, List.filterMap_cons, h x (List.mem_cons_self ..), ih fun y hy => h y (List.mem_cons_of_mem _ hy)]

theorem dropWhile_eq_nil_of_all {α : Type} {p : α → Bool} {l : List α} (h : ∀ x ∈ l, p x = true) : l.dropWhile p = [] := by
  have hall := List.dropWhile_append_of_pos (l₂ := []) h
  rwa [List.append_nil] at hall

theorem takeWhile_eq_self_of_all {α : Type} {p : α → Bool} {l : List α} (h : ∀ x ∈ l, p x = true) : l.takeWhile p = l := by
  have hall := List.takeWhile_append_of_pos (l₂ := []) h
  rwa [List.takeWhile_nil, List.append_nil] at hall

theorem of_mem_takeWhile {α : Type} {p : α → Bool} {l : List α} {x : α} (h : x ∈ l.takeWhile p) : p x = true := by
  induction l with
  | nil => cases h
  | cons y rest ih =>
    rw [List.takeWhile_cons] at h
    split at h
    · next hy =>
      obtain rfl | hx := List.mem_cons.1 h
      · exact hy
      · exact ih hx
    · cases h

theorem length_le_of_subset {α : Type} [DecidableEq α] {l m : List α} (hnodup : l.Nodup) (h : l ⊆ m) : l.length ≤ m.length := by
  induction l generalizing m with
  | nil => exact Nat.zero_le _
  | cons x rest ih =>
    obtain ⟨hx, hrest⟩ := List.nodup_cons.1 hnodup
    have hxm : x ∈ m := h (List.mem_cons_self ..)
    have hle := ih (m := m.erase x) hrest fun y hy =>
      (List.mem_erase_of_ne fun hyx : y = x => hx (hyx ▸ hy)).2 (h (List.mem_cons_of_mem _ hy))
    rw [List.length_erase_of_mem hxm] at hle
    have hpos := List.length_pos_of_mem hxm
    rw [List.length_cons]
    omega

/-! ## What an arrival leaves of the sample ports -/

/-- From `s` to `t` samples arrive: of the sample ports only settle marks may differ. -/
structure Lands (s t : State) : Prop where
  frame : SameBut [.fifo, .gaps, .poll] s t
  table : t.poll.table = s.poll.table
  next : ∀ p, (t.poll.schedule.get p).next = (s.poll.schedule.get p).next
  code : ∀ p, (t.poll.schedule.get p).code = (s.poll.schedule.get p).code
  health : t.poll.health = s.poll.health
  waiting : t.poll.waiting = s.poll.waiting
  onBus : t.poll.onBus = s.poll.onBus

theorem Lands.trans {s t u : State} (h : Lands s t) (k : Lands t u) : Lands s u where
  frame := h.frame.trans k.frame
  table := k.table.trans h.table
  next p := (k.next p).trans (h.next p)
  code p := (k.code p).trans (h.code p)
  health := k.health.trans h.health
  waiting := k.waiting.trans h.waiting
  onBus := k.onBus.trans h.onBus

theorem Lands.refl (s : State) : Lands s s := ⟨.refl _ s, rfl, fun _ => rfl, fun _ => rfl, rfl, rfl, rfl⟩

theorem Lands.tick {s t : State} (h : Lands s t) : t.tick = s.tick := h.frame .tick (by decide)

/-- The order of arrival rewritten. -/
theorem writeComing_lands (coming : List Coming) (s : State) : Lands s (writeComing coming s) :=
  ⟨(writeComing_frame coming s).mono _ (by decide), rfl, fun _ => rfl, fun _ => rfl, rfl, rfl, rfl⟩

theorem writeSettle_lands (p : Polled) (mark : Bool) (s : State) : Lands s (writeSettle p mark s) := by
  have hget : ∀ q, (writeSettle p mark s).poll.schedule.get q
      = if q = p then { s.poll.schedule.get p with settle := mark } else s.poll.schedule.get q := fun q =>
    PerPolled.get_set _ _ _ _
  refine ⟨(writeSettle_frame p mark s).mono _ (by decide), rfl, fun q => ?_, fun q => ?_, rfl, rfl, rfl⟩ <;>
  · rw [hget]
    split
    · next h => rw [h]
    · rfl

theorem arrive_lands (src : Source) (v : Values) (unsettled : Bool) (consumes : Option Polled) (s : State) :
    Lands s (arrive src v unsettled consumes s) ∧ (arrive src v unsettled consumes s).poll.coming = s.poll.coming := by
  have hjoined : ∀ fifo, Lands s { s with intake := { s.intake with fifo := fifo } } := fun fifo =>
    ⟨by intro b hb; cases b <;> first | rfl | exact absurd (by decide) hb, rfl, fun _ => rfl, fun _ => rfl, rfl, rfl, rfl⟩
  unfold arrive
  split
  · cases consumes with
    | none => exact ⟨hjoined _, rfl⟩
    | some p => exact ⟨(hjoined _).trans (writeSettle_lands p false _), rfl⟩
  · exact ⟨⟨(setGap_frame src s).mono _ (by decide), rfl, fun _ => rfl, fun _ => rfl, rfl, rfl, rfl⟩, rfl⟩

theorem arrivePolled_lands (p : Polled) (v : Values) (afterMark : Bool) (s : State) :
    Lands s (arrivePolled p v afterMark s) ∧ (arrivePolled p v afterMark s).poll.coming = s.poll.coming := by
  unfold arrivePolled
  split <;> exact arrive_lands _ _ _ _ s

theorem landOne_lands (c : Coming) (s : State) : Lands s (landOne c s) ∧ (landOne c s).poll.coming = s.poll.coming := by
  unfold landOne
  split
  · exact ⟨.refl s, rfl⟩
  · exact arrivePolled_lands _ _ _ s
  · exact arrive_lands _ _ _ _ s

theorem landAll_lands (coming : List Coming) (s : State) :
    Lands s (landAll coming s) ∧ (landAll coming s).poll.coming = s.poll.coming := by
  unfold landAll
  induction coming generalizing s with
  | nil => exact ⟨.refl s, rfl⟩
  | cons c rest ih =>
    obtain ⟨hfirst, hkept⟩ := landOne_lands c s
    obtain ⟨hrest, hsame⟩ := ih (landOne c s)
    exact ⟨hfirst.trans hrest, hsame.trans hkept⟩

/-! ## Samples in a row (R2, R6) -/

/-- A sample takes no other source's settle mark. -/
theorem State.Receives.mark_kept {arrivals : List Sample} {s t : State} (h : s.Receives arrivals t) {p : Polled}
    (hother : ∀ r ∈ arrivals, r.source ≠ p.source) : t.settleMark p = s.settleMark p := by
  obtain ⟨-, -, hmarks⟩ := h
  rw [hmarks, List.any_eq_false.2 fun r hr => by simp [hother r (List.mem_of_mem_take hr)]]
  simp

theorem landing_source {s : State} {c : Coming} {r : Sample} (h : s.landing c = some r) : r.source = c.source := by
  obtain ⟨v, -, rfl⟩ := Option.map_eq_some_iff.1 h
  rfl

theorem landing_congr {s t : State} {c : Coming} (htick : t.tick = s.tick)
    (hmark : ∀ p : Polled, p.source = c.source → t.settleMark p = s.settleMark p) : t.landing c = s.landing c := by
  unfold State.landing
  rw [htick]
  cases hpolled : polledOf c.source with
  | none => rfl
  | some p => dsimp only; rw [hmark p (source_of_polledOf hpolled)]

/-- Samples of distinct sources on their way arrive as their landings at the start. -/
theorem landAll_receives {coming : List Coming} {s : State} (h : (coming.map Coming.source).Nodup) :
    s.Receives (coming.filterMap s.landing) (landAll coming s) := by
  unfold landAll
  induction coming generalizing s with
  | nil => exact .refl s
  | cons c rest ih =>
    obtain ⟨hnew, hrest⟩ := List.nodup_cons.1 h
    have hfirst := landOne_receives c s
    have hlandings : rest.filterMap (landOne c s).landing = rest.filterMap s.landing :=
      filterMap_eq_of_mem fun d hd => landing_congr (landOne_lands c s).1.tick fun p hp =>
        hfirst.mark_kept fun r hr hsource => by
          have hr' : r.source = c.source := landing_source (Option.mem_toList.1 hr)
          exact hnew (hr'.symm.trans (hsource.trans hp) ▸ List.mem_map_of_mem hd)
    have hall := hfirst.trans (hlandings ▸ ih hrest)
    have hsplit : (c :: rest).filterMap s.landing = (s.landing c).toList ++ rest.filterMap s.landing := by
      rw [List.filterMap_cons]
      cases s.landing c <;> rfl
    rw [hsplit]
    exact hall

/-! ## A sample that takes its turn (notes/assumptions/13) -/

/-- From every state with this tick and this source's settle mark, `bring` brings one sample `own` of the source. -/
def Brings (s : State) (src : Source) (own : Sample) (bring : State → State) : Prop :=
  own.source = src ∧ ∀ u, u.tick = s.tick → (∀ p : Polled, p.source = src → u.settleMark p = s.settleMark p) →
    u.Receives [own] (bring u) ∧ Lands u (bring u) ∧ (bring u).poll.coming = u.poll.coming

theorem arrivePolled_brings (p : Polled) (v : Values) (afterMark : Bool) (s : State) :
    Brings s p.source { source := p.source, timestamp := s.tick, unsettled := s.settleMark p && afterMark, values := v }
      (arrivePolled p v afterMark) := by
  refine ⟨rfl, fun u htick hmark => ⟨?_, arrivePolled_lands p v afterMark u⟩⟩
  rw [← htick, ← hmark p rfl]
  exact arrivePolled_receives p v afterMark u

theorem arriveMarked_brings (p : Polled) (v : Values) (s : State) :
    Brings s p.source { source := p.source, timestamp := s.tick, unsettled := true, values := v }
      (arrive p.source v true (some p)) := by
  refine ⟨rfl, fun u htick _ => ⟨?_, arrive_lands _ _ _ _ u⟩⟩
  rw [← htick]
  exact arrive_marked_receives p v u

theorem keptFor_iff (src : Source) (c : Coming) : c.keptFor src = true ↔ c.source = src ∧ c.values = none := by
  simp [Coming.keptFor]

/-- With no place kept the sample arrives by itself. -/
theorem arriveInTurn_of_free {src : Source} {bring : State → State} {s : State}
    (h : ∀ c ∈ s.poll.coming, c.source = src → c.values ≠ none) : arriveInTurn src bring s = bring s := by
  have hdrop : s.poll.coming.dropWhile (fun c => !c.keptFor src) = [] := dropWhile_eq_nil_of_all fun c hc => by
    rw [Bool.not_eq_true', Bool.eq_false_iff, Ne, keptFor_iff]
    exact fun hkept => h c hc hkept.1 hkept.2
  unfold arriveInTurn
  rw [hdrop]

/-- The place kept for a source splits the order of arrival. -/
theorem arriveInTurn_of_place {src : Source} {bring : State → State} {s : State} {ahead behind : List Coming} {place : Coming}
    (hcoming : s.poll.coming = ahead ++ place :: behind) (hsource : place.source = src) (hvalues : place.values = none)
    (honce : s.ComingOnce) :
    arriveInTurn src bring s = landReady (bring (landAll ahead (writeComing behind s))) := by
  unfold State.ComingOnce at honce
  rw [hcoming, List.map_append, List.map_cons, List.nodup_append] at honce
  obtain ⟨-, -, hdisjoint⟩ := honce
  have hahead : ∀ c ∈ ahead, (!c.keptFor src) = true := fun c hc => by
    rw [Bool.not_eq_true', Bool.eq_false_iff, Ne, keptFor_iff]
    exact fun hkept => hdisjoint c.source (List.mem_map_of_mem hc) place.source List.mem_cons_self
      (hkept.1.trans hsource.symm)
  have hplace : ¬ (!place.keptFor src) = true := by
    rw [(keptFor_iff src place).2 ⟨hsource, hvalues⟩]
    decide
  have hdrop : s.poll.coming.dropWhile (fun c => !c.keptFor src) = place :: behind := by
    rw [hcoming, List.dropWhile_append_of_pos hahead, List.dropWhile_cons_of_neg (p := fun c => !Coming.keptFor src c) hplace]
  have htake : s.poll.coming.takeWhile (fun c => !c.keptFor src) = ahead := by
    rw [hcoming, List.takeWhile_append_of_pos hahead, List.takeWhile_cons_of_neg (p := fun c => !Coming.keptFor src c) hplace, List.append_nil]
  unfold arriveInTurn
  rw [hdrop, htake]

theorem Lands.landReady (s : State) : Lands s (landReady s) :=
  (writeComing_lands _ s).trans (landAll_lands _ _).1

theorem arriveInTurn_lands {src : Source} {bring : State → State} {s : State}
    (hlands : ∀ u, Lands u (bring u)) : Lands s (arriveInTurn src bring s) := by
  unfold arriveInTurn
  split
  · exact hlands s
  · exact (((writeComing_lands _ s).trans (landAll_lands _ _).1).trans (hlands _)).trans (.landReady _)

/-- From `s` to `t` the sample `own` takes its turn: without a place kept for its source it arrives at once; in a place kept,
what stands ahead arrives before and what follows, up to the next place kept, after (R2). -/
def State.TakesTurn (src : Source) (own : Sample) (s t : State) : Prop :=
  ((∀ c ∈ s.poll.coming, c.source = src → c.values ≠ none) → t.poll.coming = s.poll.coming ∧ s.Receives [own] t)
    ∧ (∀ ahead place behind,
        s.poll.coming = ahead ++ place :: behind → place.source = src → place.values = none → s.ComingOnce →
        t.poll.coming = behind.dropWhile (fun c => c.values.isSome)
          ∧ s.Receives
              (ahead.filterMap s.landing ++ own :: (behind.takeWhile (fun c => c.values.isSome)).filterMap s.landing) t)

theorem arriveInTurn_takesTurn {src : Source} {own : Sample} {bring : State → State} {s : State} (h : Brings s src own bring) :
    s.TakesTurn src own (arriveInTurn src bring s) := by
  obtain ⟨hown, hbring⟩ := h
  refine ⟨fun hfree => ?_, fun ahead place behind hcoming hsource hvalues honce => ?_⟩
  · rw [arriveInTurn_of_free hfree]
    obtain ⟨hreceives, -, hkept⟩ := hbring s rfl fun _ _ => rfl
    exact ⟨hkept, hreceives⟩
  · rw [arriveInTurn_of_place hcoming hsource hvalues honce]
    unfold State.ComingOnce at honce
    rw [hcoming, List.map_append, List.map_cons, List.nodup_append] at honce
    obtain ⟨hahead, hplaced, hdisjoint⟩ := honce
    obtain ⟨hnotBehind, hbehind⟩ := List.nodup_cons.1 hplaced
    -- the samples ahead
    have hlanded : s.Receives (ahead.filterMap s.landing) (landAll ahead (writeComing behind s)) :=
      landAll_receives (s := writeComing behind s) hahead
    obtain ⟨hbefore, hcomingBefore⟩ := landAll_lands ahead (writeComing behind s)
    have htickBefore : (landAll ahead (writeComing behind s)).tick = s.tick := hbefore.tick
    generalize landAll ahead (writeComing behind s) = u at hlanded hbefore hcomingBefore htickBefore ⊢
    have hsources : ∀ r ∈ ahead.filterMap s.landing, ∃ c ∈ ahead, r.source = c.source := fun r hr => by
      obtain ⟨c, hc, hr'⟩ := List.mem_filterMap.1 hr
      exact ⟨c, hc, landing_source hr'⟩
    -- the source's own sample
    obtain ⟨hreceives, hlands, hcomingOwn⟩ := hbring u htickBefore fun p hp => hlanded.mark_kept fun r hr hsame => by
      obtain ⟨c, hc, hr'⟩ := hsources r hr
      exact hdisjoint c.source (List.mem_map_of_mem hc) place.source List.mem_cons_self
        (hr'.symm.trans (hsame.trans (hp.trans hsource.symm)))
    have hboth := hlanded.trans hreceives
    have htick : (bring u).tick = s.tick := hlands.tick.trans htickBefore
    have hcomingNow : (bring u).poll.coming = behind := hcomingOwn.trans hcomingBefore
    generalize bring u = v at hboth htick hcomingNow ⊢
    -- the samples behind
    have hready : landReady v = landAll (behind.takeWhile (fun c => c.values.isSome))
        (writeComing (behind.dropWhile (fun c => c.values.isSome)) v) := by
      unfold landReady; rw [hcomingNow]
    have hnext : ((behind.takeWhile (fun c => c.values.isSome)).map Coming.source).Nodup :=
      hbehind.sublist ((List.takeWhile_sublist _).map _)
    have hafter : v.Receives ((behind.takeWhile (fun c => c.values.isSome)).filterMap v.landing) (landReady v) := by
      rw [hready]
      exact landAll_receives (s := writeComing (behind.dropWhile (fun c => c.values.isSome)) v) hnext
    have hlandings : (behind.takeWhile (fun c => c.values.isSome)).filterMap v.landing
        = (behind.takeWhile (fun c => c.values.isSome)).filterMap s.landing :=
      filterMap_eq_of_mem fun d hd => landing_congr htick fun p hp => hboth.mark_kept fun r hr hsame => by
        have hd' : d ∈ behind := (List.takeWhile_sublist _).subset hd
        rcases List.mem_append.1 hr with hr | hr
        · obtain ⟨c, hc, hr'⟩ := hsources r hr
          exact hdisjoint c.source (List.mem_map_of_mem hc) d.source (List.mem_cons_of_mem _ (List.mem_map_of_mem hd'))
            (hr'.symm.trans (hsame.trans hp))
        · obtain rfl := List.mem_singleton.1 hr
          exact hnotBehind (hsource.trans (hown.symm.trans (hsame.trans hp)) ▸ List.mem_map_of_mem hd')
    rw [hlandings] at hafter
    refine ⟨?_, ?_⟩
    · rw [hready]
      exact (landAll_lands _ _).2
    · have hall := hboth.trans hafter
      rw [List.append_assoc, List.singleton_append] at hall
      exact hall

end Sys2Proof.Machine
end

section
/-! The ends of a Sensor Bus poll: success with its sample in its turn, and failures that add up (R11, R12, R14). -/

namespace Sys2Proof.Machine

set_option Elab.async false

/-! ## The mount transform (R14) -/

theorem negateValue_eq (v : Value) :
    negateValue v = if v.toInt = -32768 then 32767 else BitVec.ofInt 16 (-v.toInt) := by
  have hleast : v = 0x8000 ↔ v.toInt = -32768 := BitVec.toInt_inj.symm
  unfold negateValue
  by_cases h : v = 0x8000
  · rw [if_pos h, if_pos (hleast.1 h)]
  · rw [if_neg h, if_neg fun hint => h (hleast.2 hint), BitVec.ofInt_neg, BitVec.ofInt_toInt]

/-- A sign bit of the code negates its output, saturating. -/
theorem signed_eq {p q : Prop} [Decidable p] [Decidable q] (h : p ↔ ¬ q) (v : Value) :
    (if p then negateValue v else v) = if q then v else if v.toInt = -32768 then 32767 else BitVec.ofInt 16 (-v.toInt) := by
  by_cases hq : q
  · rw [if_neg fun hp => h.1 hp hq, if_pos hq]
  · rw [if_pos (h.2 hq), if_neg hq, negateValue_eq]

/-! ## Success (R11, R12) -/

theorem renewNext_get (p q : Polled) (s : State) :
    (renewNext p s).poll.schedule.get q
      = if q = p then { s.poll.schedule.get p with next := nextPoll (s.period p) s.tick } else s.poll.schedule.get q :=
  PerPolled.get_set _ _ _ _

theorem renewNext_settleMark (p q : Polled) (s : State) : (renewNext p s).settleMark q = s.settleMark q := by
  unfold State.settleMark
  rw [renewNext_get]
  split
  · next h => rw [h]
  · rfl

/-- What arrives is judged by Intake and the settle marks alone. -/
theorem State.Receives.of_same {arrivals : List Sample} {s t u : State} (h : s.Receives arrivals t)
    (hintake : u.intake = t.intake) (hmark : ∀ p, u.settleMark p = t.settleMark p) : s.Receives arrivals u := by
  obtain ⟨hfifo, hgaps, hmarks⟩ := h
  exact ⟨by rw [hintake]; exact hfifo, by rw [hintake]; exact hgaps, fun p => (hmark p).trans (hmarks p)⟩

theorem busFailed_polled (b : Bus) (s : State) : s.busFailed b.polled = decide ((s.poll.health.get b).health = .failed) := by
  cases b <;> rfl

/-- The period of a source whose bus is not FAILED is that of its cadence. -/
theorem period_of_ok {b : Bus} {s : State} (h : (s.poll.health.get b).health = .ok) :
    s.period b.polled = cadencePeriod (s.poll.schedule.get b.polled).code := by
  unfold State.period
  rw [busFailed_polled, h]
  dsimp only
  split
  · next hoff => rw [hoff]; rfl
  · rfl

/-- The bus freed and the source noted OK. -/
def concludePoll (b : Bus) (s : State) : State := writeHealth b { health := .ok, failures := 0 } (freeBus s)

theorem polled_source (b : Bus) : b.polled.source = b.source := by cases b <;> rfl

/-- The sample of a poll that recovers a FAILED source is UNSETTLED. -/
def bringRecovered (b : Bus) (values : Values) : State → State := arrive b.source values true (some b.polled)

theorem succeedPoll_of_ok {poll : BusPoll} {s : State} (reading : SensorReading)
    (h : (s.poll.health.get poll.source).health ≠ .failed) :
    succeedPoll poll reading s
      = arriveInTurn poll.source.source
          (arrivePolled poll.source.polled (busValues s poll.source reading) poll.afterMark) (concludePoll poll.source s) :=
  if_neg h

theorem succeedPoll_of_failed {poll : BusPoll} {s : State} (reading : SensorReading)
    (h : (s.poll.health.get poll.source).health = .failed) :
    succeedPoll poll reading s
      = renewNext poll.source.polled (arriveInTurn poll.source.source (bringRecovered poll.source (busValues s poll.source reading))
          (raise (.source [(poll.source, .ok)]) (concludePoll poll.source s))) :=
  if_pos h

/-- What a successful poll leaves beside events and schedule, whichever way its sample comes. -/
structure Concluded (b : Bus) (own : Sample) (s t : State) : Prop where
  onBus : t.poll.onBus = none
  waiting : t.poll.waiting = s.poll.waiting
  health : t.poll.health = s.poll.health.set b { health := .ok, failures := 0 }
  turn : s.TakesTurn b.source own t

theorem Lands.concludes {b : Bus} {own : Sample} {s u t : State} (h : Lands u t) (honBus : u.poll.onBus = none)
    (hwaiting : u.poll.waiting = s.poll.waiting) (hhealth : u.poll.health = s.poll.health.set b { health := .ok, failures := 0 })
    (hturn : s.TakesTurn b.source own t) : Concluded b own s t where
  onBus := h.onBus.trans honBus
  waiting := h.waiting.trans hwaiting
  health := h.health.trans hhealth
  turn := hturn

/-- The sample of a source that was not FAILED. -/
theorem succeedPoll_concludes_of_ok {poll : BusPoll} {s : State} (reading : SensorReading)
    (h : (s.poll.health.get poll.source).health ≠ .failed) :
    Concluded poll.source
        { source := poll.source.source, timestamp := s.tick, unsettled := s.settleMark poll.source.polled && poll.afterMark
          values := busValues s poll.source reading } s (succeedPoll poll reading s)
      ∧ (succeedPoll poll reading s).host.events = s.host.events
      ∧ (∀ p, ((succeedPoll poll reading s).poll.schedule.get p).next = (s.poll.schedule.get p).next) := by
  rw [succeedPoll_of_ok reading h]
  have hbrings := arrivePolled_brings poll.source.polled (busValues s poll.source reading) poll.afterMark (concludePoll poll.source s)
  rw [polled_source] at hbrings
  have hlands := arriveInTurn_lands (src := poll.source.source) (s := concludePoll poll.source s)
    (fun u => (arrivePolled_lands poll.source.polled (busValues s poll.source reading) poll.afterMark u).1)
  exact ⟨hlands.concludes rfl rfl rfl (arriveInTurn_takesTurn hbrings), hlands.frame .events (by decide), hlands.next⟩

theorem State.TakesTurn.of_same {src : Source} {own : Sample} {s t u : State} (h : s.TakesTurn src own t)
    (hcoming : u.poll.coming = t.poll.coming) (hintake : u.intake = t.intake) (hmark : ∀ p, u.settleMark p = t.settleMark p) :
    s.TakesTurn src own u := by
  obtain ⟨hfree, hplaced⟩ := h
  refine ⟨fun hno => ?_, fun ahead place behind hcut hsource hvalues honce => ?_⟩
  · obtain ⟨hkept, hreceives⟩ := hfree hno
    exact ⟨hcoming.trans hkept, hreceives.of_same hintake hmark⟩
  · obtain ⟨hrest, hreceives⟩ := hplaced ahead place behind hcut hsource hvalues honce
    exact ⟨hcoming.trans hrest, hreceives.of_same hintake hmark⟩

/-- The sample by which a FAILED source recovers (R12). -/
theorem succeedPoll_concludes_of_failed {poll : BusPoll} {s : State} (reading : SensorReading)
    (h : (s.poll.health.get poll.source).health = .failed) :
    Concluded poll.source
        { source := poll.source.source, timestamp := s.tick, unsettled := true, values := busValues s poll.source reading } s
        (succeedPoll poll reading s)
      ∧ (succeedPoll poll reading s).host.events = addEvent s.host.events (.source [(poll.source, .ok)])
      ∧ ((succeedPoll poll reading s).poll.schedule.get poll.source.polled).next
          = nextPoll (cadencePeriod (s.poll.schedule.get poll.source.polled).code) s.tick := by
  rw [succeedPoll_of_failed reading h]
  let raised := raise (.source [(poll.source, .ok)]) (concludePoll poll.source s)
  have hbrings := arriveMarked_brings poll.source.polled (busValues s poll.source reading) raised
  rw [polled_source] at hbrings
  have hlands := arriveInTurn_lands (src := poll.source.source) (s := raised)
    (fun u => (arrive_lands poll.source.source (busValues s poll.source reading) true (some poll.source.polled) u).1)
  have hturn := arriveInTurn_takesTurn hbrings
  generalize hu : arriveInTurn poll.source.source (bringRecovered poll.source (busValues s poll.source reading)) raised = u
  rw [show arrive poll.source.source (busValues s poll.source reading) true (some poll.source.polled)
      = bringRecovered poll.source (busValues s poll.source reading) from rfl, hu] at hlands hturn
  have hok : (u.poll.health.get poll.source).health = .ok := by
    rw [hlands.health]
    show ((s.poll.health.set poll.source { health := .ok, failures := 0 }).get poll.source).health = .ok
    rw [PerBus.get_set, if_pos rfl]
  have hconcluded : Concluded poll.source
      { source := poll.source.source, timestamp := s.tick, unsettled := true, values := busValues s poll.source reading } s u :=
    hlands.concludes rfl rfl rfl hturn
  refine ⟨⟨hconcluded.onBus, hconcluded.waiting, hconcluded.health,
    hconcluded.turn.of_same rfl rfl fun p => renewNext_settleMark _ p u⟩, hlands.frame .events (by decide), ?_⟩
  rw [renewNext_get, if_pos rfl, period_of_ok hok, hlands.code, hlands.tick]
  rfl

/-- A successful poll in the terms of the state before, its sample's mark and values named. -/
theorem succeedPoll_does {p : BusPoll} {s : State} {reading : SensorReading} {failed marked : Bool} {values : Values}
    (hfailed : failed = decide ((s.poll.health.get p.source).health = .failed))
    (hmarked : marked = (failed || (s.settleMark p.source.polled && p.afterMark)))
    (hvalues : values = busValues s p.source reading) :
    Concluded p.source { source := p.source.source, timestamp := s.tick, unsettled := marked, values := values } s
        (succeedPoll p reading s)
      ∧ (failed = false → (succeedPoll p reading s).host.events = s.host.events
          ∧ ((succeedPoll p reading s).poll.schedule.get p.source.polled).next = (s.poll.schedule.get p.source.polled).next)
      ∧ (failed = true → (succeedPoll p reading s).host.events = addEvent s.host.events (.source [(p.source, .ok)])
          ∧ ((succeedPoll p reading s).poll.schedule.get p.source.polled).next
              = nextPoll (cadencePeriod (s.poll.schedule.get p.source.polled).code) s.tick) := by
  subst hvalues hmarked
  by_cases h : (s.poll.health.get p.source).health = .failed
  · obtain rfl : failed = true := hfailed.trans (decide_eq_true h)
    obtain ⟨hdone, hevents, hnext⟩ := succeedPoll_concludes_of_failed reading h
    exact ⟨hdone, fun hno => absurd hno (by decide), fun _ => ⟨hevents, hnext⟩⟩
  · obtain rfl : failed = false := hfailed.trans (decide_eq_false h)
    obtain ⟨hdone, hevents, hnext⟩ := succeedPoll_concludes_of_ok reading h
    exact ⟨hdone, fun _ => ⟨hevents, hnext _⟩, fun hno => absurd hno (by decide)⟩

/-- The same as the statement spells it, the attention line settled. -/
theorem succeedPoll_leaves {p : BusPoll} {s : State} {reading : SensorReading} {failed marked : Bool} {values : Values}
    (hfailed : failed = decide ((s.poll.health.get p.source).health = .failed))
    (hmarked : marked = (failed || (s.settleMark p.source.polled && p.afterMark)))
    (hvalues : values = busValues s p.source reading) :
    let t := settleAttention s (succeedPoll p reading s)
    let own : Sample := { source := p.source.source, timestamp := s.tick, unsettled := marked, values := values }
    t.poll.onBus = none ∧ t.poll.waiting = s.poll.waiting
      ∧ t.poll.health = s.poll.health.set p.source { health := .ok, failures := 0 }
      ∧ (¬ (∃ c ∈ s.poll.coming, c.source = p.source.source ∧ c.values = none) →
          t.poll.coming = s.poll.coming ∧ s.Receives [own] t)
      ∧ (∀ ahead place behind,
          s.poll.coming = ahead ++ place :: behind → place.source = p.source.source → place.values = none → s.ComingOnce →
          t.poll.coming = behind.dropWhile (fun c => c.values.isSome)
            ∧ s.Receives
                (ahead.filterMap s.landing ++ own :: (behind.takeWhile (fun c => c.values.isSome)).filterMap s.landing) t)
      ∧ (failed = false → t.host.events = s.host.events
          ∧ (t.poll.schedule.get p.source.polled).next = (s.poll.schedule.get p.source.polled).next)
      ∧ (failed = true → t.host.events = addEvent s.host.events (.source [(p.source, .ok)])
          ∧ (t.poll.schedule.get p.source.polled).next
              = nextPoll (cadencePeriod (s.poll.schedule.get p.source.polled).code) s.tick)
      ∧ SameBut [.poll, .fifo, .gaps, .events, .pulse] s t := by
  obtain ⟨⟨honBus, hwaiting, hhealth, hfree, hplaced⟩, hok, hrecovers⟩ := succeedPoll_does hfailed hmarked hvalues
  exact ⟨honBus, hwaiting, hhealth, fun hno => hfree fun c hc hsource hnone => hno ⟨c, hc, hsource, hnone⟩, hplaced, hok, hrecovers,
    SameBut.settled s (succeedPoll_frame p reading s)⟩

/-- Settles O12: the transform by its sign bits, and a poll's end by the sample that takes its turn. -/
theorem pollSuccessDeliversItsSample : Obligations.PollSuccessDeliversItsSample := by
  refine ⟨fun code x y z _ => ?_, fun s p reading hbus => ⟨_, exec_eq _ s, ?_⟩⟩
  · unfold mountTransform
    dsimp only
    rw [signed_eq (q := code / 1 % 2 = 0) (by omega), signed_eq (q := code / 2 % 2 = 0) (by omega),
      signed_eq (q := code / 4 % 2 = 0) (by omega)]
    rfl
  · have heffect : effect (.pollSuccess reading) s = succeedPoll p reading s := by
      show onPoll _ s = _
      unfold onPoll
      rw [hbus]
    rw [heffect]
    exact succeedPoll_leaves rfl rfl (by cases p.source <;> rfl)

/-! ## Failure (R11) -/

/-- The bus freed and the source's gap marked. -/
def abandonPoll (b : Bus) (s : State) : State := setGap b.source (freeBus s)

theorem failPoll_of_failed {b : Bus} {s : State} (h : (s.poll.health.get b).health = .failed) :
    failPoll b s = abandonPoll b s := if_pos h

theorem failPoll_of_few {b : Bus} {s : State} (h : (s.poll.health.get b).health = .ok) (hfew : (s.poll.health.get b).failures < 2) :
    failPoll b s = writeHealth b { s.poll.health.get b with failures := (s.poll.health.get b).failures + 1 } (abandonPoll b s) := by
  have hok : ¬ (s.poll.health.get b).health = .failed := by rw [h]; decide
  exact (if_neg hok).trans (if_pos (Nat.add_lt_add_right hfew 1))

theorem failPoll_of_third {b : Bus} {s : State} (h : (s.poll.health.get b).health = .ok) (hthird : (s.poll.health.get b).failures = 2) :
    failPoll b s = enterFailed b (abandonPoll b s) := by
  have hok : ¬ (s.poll.health.get b).health = .failed := by rw [h]; decide
  have hlast : ¬ (s.poll.health.get b).failures + 1 < 3 := by omega
  exact (if_neg hok).trans (if_neg hlast)

/-- A source turned FAILED is polled every 1024 ticks, unless it is off. -/
theorem enterFailed_next (b : Bus) (s : State) :
    ((enterFailed b s).poll.schedule.get b.polled).next
      = nextPoll (if (s.poll.schedule.get b.polled).code = 0 then 0 else 1024) s.tick := by
  let noted : State := raise (.source [(b, .failed)]) (writeHealth b { health := .failed, failures := 3 } s)
  have hfailed : noted.busFailed b.polled = true := by
    rw [busFailed_polled, decide_eq_true_eq]
    show ((s.poll.health.set b { health := .failed, failures := 3 }).get b).health = .failed
    rw [PerBus.get_set, if_pos rfl]
  have hperiod : noted.period b.polled = if (s.poll.schedule.get b.polled).code = 0 then 0 else 1024 := by
    unfold State.period
    rw [hfailed]
    rfl
  show ((renewNext b.polled noted).poll.schedule.get b.polled).next = _
  rw [renewNext_get, if_pos rfl, hperiod]
  rfl

/-- What the failure of a poll leaves: a FAILED source as it is, a failure more, or the source FAILED. -/
theorem failPoll_does (b : Bus) (s : State) :
    (failPoll b s).poll.onBus = none ∧ (failPoll b s).intake.gaps = s.intake.gaps.set b.source true
      ∧ ((s.poll.health.get b).health = .failed → (failPoll b s).poll.health = s.poll.health
          ∧ (failPoll b s).poll.waiting = s.poll.waiting ∧ (failPoll b s).host.events = s.host.events)
      ∧ ((s.poll.health.get b).health = .ok → (s.poll.health.get b).failures < 2 →
          (failPoll b s).poll.health = s.poll.health.set b { health := .ok, failures := (s.poll.health.get b).failures + 1 }
            ∧ (failPoll b s).poll.waiting = s.poll.waiting ∧ (failPoll b s).host.events = s.host.events)
      ∧ ((s.poll.health.get b).health = .ok → (s.poll.health.get b).failures = 2 →
          (failPoll b s).poll.health = s.poll.health.set b { health := .failed, failures := 3 }
            ∧ (failPoll b s).poll.waiting = s.poll.waiting.filter (fun w => w.source ≠ b)
            ∧ (failPoll b s).host.events = addEvent s.host.events (.source [(b, .failed)])
            ∧ ((failPoll b s).poll.schedule.get b.polled).next
                = nextPoll (if (s.poll.schedule.get b.polled).code = 0 then 0 else 1024) s.tick) := by
  refine ⟨?_, ?_, fun h => ?_, fun h hfew => ?_, fun h hthird => ?_⟩
  · unfold failPoll
    dsimp only
    split
    · rfl
    · split <;> rfl
  · unfold failPoll
    dsimp only
    split
    · rfl
    · split <;> rfl
  · rw [failPoll_of_failed h]
    exact ⟨rfl, rfl, rfl⟩
  · rw [failPoll_of_few h hfew, ← h]
    exact ⟨rfl, rfl, rfl⟩
  · rw [failPoll_of_third h hthird]
    exact ⟨rfl, rfl, rfl, enterFailed_next b (abandonPoll b s)⟩

/-- Settles O13: both commands end the poll on the bus as a failure. -/
theorem pollFailuresLeadToFailed : Obligations.PollFailuresLeadToFailed := by
  intro s p c hbus hcommand
  refine ⟨_, exec_eq _ s, ?_⟩
  have heffect : effect c s = failPoll p.source s := by
    obtain rfl | ⟨rfl, hlate⟩ := hcommand
    · show onPoll _ s = _
      unfold onPoll
      rw [hbus]
    · show onPoll _ s = _
      unfold onPoll
      rw [hbus]
      exact if_pos hlate
  rw [heffect]
  obtain ⟨honBus, hgaps, hfailed, hfew, hthird⟩ := failPoll_does p.source s
  exact ⟨honBus, hgaps, hfailed, hfew, hthird, SameBut.settled s (failPoll_frame p.source s)⟩

end Sys2Proof.Machine
end

section
/-! Accepted messages of channels 0 to 2: the state in which a message is taken (`acceptTurn`), and the key reports. -/

namespace Sys2Proof.Machine

set_option Elab.async false

/-! ## An accepted message, and a duplicate (R93) -/

/-- The exchange counted good, its toggle turned. -/
def acceptTurn (c : Cycle) (s : State) : State := goodExchange (flipToggle c.channel (beginTurn c s))

theorem acceptTurn_frame (c : Cycle) (s : State) : SameBut [.dockLink] s (acceptTurn c s) := by
  intro b hb
  cases b <;> first | rfl | exact absurd (by decide) hb

/-- The effect of an accepted message. -/
theorem effect_accepted {s : State} {c : Cycle} {frame : List Byte} {toggle : Bool} {m : InMessage} (hcycle : s.dock.cycle = some c)
    (hkept : c.discarded = false) (hchannel : c.channel ≠ .output) (hjudged : judgeReply c.channel frame = .data toggle m)
    (htoggle : toggle = s.dock.toggles.get c.channel) :
    effect (.dockReply frame) s
      = goOn c (sendFrame (ackFrame c.channel toggle) (takeMessage c.afterMark m (acceptTurn c s))) := by
  have hturn : judgeTurn c (.data toggle m) (beginTurn c s)
      = sendFrame (ackFrame c.channel toggle) (takeMessage c.afterMark m (acceptTurn c s)) :=
    (if_neg hchannel).trans (if_pos htoggle)
  rw [effect_reply frame hcycle hkept, hjudged, hturn]

/-- The effect of a duplicate: acknowledged and dropped. -/
theorem effect_duplicate {s : State} {c : Cycle} {frame : List Byte} {toggle : Bool} {m : InMessage} (hcycle : s.dock.cycle = some c)
    (hkept : c.discarded = false) (hchannel : c.channel ≠ .output) (hjudged : judgeReply c.channel frame = .data toggle m)
    (htoggle : toggle ≠ s.dock.toggles.get c.channel) :
    effect (.dockReply frame) s = goOn c (sendFrame (ackFrame c.channel toggle) (goodExchange (beginTurn c s))) := by
  have hturn : judgeTurn c (.data toggle m) (beginTurn c s)
      = sendFrame (ackFrame c.channel toggle) (goodExchange (beginTurn c s)) :=
    (if_neg hchannel).trans (if_neg htoggle)
  rw [effect_reply frame hcycle hkept, hjudged, hturn]

/-- The acknowledgement goes out first. -/
theorem GoesOn.sent_first {channels : List Channel} {f : List Byte} {s t : State} (h : GoesOn channels (sendFrame f s) t)
    (hsent : s.dock.sent = []) : t.dock.sent.head? = some f := by
  obtain ⟨more, hmore⟩ := h.sent
  rw [hmore]
  show ((s.dock.sent ++ [f]) ++ more).head? = _
  rw [hsent]
  rfl

/-- What a duplicate leaves. -/
theorem duplicate_leaves {s t : State} {c : Cycle} {f : List Byte} (h : GoesOn c.rest (sendFrame f (goodExchange (beginTurn c s))) t) :
    t.dock.silence = 0 ∧ t.dock.sent.head? = some f ∧ t.dock.toggles = s.dock.toggles
      ∧ t.dock.motionNext = (beginTurn c s).dock.motionNext ∧ SameBut [.dockLink, .pulse] s (settleAttention s t) :=
  ⟨h.silence, h.sent_first rfl, h.toggles, h.motionNext, h.frame_from⟩

/-- An accepted message whose operation leaves the Dock Link's counts, toggles and frames. -/
theorem accepted_leaves {s w t : State} {c : Cycle} {f : List Byte} (h : GoesOn c.rest (sendFrame f w) t)
    (htaken : Steady (acceptTurn c s) w) :
    t.dock.silence = 0 ∧ t.dock.sent.head? = some f
      ∧ t.dock.toggles = s.dock.toggles.set c.channel (!s.dock.toggles.get c.channel) :=
  ⟨h.silence.trans htaken.silence, h.sent_first htaken.sent, h.toggles.trans htaken.toggles⟩

/-- After an accepted message the cycle goes on, the Dock Link alone written. -/
theorem GoesOn.after {channels : List Channel} {f : List Byte} {s w t : State} {l m : List Block}
    (h : GoesOn channels (sendFrame f w) t) (hw : SameBut l s w) (sub : ∀ b ∈ l, b ∈ m := by decide)
    (link : ∀ b ∈ [Block.dockLink, .pulse], b ∈ m := by decide) : SameBut m s (settleAttention s t) :=
  ((hw.mono m sub).trans (((sendFrame_frame f w).trans h.frame).mono m (fun b hb => link b (by revert b; decide)))).settled s
    (fun b hb => hb) (fun b hb => link b (by revert b; decide))

/-! ## Wake causes -/

/-- A report with a wake cause in ASLEEP decides the cause. -/
theorem advisorTakes_of_asleep (changed activity : Bool) (cause : WakeCause) {s : State} (h : s.advisor.platform = .asleep) :
    advisorTakes changed activity (some cause) s
      = takeCause cause (if activity then { s with advisor := { s.advisor with lastActivity := s.tick } } else s) := by
  have hplatform : (if activity then { s with advisor := { s.advisor with lastActivity := s.tick } } else s).advisor.platform
      = .asleep := by split <;> exact h
  unfold advisorTakes
  dsimp only
  rw [hplatform]

theorem advisorTakes_decides (changed activity : Bool) (cause : WakeCause) {s : State} (h : s.advisor.platform = .asleep) :
    s.WakeDecided (advisorTakes changed activity (some cause) s) cause := by
  rw [advisorTakes_of_asleep changed activity cause h]
  cases activity
  · exact (takeCause_decides cause h).1
  · exact (takeCause_decides (s := { s with advisor := { s.advisor with lastActivity := s.tick } }) cause h).1

theorem State.WakeDecided.of_same {s t u : State} {cause : WakeCause} (h : s.WakeDecided t cause) (hadvisor : u.advisor = t.advisor)
    (hevents : u.host.events = t.host.events) : s.WakeDecided u cause := by
  unfold State.WakeDecided at h ⊢
  rw [hadvisor, hevents]
  exact h

/-! ## Key reports (R107, R108) -/

theorem takeKeys_of_attached {afterMark : Bool} {k : KeySet} {s : State} (h : s.dock.state = .attached) :
    takeMessage afterMark (.keys k) s = queueKeys k s := if_pos h

theorem takeKeys_of_settling {afterMark : Bool} {k : KeySet} {s : State} (h : s.dock.state = .settling) :
    takeMessage afterMark (.keys k) s = { s with dock := { s.dock with remembered := some k } } :=
  (if_neg (by rw [h]; decide)).trans (if_pos h)

/-- Whatever becomes of it, an accepted key report leaves the Dock Link. -/
theorem takeKeys_steady (afterMark : Bool) (k : KeySet) (s : State) : Steady s (takeMessage afterMark (.keys k) s) := by
  have hremember : Steady s { s with dock := { s.dock with remembered := some k } } :=
    .of_dock_write (by intro b hb; cases b <;> first | rfl | exact absurd (by decide) hb)
  show Steady s (if s.dock.state = .attached then queueKeys k s
    else if s.dock.state = .settling then { s with dock := { s.dock with remembered := some k } } else s)
  split
  · exact queueKeys_steady k s
  · split
    · exact hremember
    · exact .refl s

theorem queueKeys_wakes {k : KeySet} {s : State} (h : s.advisor.platform = .asleep) : s.WakeDecided (queueKeys k s) .keys :=
  advisorTakes_decides (s := joinKeys k s) false true .keys h

/-- Settles O32: the report accepted in ATTACHED, remembered in SETTLING, and the duplicate. -/
theorem keyReportsAreQueuedOnce : Obligations.KeyReportsAreQueuedOnce := by
  intro s c frame toggle k hcycle hkept hchannel hlinked hjudged
  refine ⟨_, exec_eq _ s, ?_⟩
  have hinward : c.channel ≠ .output := by rw [hchannel]; decide
  rw [← hchannel] at hjudged
  rw [← hchannel]
  by_cases htoggle : toggle = s.dock.toggles.get c.channel
  · rw [effect_accepted hcycle hkept hinward hjudged htoggle]
    have hon := goOn_goesOn c (sendFrame (ackFrame c.channel toggle) (takeMessage c.afterMark (.keys k) (acceptTurn c s)))
    have hsteady := takeKeys_steady c.afterMark k (acceptTurn c s)
    generalize hw : takeMessage c.afterMark (.keys k) (acceptTurn c s) = w at hon hsteady ⊢
    generalize ht : goOn c (sendFrame (ackFrame c.channel toggle) w) = t at hon ⊢
    obtain ⟨hsilence, hsent, htoggles⟩ := accepted_leaves hon hsteady
    have hkeys := dockKeys_of_frame ((sendFrame_frame (ackFrame c.channel toggle) w).trans hon.frame) (by decide)
    obtain ⟨hkeys, hpressed, hremembered⟩ := hkeys
    refine ⟨hsilence, hsent, fun _ => ?_, fun _ hattached => ?_, fun _ hsettling => ?_, fun hother => absurd htoggle hother⟩
    · rw [htoggle]; exact htoggles
    · rw [takeKeys_of_attached (s := acceptTurn c s) hattached] at hw
      obtain ⟨hqueued, hdown, hwaits, hactive, -⟩ := queueKeys_does k (acceptTurn c s)
      have hwakes := queueKeys_wakes (k := k) (s := acceptTurn c s)
      have hframe := ((acceptTurn_frame c s).mono [.dockKeys, .dockLink, .poll, .advisor, .events] (by decide)).trans
        ((queueKeys_frame k (acceptTurn c s)).mono _ (by decide))
      rw [hw] at hqueued hdown hwaits hactive hwakes hframe
      have hadvisor : t.advisor = w.advisor := hon.frame .advisor (by decide)
      exact ⟨hkeys.trans hqueued, hpressed.trans hdown, hremembered.trans hwaits,
        (congrArg AdvisorBlock.lastActivity hadvisor).trans hactive,
        fun hasleep => (hwakes hasleep).of_same hadvisor (hon.frame .events (by decide)), hon.after hframe⟩
    · rw [takeKeys_of_settling (s := acceptTurn c s) hsettling] at hw
      subst hw
      have hframe : SameBut [.dockKeys, .dockLink] s
          { acceptTurn c s with dock := { (acceptTurn c s).dock with remembered := some k } } := by
        intro b hb
        cases b <;> first | rfl | exact absurd (by decide) hb
      exact ⟨hremembered, hkeys, hpressed, hon.after hframe⟩
  · rw [effect_duplicate hcycle hkept hinward hjudged htoggle]
    obtain ⟨hsilence, hsent, htoggles, -, hframe⟩ := duplicate_leaves (s := s) (goOn_goesOn c
      (sendFrame (ackFrame c.channel toggle) (goodExchange (beginTurn c s))))
    exact ⟨hsilence, hsent, fun h => absurd h htoggle, fun h => absurd h htoggle, fun h => absurd h htoggle,
      fun _ => ⟨htoggles, hframe⟩⟩

/-! ## POWER and BUTTON (R90, R110) -/

theorem takePower_of_attached {units : Nat} {s : State} (h : s.dock.state = .attached) :
    takePower units s
      = placeExtra (min units s.extraLimit) { s with dock := { s.dock with extraHeld := min units s.extraLimit } } := if_pos h

theorem takePower_of_settling {units : Nat} {s : State} (h : s.dock.state = .settling) :
    takePower units s = { s with dock := { s.dock with extraHeld := min units s.extraLimit } } :=
  if_neg (by rw [h]; decide)

/-- What POWER leaves. -/
theorem takePower_does (units : Nat) (s : State) :
    (takePower units s).dock.extraHeld = min units s.extraLimit
      ∧ (s.dock.state = .attached → (takePower units s).supply.requests = { s.supply.requests with extra := min units s.extraLimit })
      ∧ Steady s (takePower units s) ∧ SameBut [.dockState, .dockLink, .supply, .pen, .poll, .advisor, .events] s (takePower units s) := by
  let held : State := { s with dock := { s.dock with extraHeld := min units s.extraLimit } }
  have hheld : SameBut [.dockState] s held := by
    intro b hb
    cases b <;> first | rfl | exact absurd (by decide) hb
  have hsteady : Steady s held :=
    ⟨⟨id, rfl, rfl⟩, rfl, rfl, rfl, rfl, rfl, rfl, id, fun _ _ => id,
      (GrantKept.of_link (s := s) (t := held) rfl rfl rfl rfl rfl).toChannelKept, rfl⟩
  unfold takePower
  dsimp only
  split
  · have hplaced := placeExtra_frame (min units s.extraLimit) held
    exact ⟨extraHeld_of_frame hplaced (by decide), fun _ => placeRequests_requests _ held,
      hsteady.trans (placeRequests_safe _ held).steady, (hheld.mono _ (by decide)).trans (hplaced.mono _ (by decide))⟩
  · next h => exact ⟨rfl, fun hattached => absurd hattached h, hsteady, hheld.mono _ (by decide)⟩

/-- A release request taken where its conditions hold, and nowhere else. -/
theorem requestRelease_of_granted {s : State} (hattached : s.dock.state = .attached) (hlocked : s.latch.state = .locked)
    (hbudget : s.param .latchDraw ≤ s.supply.budget) : requestRelease s = .ok (beginRelease s) := by
  unfold requestRelease
  rw [if_neg (Classical.not_not.2 hattached), if_neg (Classical.not_not.2 hlocked), if_neg (Nat.not_lt.2 hbudget)]

theorem requestRelease_of_refused {s : State}
    (h : ¬ (s.dock.state = .attached ∧ s.latch.state = .locked ∧ s.param .latchDraw ≤ s.supply.budget)) :
    ∃ code, requestRelease s = .error code := by
  unfold requestRelease
  by_cases hattached : s.dock.state = .attached
  · by_cases hlocked : s.latch.state = .locked
    · have hbudget : s.supply.budget < s.param .latchDraw := Nat.lt_of_not_le fun hle => h ⟨hattached, hlocked, hle⟩
      exact ⟨_, by rw [if_neg (Classical.not_not.2 hattached), if_neg (Classical.not_not.2 hlocked), if_pos hbudget]⟩
    · exact ⟨_, by rw [if_neg (Classical.not_not.2 hattached), if_pos hlocked]⟩
  · exact ⟨_, if_pos hattached⟩

theorem takeButton_of_granted {s : State} (hup : s.advisor.platform.hostUp = true) (hattached : s.dock.state = .attached)
    (hlocked : s.latch.state = .locked) (hbudget : s.param .latchDraw ≤ s.supply.budget) : takeButton s = beginRelease s := by
  unfold takeButton
  rw [if_pos hup, requestRelease_of_granted hattached hlocked hbudget]

theorem takeButton_of_refused {s : State} (hup : s.advisor.platform.hostUp = true)
    (h : ¬ (s.dock.state = .attached ∧ s.latch.state = .locked ∧ s.param .latchDraw ≤ s.supply.budget)) : takeButton s = s := by
  obtain ⟨code, hcode⟩ := requestRelease_of_refused h
  unfold takeButton
  rw [if_pos hup, hcode]

theorem takeButton_of_asleep {s : State} (h : s.advisor.platform = .asleep) : takeButton s = takeCause .button s := by
  have hdown : s.advisor.platform.hostUp ≠ true := by rw [h]; decide
  unfold takeButton
  rw [if_neg hdown, advisorTakes_of_asleep false false .button h]
  rfl

theorem takeButton_of_waking {s : State} (h : s.advisor.platform = .waking) : takeButton s = s := by
  have hdown : s.advisor.platform.hostUp ≠ true := by rw [h]; decide
  unfold takeButton
  rw [if_neg hdown]
  unfold advisorTakes
  dsimp only
  rw [if_neg (by decide), h]

theorem takeButton_steady (s : State) : Steady s (takeButton s) := by
  unfold takeButton
  split
  · split
    · next u h =>
      have hu : u = beginRelease s := by
        by_cases hgranted : s.dock.state = .attached ∧ s.latch.state = .locked ∧ s.param .latchDraw ≤ s.supply.budget
        · obtain ⟨hattached, hlocked, hbudget⟩ := hgranted
          rw [requestRelease_of_granted hattached hlocked hbudget] at h
          exact (Except.ok.inj h).symm
        · obtain ⟨code, hcode⟩ := requestRelease_of_refused hgranted
          rw [hcode] at h
          cases h
      rw [hu]
      exact (beginRelease_safe s).steady
    · exact .refl s
  · exact (advisorTakes_safe _ _ _ s).steady

end Sys2Proof.Machine
end

section
/-! Messages of channels 0 and 2: IDENT begins SETTLING (R102), POWER, BUTTON and motion. -/

namespace Sys2Proof.Machine

set_option Elab.async false

/-! ## The entry to SETTLING (R102) -/

/-- What the entry to SETTLING leaves, whether or not the dock is attached at once. -/
structure Settled (i : Identity) (s t : State) : Prop where
  identity : t.dock.identity = some i
  identifyTimer : t.dock.identifyTimer = none
  base : t.supply.requests.base = i.baseline
  running : t.dock.motionRunning = i.accelerometer
  tracks : t.MotionTracks
  tick : t.tick = s.tick
  silence : t.dock.silence = s.dock.silence
  toggles : t.dock.toggles = s.dock.toggles
  sent : t.dock.sent = s.dock.sent
  cycle : s.dock.cycle = none → t.dock.cycle = none
  cycles : t.dock.cycles = 0
  extraHeld : t.dock.extraHeld = 0
  halted : t.dock.halted = s.dock.halted
  outgoing : t.dock.outgoing = s.dock.outgoing
  lights : t.dock.waiting.lights = s.dock.waiting.lights
  grant : s.dock.halted = false → t.dock.waiting.grant = some t.grantTotal
  cadence : s.dock.halted = false → t.CadenceWaits
  closed : s.dock.halted = true → t.dock.waiting = s.dock.waiting
  linked : t.linked = true

/-- The start of channel 2 writes of the dock no more than its due tick, the mark of an exchange, and that it runs. -/
theorem startMotion_link (accelerometer : Bool) (s : State) :
    (startMotion accelerometer s).dock.waiting = s.dock.waiting ∧ (startMotion accelerometer s).dock.outgoing = s.dock.outgoing
      ∧ (startMotion accelerometer s).dock.toggles = s.dock.toggles ∧ (startMotion accelerometer s).dock.silence = s.dock.silence
      ∧ (startMotion accelerometer s).dock.sent = s.dock.sent ∧ (startMotion accelerometer s).dock.halted = s.dock.halted
      ∧ (startMotion accelerometer s).dock.cadence = s.dock.cadence ∧ (startMotion accelerometer s).dock.cycles = s.dock.cycles
      ∧ (s.dock.cycle = none → (startMotion accelerometer s).dock.cycle = none)
      ∧ (startMotion accelerometer s).dock.motionRunning = accelerometer
      ∧ (startMotion accelerometer s).dock.motionNext = nextPoll (cadencePeriod s.dock.cadence) s.tick := by
  unfold startMotion
  dsimp only
  split
  · unfold setSettle
    split
    · exact ⟨rfl, rfl, rfl, rfl, rfl, rfl, rfl, rfl, id, rfl, rfl⟩
    · refine ⟨rfl, rfl, rfl, rfl, rfl, rfl, rfl, rfl, fun h => ?_, rfl, rfl⟩
      show s.dock.cycle.map _ = none
      rw [h]; rfl
  · exact ⟨rfl, rfl, rfl, rfl, rfl, rfl, rfl, rfl, id, rfl, rfl⟩

theorem setSettle_settleMark (p : Polled) (s : State) : (setSettle p s).settleMark p = true := by
  unfold setSettle
  split
  · next h => exact h
  · rw [settleMark_writeSettle, if_pos rfl]

theorem startMotion_settleMark {accelerometer : Bool} {s : State} (h : accelerometer = true) (hon : s.dock.cadence ≠ 0) :
    (startMotion accelerometer s).settleMark .basa = true := by
  unfold startMotion
  dsimp only
  rw [if_pos (by simp [h, hon])]
  exact setSettle_settleMark .basa _

/-- The dock in SETTLING with its requests placed, before channels 2 and 3 are told. -/
def placeSettling (i : Identity) (s : State) : State :=
  let s1 := enterDock .settling .none { s with dock := { s.dock with identity := some i } }
  placeBase i.baseline { s1 with dock := { s1.dock with cycles := 0, extraHeld := 0 } }

theorem beginSettling_eq (i : Identity) (s : State) :
    beginSettling i s
      = startMotion i.accelerometer
          (queueMessage (.cadence (placeSettling i s).dock.cadence)
            (queueMessage (.grant (placeSettling i s).grantTotal) (placeSettling i s))) := rfl

/-- What has been placed before the messages. -/
structure Placed (i : Identity) (s t : State) : Prop where
  station : t.station = (.settling, some i, s.dock.attempts, s.dock.reattaches, none, none)
  event : .dock .settling .none (some i) ∈ t.host.events
  heldDock : t.advisor.heldDock = .settling
  base : t.supply.requests.base = i.baseline
  tick : t.tick = s.tick
  silence : t.dock.silence = s.dock.silence
  toggles : t.dock.toggles = s.dock.toggles
  sent : t.dock.sent = s.dock.sent
  cycle : s.dock.cycle = none → t.dock.cycle = none
  cycles : t.dock.cycles = 0
  extraHeld : t.dock.extraHeld = 0
  halted : t.dock.halted = s.dock.halted
  outgoing : t.dock.outgoing = s.dock.outgoing
  lights : t.dock.waiting.lights = s.dock.waiting.lights
  closed : s.dock.halted = true → t.dock.waiting = s.dock.waiting

theorem cycle_none_of_shape {s t : State} (h : t.dock.cycle.map Cycle.shape = s.dock.cycle.map Cycle.shape) (hnone : s.dock.cycle = none) :
    t.dock.cycle = none := by
  rw [hnone] at h
  exact Option.map_eq_none_iff.1 h

theorem placeSettling_placed (i : Identity) (s : State) : Placed i s (placeSettling i s) := by
  let known : State := { s with dock := { s.dock with identity := some i } }
  obtain ⟨hstation, hevent, hheld, -, -⟩ := enterDock_does .settling .none known
  have hentered := enterDock_steady .settling .none known
  have htick := enterDock_tick .settling .none known
  generalize he : enterDock .settling .none known = e at hstation hevent hheld hentered htick
  let cleared : State := { e with dock := { e.dock with cycles := 0, extraHeld := 0 } }
  have hplaced : placeSettling i s = placeRequests { cleared.supply.requests with base := i.baseline } cleared := by
    unfold placeSettling
    dsimp only
    rw [show ({ s with dock := { s.dock with identity := some i } } : State) = known from rfl, he]
    rfl
  have htrails := placeRequests_trails { cleared.supply.requests with base := i.baseline } cleared
  have hsteady := (placeRequests_safe { cleared.supply.requests with base := i.baseline } cleared).steady
  have hframe := placeRequests_frame { cleared.supply.requests with base := i.baseline } cleared
  have hrequests := placeRequests_requests { cleared.supply.requests with base := i.baseline } cleared
  rw [← hplaced] at htrails hsteady hframe hrequests
  generalize placeSettling i s = p at htrails hsteady hframe hrequests ⊢
  exact
    { station := (htrails.station.trans hstation :)
      event := htrails.events _ hevent (by simp [Event.kind])
      heldDock := htrails.heldDock.trans hheld
      base := congrArg Shares.base hrequests
      tick := htrails.tick.trans htick
      silence := hsteady.silence.trans hentered.silence
      toggles := hsteady.toggles.trans hentered.toggles
      sent := hsteady.sent.trans hentered.sent
      cycle := fun hnone => cycle_none_of_shape (s := cleared) hsteady.cycle (cycle_none_of_shape hentered.cycle hnone)
      cycles := hsteady.cycles
      extraHeld := extraHeld_of_frame hframe (by decide)
      halted := hsteady.channel.halted.trans hentered.channel.halted
      outgoing := hsteady.channel.outgoing.trans hentered.channel.outgoing
      lights := hsteady.channel.lights.trans hentered.channel.lights
      closed := fun hhalt =>
        (hsteady.channel.closed (.inr (hentered.channel.halted.trans hhalt))).trans (hentered.channel.closed (.inr hhalt)) }

/-- The messages queued for channel 3, when it is not halted. -/
theorem queueSettling_waiting {i : Identity} {s p : State} (h : Placed i s p) :
    (queueMessage (.cadence p.dock.cadence) (queueMessage (.grant p.grantTotal) p)).dock
      = if s.dock.halted then p.dock
        else { p.dock with waiting := { p.dock.waiting with grant := some p.grantTotal, cadence := some p.dock.cadence } } := by
  obtain ⟨hstate, -⟩ := station_state h.station
  have hlink : p.linked = true := by simp [State.linked, hstate]
  by_cases hhalt : s.dock.halted = true
  · rw [if_pos hhalt]
    have hclosed : ∀ m, queueMessage m p = p := fun m => by
      unfold queueMessage; rw [h.halted, hhalt]; simp
    rw [hclosed, hclosed]
  · have hopen : p.dock.halted = false := h.halted.trans (by simpa using hhalt)
    rw [if_neg hhalt, queueMessage_eq_of_open (.grant p.grantTotal) hlink hopen]
    exact congrArg State.dock (queueMessage_eq_of_open (.cadence p.dock.cadence)
      (s := { p with dock := { p.dock with waiting := p.dock.waiting.put (.grant p.grantTotal) } }) hlink hopen)

/-- SETTLING begun, before the settle timer. -/
theorem beginSettling_settled (i : Identity) (s : State) :
    Settled i s (beginSettling i s) ∧ (beginSettling i s).dock.state = .settling ∧ (beginSettling i s).dock.settleTimer = none
      ∧ .dock .settling .none (some i) ∈ (beginSettling i s).host.events ∧ (beginSettling i s).advisor.heldDock = .settling
      ∧ (i.accelerometer = true → (beginSettling i s).dock.cadence ≠ 0 → (beginSettling i s).settleMark .basa = true)
      ∧ SameBut [.dockState, .supply, .pen, .poll, .dockLink, .advisor, .events] s (beginSettling i s) := by
  have hplaced := placeSettling_placed i s
  have hbegin := beginSettling_eq i s
  have hplacedFrame : SameBut [.dockState, .supply, .pen, .poll, .dockLink, .advisor, .events] s (placeSettling i s) := by
    have hknown : SameBut [.dockState] s { s with dock := { s.dock with identity := some i } } := by
      intro b hb
      cases b <;> first | rfl | exact absurd (by decide) hb
    have hcleared : ∀ u : State, SameBut [.dockState, .dockLink] u { u with dock := { u.dock with cycles := 0, extraHeld := 0 } } := by
      intro u b hb
      cases b <;> first | rfl | exact absurd (by decide) hb
    exact (((hknown.mono _ (by decide)).trans ((enterDock_frame .settling .none _).mono _ (by decide))).trans
      ((hcleared _).mono _ (by decide))).trans ((placeRequests_frame _ _).mono _ (by decide))
  generalize placeSettling i s = p at hplaced hbegin hplacedFrame
  have hdock := queueSettling_waiting hplaced
  have hqueued : SameBut [.dockLink] p (queueMessage (.cadence p.dock.cadence) (queueMessage (.grant p.grantTotal) p)) :=
    (queueMessage_frame _ p).trans (queueMessage_frame _ _)
  generalize queueMessage (.cadence p.dock.cadence) (queueMessage (.grant p.grantTotal) p) = q at hbegin hdock hqueued
  have hlink := startMotion_link i.accelerometer q
  have hmark := startMotion_settleMark (accelerometer := i.accelerometer) (s := q)
  have hstarted := startMotion_frame i.accelerometer q
  rw [← hbegin] at hlink hmark hstarted
  generalize beginSettling i s = m at hlink hmark hstarted ⊢
  obtain ⟨hwaiting, houtgoing, htoggles, hsilence, hsent, hhalted, hcadence, hcycles, hcycle, hrunning, hnext⟩ := hlink
  have hkept : ∀ {α : Type} (f : DockBlock → α), (∀ w, f { p.dock with waiting := w } = f p.dock) → f q.dock = f p.dock := fun f hf => by
    rw [hdock]
    split
    · rfl
    · exact hf _
  have hframe : SameBut [.poll, .dockLink] p m := (hqueued.mono _ (by decide)).trans hstarted
  obtain ⟨hstate, hidentity, -, -, hidentify, hsettle⟩ := station_state ((station_of_frame hframe (by decide)).trans hplaced.station)
  have hlinked : m.linked = true := by simp [State.linked, hstate]
  have hsupply : m.supply = p.supply := hframe .supply (by decide)
  have hqtick : q.tick = s.tick := (hqueued .tick (by decide)).trans hplaced.tick
  have hmtick : m.tick = q.tick := hstarted .tick (by decide)
  refine ⟨?_, hstate, hsettle, ?_, ?_, fun hacc hon => hmark hacc (by rw [← hcadence]; exact hon), ?_⟩
  · exact
      { identity := hidentity
        identifyTimer := hidentify
        base := by rw [hsupply]; exact hplaced.base
        running := hrunning
        tracks := by
          unfold State.MotionTracks
          rw [hnext, hcadence, hmtick]
        tick := hmtick.trans hqtick
        silence := (hsilence.trans (hkept DockBlock.silence fun _ => rfl)).trans hplaced.silence
        toggles := (htoggles.trans (hkept DockBlock.toggles fun _ => rfl)).trans hplaced.toggles
        sent := (hsent.trans (hkept DockBlock.sent fun _ => rfl)).trans hplaced.sent
        cycle := fun hnone => hcycle ((hkept DockBlock.cycle fun _ => rfl).trans (hplaced.cycle hnone))
        cycles := (hcycles.trans (hkept DockBlock.cycles fun _ => rfl)).trans hplaced.cycles
        extraHeld := (extraHeld_of_frame hframe (by decide)).trans hplaced.extraHeld
        halted := (hhalted.trans (hkept DockBlock.halted fun _ => rfl)).trans hplaced.halted
        outgoing := (houtgoing.trans (hkept DockBlock.outgoing fun _ => rfl)).trans hplaced.outgoing
        lights := by
          rw [hwaiting, hdock]
          split <;> exact hplaced.lights
        grant := fun hopen => by
          rw [hwaiting, hdock, hopen]
          show some p.grantTotal = some m.grantTotal
          unfold State.grantTotal
          rw [hsupply]
        cadence := fun hopen => by
          unfold State.CadenceWaits
          rw [hwaiting, hcadence, hdock, hopen]
          rfl
        closed := fun hhalt => by
          rw [hwaiting, hdock, hhalt]
          exact hplaced.closed hhalt
        linked := hlinked }
  · rw [show m.host.events = p.host.events from hframe .events (by decide)]
    exact hplaced.event
  · rw [show m.advisor = p.advisor from hframe .advisor (by decide)]
    exact hplaced.heldDock
  · exact hplacedFrame.trans (hframe.mono _ (by decide))

/-- An Attach Settle of 0 attaches at once, and keeps what the entry to SETTLING left. -/
theorem Settled.attached {i : Identity} {s m t : State} (h : Settled i s m) (k : Attached m t) (hgrant : m.GrantWaits → t.GrantWaits) :
    Settled i s t := by
  obtain ⟨hstate, hidentity, -, -, hidentify, -⟩ := station_state (k.station.trans (moveDock_attached m))
  have hpath := k.steady.channel
  have htick : t.tick = m.tick := k.frame .tick (by decide)
  have hlinked : t.linked = true := by simp [State.linked, hstate]
  exact
    { identity := hidentity.trans h.identity
      identifyTimer := hidentify
      base := (congrArg Shares.base k.requests).trans h.base
      running := k.steady.motionRunning.trans h.running
      tracks := k.steady.motion h.tracks
      tick := htick.trans h.tick
      silence := k.steady.silence.trans h.silence
      toggles := k.steady.toggles.trans h.toggles
      sent := k.steady.sent.trans h.sent
      cycle := fun hnone => cycle_none_of_shape k.steady.cycle (h.cycle hnone)
      cycles := k.steady.cycles.trans h.cycles
      extraHeld := k.extraHeld.trans h.extraHeld
      halted := hpath.halted.trans h.halted
      outgoing := hpath.outgoing.trans h.outgoing
      lights := hpath.lights.trans h.lights
      grant := fun hopen => (hgrant ⟨h.linked, h.halted.trans hopen, h.grant hopen⟩).grant
      cadence := fun hopen => k.steady.cadence rfl (h.halted.trans hopen) (h.cadence hopen)
      closed := fun hhalt => (hpath.closed (.inr (h.halted.trans hhalt))).trans (h.closed hhalt)
      linked := hlinked }

/-- The settle timer started. -/
def startSettle (s : State) : State := { s with dock := { s.dock with settleTimer := s.timer (s.param .attachSettle) } }

theorem Settled.timed {i : Identity} {s m : State} (h : Settled i s m) : Settled i s (startSettle m) :=
  ⟨h.identity, h.identifyTimer, h.base, h.running, h.tracks, h.tick, h.silence, h.toggles, h.sent, h.cycle, h.cycles, h.extraHeld,
    h.halted, h.outgoing, h.lights, h.grant, h.cadence, h.closed, h.linked⟩

/-- What the entry to SETTLING leaves of dock and posture, by the Attach Settle time. -/
structure SettledBy (i : Identity) (s t : State) : Prop where
  settling : 0 < s.param .attachSettle →
    t.dock.state = .settling ∧ (i.accelerometer = true → t.dock.cadence ≠ 0 → t.settleMark .basa = true)
      ∧ t.dock.settleTimer = some { start := s.tick, duration := s.param .attachSettle }
      ∧ .dock .settling .none (some i) ∈ t.host.events ∧ t.advisor.heldDock = .settling
  attached : s.param .attachSettle = 0 → t.dock.state = .attached ∧ t.posture.posture = .unknown
  frame : SameBut [.dockState, .dockKeys, .angle, .posture, .orient, .supply, .pen, .poll, .dockLink, .advisor, .events] s t

theorem enterSettling_settled (i : Identity) (s : State) : Settled i s (enterSettling i s) ∧ SettledBy i s (enterSettling i s) := by
  obtain ⟨hsettled, hstate, -, hevent, hheld, hmark, hframe⟩ := beginSettling_settled i s
  have hparam : (beginSettling i s).param .attachSettle = s.param .attachSettle := by
    unfold State.param
    rw [show (beginSettling i s).params = s.params from hframe .params (by decide)]
  rw [enterSettling_eq, hparam]
  split
  · next hzero =>
    have hattached := enterAttached_attached (beginSettling i s)
    obtain ⟨hnow, -⟩ := station_state (hattached.station.trans (moveDock_attached _))
    refine ⟨hsettled.attached hattached State.GrantWaits.after_enterAttached, fun hpos => absurd hpos (by omega), fun _ => ⟨hnow, ?_⟩,
      (hframe.mono _ (by decide)).trans hattached.frame⟩
    rw [hattached.posture]
  · next hpos =>
    have htimer : (startSettle (beginSettling i s)).dock.settleTimer = some { start := s.tick, duration := s.param .attachSettle } := by
      show (beginSettling i s).timer ((beginSettling i s).param .attachSettle) = _
      rw [State.timer, hparam, hsettled.tick]
    have hstart : SameBut [.dockState] (beginSettling i s) (startSettle (beginSettling i s)) := by
      intro b hb
      cases b <;> first | rfl | exact absurd (by decide) hb
    have hend : ({ beginSettling i s with
        dock := { (beginSettling i s).dock with settleTimer := (beginSettling i s).timer (s.param .attachSettle) } } : State)
        = startSettle (beginSettling i s) := by rw [startSettle, hparam]
    rw [hend]
    exact ⟨hsettled.timed, fun _ => ⟨hstate, hmark, htimer, hevent, hheld⟩, fun hzero => absurd hzero hpos,
      (hframe.mono _ (by decide)).trans (hstart.mono _ (by decide))⟩

/-! ## IDENT (R90, R101) -/

/-- The waiting messages after an accepted IDENT, channel 3 not halted. -/
theorem Settled.waiting {i : Identity} {s t : State} (h : Settled i s t) (hopen : s.dock.halted = false) :
    t.dock.waiting = { s.dock.waiting with grant := some t.grantTotal, cadence := some t.dock.cadence } := by
  have hlights := h.lights
  have hgrant := h.grant hopen
  have hcadence : t.dock.waiting.cadence = some t.dock.cadence := h.cadence hopen
  revert hlights hgrant hcadence
  cases t.dock.waiting
  rintro rfl rfl rfl
  rfl

/-- Channel 3 next: its exchange takes the GRANT at once. -/
theorem nextExchange_takesGrant {cycleTick : Tick} {rest : List Channel} {s : State} {total : Nat} (hlinked : s.linked = true)
    (hopen : s.dock.halted = false) (hnone : s.dock.outgoing = none) (hlights : s.dock.waiting.lights = none)
    (hgrant : s.dock.waiting.grant = some total) :
    (nextExchange cycleTick (.output :: rest) s).dock.waiting = { s.dock.waiting with grant := none }
      ∧ (nextExchange cycleTick (.output :: rest) s).dock.outgoing = some (.grant total)
      ∧ (nextExchange cycleTick (.output :: rest) s).dock.sent
          = s.dock.sent ++ [outputFrame (s.dock.toggles.get .output) (.grant total)]
      ∧ ∃ k, (nextExchange cycleTick (.output :: rest) s).dock.cycle = some k ∧ k.channel = .output ∧ k.rest = rest
          ∧ k.tick = cycleTick := by
  have htake : s.dock.waiting.take = some (.grant total, { s.dock.waiting with grant := none }) := by
    simp [Waiting.take, hlights, hgrant]
  have hwanted : s.exchangeWanted cycleTick .output = true := by
    refine (exchangeWanted_iff s cycleTick .output).2 ⟨hlinked, hopen, .inr fun hempty => ?_⟩
    rw [hempty] at hgrant
    cases hgrant
  unfold nextExchange
  rw [if_pos hwanted]
  unfold beginExchange
  rw [if_pos rfl, loadOutgoing_of_take hnone htake]
  exact ⟨rfl, rfl, rfl, _, rfl, rfl, rfl, rfl⟩

/-- A halted channel 3 takes no message. -/
theorem nextExchange_of_halted (cycleTick : Tick) (channels : List Channel) {s : State} (h : s.dock.halted = true) :
    (nextExchange cycleTick channels s).dock.waiting = s.dock.waiting
      ∧ (nextExchange cycleTick channels s).dock.outgoing = s.dock.outgoing := by
  induction channels with
  | nil => exact ⟨rfl, rfl⟩
  | cons c rest ih =>
    unfold nextExchange
    split
    · next hwanted =>
      have hinward : ¬ c = .output := by
        rintro rfl
        obtain ⟨-, hopen, -⟩ := (exchangeWanted_iff s cycleTick .output).1 hwanted
        rw [h] at hopen
        cases hopen
      unfold beginExchange
      rw [if_neg hinward]
      exact ⟨rfl, rfl⟩
    · exact ih

/-- An accepted IDENT, its cycle gone on. -/
theorem ident_does {i : Identity} {c : Cycle} {s v w t : State} (hchannel : c.channel = .control) (hv : v = acceptTurn c s)
    (hsettled : Settled i v w)
    (hgo : t = nextExchange c.tick c.rest (sendFrame (ackFrame .control (s.dock.toggles.get .control)) w)) :
    t.dock.identity = some i ∧ t.dock.identifyTimer = none ∧ t.supply.requests.base = i.baseline
      ∧ t.dock.motionRunning = i.accelerometer ∧ t.dock.silence = 0
      ∧ t.dock.toggles.get .control = (!s.dock.toggles.get .control)
      ∧ t.dock.sent.head? = some (ackFrame .control (s.dock.toggles.get .control))
      ∧ t.dock.extraHeld = 0 ∧ t.dock.motionNext = nextPoll (cadencePeriod t.dock.cadence) s.tick
      ∧ (t.dock.cycle = none → t.dock.cycles = 1) ∧ (t.dock.cycle ≠ none → t.dock.cycles = 0)
      ∧ (s.dock.halted = false → .output ∉ c.rest →
          t.dock.waiting = { s.dock.waiting with grant := some t.grantTotal, cadence := some t.dock.cadence }
            ∧ t.dock.outgoing = s.dock.outgoing)
      ∧ (s.dock.halted = false → c.rest.head? = some .output → s.dock.outgoing = none → s.dock.waiting.lights = none →
          t.dock.waiting = { s.dock.waiting with grant := none, cadence := some t.dock.cadence }
            ∧ t.dock.outgoing = some (.grant t.grantTotal)
            ∧ t.dock.sent
                = [ackFrame .control (s.dock.toggles.get .control),
                   outputFrame (s.dock.toggles.get .output) (.grant t.grantTotal)]
            ∧ ∃ k, t.dock.cycle = some k ∧ k.channel = .output ∧ k.rest = c.rest.tail ∧ k.tick = c.tick)
      ∧ (s.dock.halted = true → t.dock.waiting = s.dock.waiting ∧ t.dock.outgoing = s.dock.outgoing) := by
  let u := sendFrame (ackFrame .control (s.dock.toggles.get .control)) w
  have hon : GoesOn c.rest u t := hgo ▸ nextExchange_goesOn c.tick c.rest u
  obtain ⟨hnone, hsome⟩ := nextExchange_counts c.tick c.rest u
  rw [← hgo] at hnone hsome
  have htoggles : v.dock.toggles = s.dock.toggles.set .control (!s.dock.toggles.get .control) := by rw [hv, ← hchannel]; rfl
  have hsent : w.dock.sent = [] := hsettled.sent.trans (by rw [hv]; rfl)
  have hvwaiting : v.dock.waiting = s.dock.waiting := by rw [hv]; rfl
  have hvoutgoing : v.dock.outgoing = s.dock.outgoing := by rw [hv]; rfl
  have hvhalted : v.dock.halted = s.dock.halted := by rw [hv]; rfl
  have hsupply : t.supply = w.supply := hon.frame .supply (by decide)
  have htotal : t.grantTotal = w.grantTotal := by unfold State.grantTotal; rw [hsupply]
  have hcadence : t.dock.cadence = w.dock.cadence := hon.cadence
  have hstation : t.station = w.station := (station_of_frame hon.frame (by decide)).trans rfl
  obtain ⟨-, hidentity, -, -, hidentify, -⟩ := station_state (s := t) (hstation.trans rfl)
  have hwaiting : s.dock.halted = false →
      w.dock.waiting = { s.dock.waiting with grant := some w.grantTotal, cadence := some w.dock.cadence } := fun hopen => by
    rw [hsettled.waiting (hvhalted.trans hopen), hvwaiting]
  have htoggle : ∀ d, t.dock.toggles.get d = (s.dock.toggles.set .control (!s.dock.toggles.get .control)).get d := fun d => by
    rw [hon.toggles, show u.dock.toggles = w.dock.toggles from rfl, hsettled.toggles, htoggles]
  refine ⟨hidentity.trans hsettled.identity, hidentify.trans hsettled.identifyTimer, by rw [hsupply]; exact hsettled.base,
    hon.motionRunning.trans hsettled.running, hon.silence.trans (hsettled.silence.trans (by rw [hv]; rfl)), ?_, hon.sent_first hsent,
    (extraHeld_of_frame hon.frame (by decide)).trans hsettled.extraHeld, ?_, fun h => (hnone h).trans ?_, fun h => (hsome h).trans hsettled.cycles,
    fun hopen hrest => ?_, fun hopen hhead hout hlights => ?_, fun hhalt => ?_⟩
  · rw [htoggle, PerChannel.get_set, if_pos rfl]
  · rw [hon.motionNext, hcadence]
    exact (hsettled.tracks : w.dock.motionNext = _).trans (by rw [hsettled.tick, hv]; rfl)
  · exact congrArg (· + 1) hsettled.cycles
  · obtain ⟨houtgoing, hlist⟩ := hon.outgoing hrest
    refine ⟨?_, houtgoing.trans (hsettled.outgoing.trans hvoutgoing)⟩
    rw [hlist, htotal, hcadence]
    exact hwaiting hopen
  · obtain ⟨rest, hrest⟩ : ∃ rest, c.rest = .output :: rest := by
      cases hc : c.rest with
      | nil => rw [hc] at hhead; cases hhead
      | cons d rest => rw [hc] at hhead; exact ⟨rest, by rw [Option.some.inj hhead]⟩
    have hwout : w.dock.outgoing = none := hsettled.outgoing.trans (hvoutgoing.trans hout)
    have hwlights : w.dock.waiting.lights = none := hsettled.lights.trans (by rw [hvwaiting]; exact hlights)
    obtain ⟨hlist, houtgoing, hframes, hcycle⟩ := nextExchange_takesGrant (cycleTick := c.tick) (rest := rest) (s := u) (total := w.grantTotal)
      hsettled.linked (hsettled.halted.trans (hvhalted.trans hopen)) hwout hwlights (hsettled.grant (hvhalted.trans hopen))
    rw [hrest] at hgo
    rw [← hgo] at hlist houtgoing hframes hcycle
    refine ⟨?_, by rw [htotal]; exact houtgoing, ?_, ?_⟩
    · rw [hlist, hcadence, show u.dock.waiting = w.dock.waiting from rfl, hwaiting hopen]
    · rw [hframes, htotal, show u.dock.sent = w.dock.sent ++ [ackFrame .control (s.dock.toggles.get .control)] from rfl, hsent,
        show u.dock.toggles.get .output = w.dock.toggles.get .output from rfl, hsettled.toggles, htoggles, PerChannel.get_set,
        if_neg (by decide)]
      rfl
    · rw [hrest]
      exact hcycle
  · have hhalted : u.dock.halted = true := hsettled.halted.trans (hvhalted.trans hhalt)
    have hkept : t.dock.waiting = u.dock.waiting ∧ t.dock.outgoing = u.dock.outgoing := by
      rw [hgo]
      exact nextExchange_of_halted c.tick c.rest hhalted
    exact ⟨hkept.1.trans ((hsettled.closed (hvhalted.trans hhalt)).trans hvwaiting),
      hkept.2.trans (hsettled.outgoing.trans hvoutgoing)⟩

theorem goOn_of_linked {c : Cycle} {s : State} (h : s.linked = true) : goOn c s = nextExchange c.tick c.rest s :=
  if_pos (by simp [State.linkActive, h])

/-! ## Motion (R17, R97) -/

/-- What a turn taken says is still so when only the Dock Link has been written after. -/
theorem State.TakesTurn.after_link {src : Source} {own : Sample} {s w t : State} (h : s.TakesTurn src own w)
    (k : SameBut [.dockLink] w t) : s.TakesTurn src own (settleAttention s t) := by
  have hpoll : t.poll = w.poll := k .poll (by decide)
  refine h.of_same (congrArg PollBlock.coming hpoll) ?_ fun p => congrArg (fun b : PollBlock => (b.schedule.get p).settle) hpoll
  show t.intake = w.intake
  have hfifo : t.intake.fifo = w.intake.fifo := k .fifo (by decide)
  have hgaps : t.intake.gaps = w.intake.gaps := k .gaps (by decide)
  revert hfifo hgaps
  cases t.intake
  cases w.intake
  rintro rfl rfl
  rfl

/-- The acknowledgement and the cycle write the Dock Link alone. -/
theorem GoesOn.frame_sent {channels : List Channel} {f : List Byte} {w t : State} (h : GoesOn channels (sendFrame f w) t) :
    SameBut [.dockLink] w t := (sendFrame_frame f w).trans h.frame

/-- A motion message is a BASA sample that takes its turn. -/
theorem motion_takesTurn {s : State} {afterMark : Bool} {x y z : Value} {w : State}
    (hw : takeMessage afterMark (.motion x y z) s = w) :
    s.TakesTurn .basa
        { source := .basa, timestamp := s.tick, unsettled := s.settleMark .basa && afterMark
          values := mountTransform (s.param .baseMount) x y z } w
      ∧ Lands s w := by
  rw [← hw]
  exact ⟨arriveInTurn_takesTurn (arrivePolled_brings .basa (mountTransform (s.param .baseMount) x y z) afterMark s),
    arriveInTurn_lands fun u => (arrivePolled_lands .basa (mountTransform (s.param .baseMount) x y z) afterMark u).1⟩

/-- Settles O33: IDENT, POWER, BUTTON and motion, each from what its operation leaves and how the cycle goes on. -/
theorem identBeginsSettling : Obligations.IdentBeginsSettling := by
  refine ⟨fun s c frame i hcycle hkept hchannel hstate hjudged => ⟨_, exec_eq _ s, ?_⟩,
    fun s c frame units hcycle hkept hchannel hlinked hjudged => ⟨_, exec_eq _ s, ?_⟩,
    fun s c frame hcycle hkept hchannel hlinked hjudged => ⟨_, exec_eq _ s, ?_⟩,
    fun s c frame toggle x y z hcycle hkept hchannel hjudged => ⟨_, exec_eq _ s, ?_⟩⟩
  all_goals
    have hinward : c.channel ≠ .output := by rw [hchannel]; decide
    rw [← hchannel] at hjudged
  · have heffect := effect_accepted hcycle hkept hinward hjudged (by rw [hchannel])
    have htake : takeMessage c.afterMark (.ident i) (acceptTurn c s) = enterSettling i (acceptTurn c s) := if_pos hstate
    obtain ⟨hsettled, hby⟩ := enterSettling_settled i (acceptTurn c s)
    rw [htake, goOn_of_linked (s := sendFrame _ (enterSettling i (acceptTurn c s))) hsettled.linked, hchannel] at heffect
    rw [heffect]
    obtain ⟨hident, htimer, hbase, hrunning, hsilence, htoggle, hsent, hextra, hnext, hended, hbegun, hfree, htaken, hhalt⟩ :=
      ident_does hchannel rfl hsettled rfl
    have hon := nextExchange_goesOn c.tick c.rest
      (sendFrame (ackFrame .control (s.dock.toggles.get .control)) (enterSettling i (acceptTurn c s)))
    have hframe := hon.after (((acceptTurn_frame c s).mono
      [.dockState, .dockKeys, .angle, .posture, .orient, .supply, .pen, .poll, .dockLink, .advisor, .events] (by decide)).trans hby.frame)
      (m := [.dockState, .dockKeys, .angle, .posture, .orient, .supply, .pen, .poll, .dockLink, .advisor, .events, .pulse])
    generalize enterSettling i (acceptTurn c s) = w at *
    generalize nextExchange c.tick c.rest (sendFrame (ackFrame .control (s.dock.toggles.get .control)) w) = t at *
    have hafter := hon.frame_sent
    obtain ⟨htstate, -, -, -, -, htsettle⟩ := station_state (s := t) ((station_of_frame hafter (by decide)).trans rfl)
    refine ⟨hident, htimer, hbase, hrunning, hsilence, htoggle, hsent, hextra, hnext, hended, hbegun, ⟨hfree, htaken, hhalt⟩,
      fun hpos => ?_, fun hzero => ?_, hframe⟩
    · obtain ⟨hsettling, hmark, hsettle, hevent, hheld⟩ := hby.settling hpos
      have hpoll : t.poll = w.poll := hafter .poll (by decide)
      have hadvisor : t.advisor = w.advisor := hafter .advisor (by decide)
      have hevents : t.host.events = w.host.events := hafter .events (by decide)
      refine ⟨htstate.trans hsettling, fun hacc hcad => ?_, htsettle.trans hsettle, hevents ▸ hevent,
        (congrArg AdvisorBlock.heldDock hadvisor).trans hheld⟩
      rw [← hmark hacc (by rw [← show t.dock.cadence = w.dock.cadence from hon.cadence]; exact hcad)]
      exact congrArg (fun b : PollBlock => (b.schedule.get .basa).settle) hpoll
    · obtain ⟨hattached, hunknown⟩ := hby.attached hzero
      exact ⟨htstate.trans hattached, (congrArg PostureBlock.posture (hafter .posture (by decide) : t.posture = w.posture)).trans hunknown⟩
  · have heffect := effect_accepted hcycle hkept hinward hjudged (by rw [hchannel])
    have htake : takeMessage c.afterMark (.power units) (acceptTurn c s) = takePower units (acceptTurn c s) := if_pos hlinked
    rw [htake, hchannel] at heffect
    rw [heffect]
    obtain ⟨hextra, hrequests, hsteady, hframe⟩ := takePower_does units (acceptTurn c s)
    have hsettling : s.dock.state = .settling → SameBut [.dockState] (acceptTurn c s) (takePower units (acceptTurn c s)) := fun h => by
      rw [takePower_of_settling (s := acceptTurn c s) h]
      intro b hb
      cases b <;> first | rfl | exact absurd (by decide) hb
    generalize takePower units (acceptTurn c s) = w at *
    have hon := goOn_goesOn c (sendFrame (ackFrame .control (s.dock.toggles.get .control)) w)
    have hafter := hon.frame_sent
    have hlimit : ∀ i, s.dock.identity = some i → (acceptTurn c s).extraLimit = i.extraLimit := fun i hi => by
      show (match s.dock.identity with | none => 0 | some i => i.extraLimit) = _
      rw [hi]
    obtain ⟨hsilence, hsent, -⟩ := accepted_leaves hon hsteady
    refine ⟨hsilence, hsent, fun i hi => ⟨?_, fun hattached => ?_⟩, fun h => ?_, ?_⟩
    · rw [← hlimit i hi]
      exact (extraHeld_of_frame hafter (by decide)).trans hextra
    · rw [← hlimit i hi]
      exact (congrArg SupplyBlock.requests (hafter .supply (by decide))).trans (hrequests hattached)
    · exact hon.after (((acceptTurn_frame c s).mono [.dockState, .dockLink] (by decide)).trans ((hsettling h).mono _ (by decide)))
    · exact hon.after (((acceptTurn_frame c s).mono [.dockState, .dockLink, .supply, .pen, .poll, .advisor, .events] (by decide)).trans hframe)
  · have heffect := effect_accepted hcycle hkept hinward hjudged (by rw [hchannel])
    have htake : takeMessage c.afterMark .button (acceptTurn c s) = takeButton (acceptTurn c s) := if_pos hlinked
    rw [htake, hchannel] at heffect
    rw [heffect]
    have hsteady := takeButton_steady (acceptTurn c s)
    have hbegin := acceptTurn_frame c s
    generalize hw : takeButton (acceptTurn c s) = w at hsteady ⊢
    have hon := goOn_goesOn c (sendFrame (ackFrame .control (s.dock.toggles.get .control)) w)
    have hafter := hon.frame_sent
    obtain ⟨hsilence, -, -⟩ := accepted_leaves hon hsteady
    generalize goOn c (sendFrame (ackFrame .control (s.dock.toggles.get .control)) w) = t at hon hafter hsilence ⊢
    have hadvisor : t.advisor = w.advisor := hafter .advisor (by decide)
    refine ⟨hsilence, fun hup ⟨hattached, hlocked, hbudget⟩ => ?_, fun hup hrefused => ?_, fun hasleep => ?_, fun hwaking => ?_⟩
    · rw [takeButton_of_granted (s := acceptTurn c s) ((hostUp_iff _).2 hup) hattached hlocked hbudget] at hw
      obtain ⟨hlatch, hrequests, -, hactive⟩ := beginRelease_leaves (acceptTurn c s)
      have hframe := (hbegin.mono latchBlocks (by decide)).trans (beginRelease_frame (acceptTurn c s))
      rw [hw] at hlatch hrequests hactive hframe
      exact ⟨(hafter .latch (by decide)).trans hlatch, (congrArg SupplyBlock.requests (hafter .supply (by decide))).trans hrequests,
        (congrArg AdvisorBlock.lastActivity hadvisor).trans hactive, hon.after hframe⟩
    · rw [takeButton_of_refused (s := acceptTurn c s) ((hostUp_iff _).2 hup) hrefused] at hw
      exact hon.after (hw ▸ hbegin)
    · rw [takeButton_of_asleep (s := acceptTurn c s) hasleep] at hw
      have hdecided := (takeCause_decides (s := acceptTurn c s) .button hasleep).1
      have hactive := takeCause_lastActivity .button (acceptTurn c s)
      have hframe := (hbegin.mono [.poll, .dockLink, .advisor, .events] (by decide)).trans (takeCause_frame .button (acceptTurn c s))
      rw [hw] at hdecided hactive hframe
      exact ⟨State.WakeDecided.of_same (s := s) hdecided hadvisor (hafter .events (by decide)),
        (congrArg AdvisorBlock.lastActivity hadvisor).trans hactive, hon.after hframe⟩
    · rw [takeButton_of_waking (s := acceptTurn c s) hwaking] at hw
      exact hon.after (hw ▸ hbegin)
  · by_cases htoggle : toggle = s.dock.toggles.get c.channel
    · rw [effect_accepted hcycle hkept hinward hjudged htoggle]
      generalize hw : takeMessage c.afterMark (.motion x y z) (acceptTurn c s) = w
      obtain ⟨hturn, hlands⟩ := motion_takesTurn hw
      have hlink := hlands.frame .dockLink (by decide)
      simp only [Block.same, Prod.mk.injEq] at hlink
      obtain ⟨htoggles, hsilence, -, -, -, -, -, hnext, -, -, hsent⟩ := hlink
      have hon := goOn_goesOn c (sendFrame (ackFrame c.channel toggle) w)
      have hframe := hon.after (((acceptTurn_frame c s).mono [.fifo, .gaps, .poll, .dockLink] (by decide)).trans
        (hlands.frame.mono _ (by decide))) (m := [.fifo, .gaps, .poll, .dockLink, .pulse])
      have hturn := State.TakesTurn.after_link (s := s) hturn hon.frame_sent
      generalize goOn c (sendFrame (ackFrame c.channel toggle) w) = t at hon hframe hturn ⊢
      rw [← hchannel]
      refine ⟨hon.silence.trans hsilence, hon.sent_first hsent, hon.motionNext.trans (hnext.trans (if_pos hchannel)), fun _ => ⟨?_, hturn⟩,
        fun hother => absurd htoggle hother, hframe⟩
      rw [htoggle]
      exact hon.toggles.trans htoggles
    · rw [effect_duplicate hcycle hkept hinward hjudged htoggle]
      obtain ⟨hsilence, hsent, htoggles, hnext, hframe⟩ := duplicate_leaves (s := s) (goOn_goesOn c
        (sendFrame (ackFrame c.channel toggle) (goodExchange (beginTurn c s))))
      rw [← hchannel]
      exact ⟨hsilence, hsent, hnext.trans (if_pos hchannel), fun h => absurd h htoggle, fun _ => ⟨htoggles, hframe⟩,
        hframe.mono _ (by decide)⟩

end Sys2Proof.Machine
end

section
/-! The sample ports at a tick boundary: the order of arrival, the polls and reads that come due, the lines, and what has
arrived when the ports are done (R2, R5 to R7, R15 to R17). -/

namespace Sys2Proof.Machine

set_option Elab.async false

/-! ## The order of arrival (notes/assumptions/13) -/

theorem addMembers_append {α : Type} [DecidableEq α] (l a b : List α) :
    addMembers l (a ++ b) = addMembers (addMembers l a) b := List.foldl_append

theorem addMembers_extends {α : Type} [DecidableEq α] (l new : List α) : ∃ more, addMembers l new = l ++ more := by
  unfold addMembers
  induction new generalizing l with
  | nil => exact ⟨[], (List.append_nil l).symm⟩
  | cons x rest ih =>
    obtain ⟨more, hmore⟩ := ih (addMember l x)
    have hone : ∃ one, addMember l x = l ++ one := by
      unfold addMember
      split
      · exact ⟨[], (List.append_nil l).symm⟩
      · exact ⟨[x], rfl⟩
    obtain ⟨one, hone⟩ := hone
    refine ⟨one ++ more, ?_⟩
    rw [List.foldl_cons, hmore, hone, List.append_assoc]

theorem mem_addMembers {α : Type} [DecidableEq α] {l new : List α} {x : α} : x ∈ addMembers l new ↔ x ∈ l ∨ x ∈ new := by
  unfold addMembers
  induction new generalizing l with
  | nil => simp
  | cons y rest ih =>
    have hone : x ∈ addMember l y ↔ x ∈ l ∨ x = y := by
      unfold addMember
      split
      · next h => exact ⟨.inl, fun hx => hx.elim id fun hxy => hxy ▸ h⟩
      · simp
    rw [List.foldl_cons, ih, hone, List.mem_cons, or_assoc]

/-- Each member stands behind those that came before its own first mention. -/
theorem addMembers_split {α : Type} [DecidableEq α] {l : List α} {x : α} (h : x ∈ l) :
    ∃ before after, addMembers [] l = before ++ x :: after ∧ ∀ y, y ∈ before ↔ y ∈ l.takeWhile (fun z => z ≠ x) := by
  obtain ⟨first, rest, rfl, hfirst⟩ := List.eq_append_cons_of_mem h
  have hnew : x ∉ addMembers [] first := fun hx => by
    rw [mem_addMembers] at hx
    exact hx.elim (fun hnil => by cases hnil) hfirst
  have hjoin : addMember (addMembers [] first) x = addMembers [] first ++ [x] := if_neg hnew
  obtain ⟨after, hafter⟩ := addMembers_extends (addMembers [] first ++ [x]) rest
  have htake : (first ++ x :: rest).takeWhile (fun z => decide (z ≠ x)) = first := by
    have hall : ∀ y ∈ first, decide (y ≠ x) = true := fun y hy => decide_eq_true fun hyx => hfirst (hyx ▸ hy)
    rw [List.takeWhile_append_of_pos hall, List.takeWhile_cons_of_neg (by simp), List.append_nil]
  refine ⟨addMembers [] first, after, ?_, fun y => ?_⟩
  · rw [addMembers_append]
    show addMembers (addMember (addMembers [] first) x) rest = _
    rw [hjoin, hafter, List.append_assoc]
    rfl
  · rw [htake, mem_addMembers]
    simp

theorem mem_allSources (src : Source) : src ∈ allSources := by cases src <;> decide

/-- A source in the order of arrival, and what the command names ahead of it. -/
theorem arrivalOrder_split (arrival : List Source) (src : Source) :
    ∃ before after, arrivalOrder arrival = before ++ src :: after
      ∧ ∀ x ∈ arrival, x ∈ before ↔ x ∈ arrival.takeWhile (fun z => z ≠ src) := by
  have horder : arrivalOrder arrival = addMembers [] (arrival ++ allSources) := (addMembers_append _ _ _).symm
  obtain ⟨before, after, hsplit, hbefore⟩ :=
    addMembers_split (l := arrival ++ allSources) (List.mem_append_right _ (mem_allSources src))
  refine ⟨before, after, horder.trans hsplit, fun x hx => (hbefore x).trans ?_⟩
  by_cases h : src ∈ arrival
  · obtain ⟨first, rest, rfl, hfirst⟩ := List.eq_append_cons_of_mem h
    have hall : ∀ y ∈ first, decide (y ≠ src) = true := fun y hy => decide_eq_true fun hysrc => hfirst (hysrc ▸ hy)
    rw [List.append_assoc, List.takeWhile_append_of_pos hall, List.takeWhile_append_of_pos hall, List.cons_append,
      List.takeWhile_cons_of_neg (by simp), List.takeWhile_cons_of_neg (by simp)]
  · have hall : ∀ y ∈ arrival, decide (y ≠ src) = true := fun y hy => decide_eq_true fun hysrc => h (hysrc ▸ hy)
    rw [List.takeWhile_append_of_pos hall, takeWhile_eq_self_of_all hall]
    exact ⟨fun _ => hx, fun hx' => List.mem_append_left _ hx'⟩

/-! ## The places of a boundary -/

/-- The places in the order of arrival. -/
def places (arrival : List Source) (born : Source → Option Values) : List Coming :=
  (arrivalOrder arrival).filterMap (comingPlace arrival born)

theorem places_nodup (arrival : List Source) (born : Source → Option Values) : ((places arrival born).map Coming.source).Nodup :=
  (arrivalOrder_nodup arrival).sublist (comingPlaces_sources _ _ _)

/-- A place comes from its source. -/
theorem mem_places {arrival : List Source} {born : Source → Option Values} {c : Coming} (h : c ∈ places arrival born) :
    comingPlace arrival born c.source = some c := by
  obtain ⟨src, -, hsrc⟩ := List.mem_filterMap.1 h
  rw [comingPlace_source hsrc]
  exact hsrc

/-- The sources of the Sensor Bus and BASA. -/
def isPort (src : Source) : Prop := src = .lida ∨ src = .lidg ∨ src = .als ∨ src = .basa

theorem comingPlace_of_born {arrival : List Source} {born : Source → Option Values} {src : Source} {v : Values} (h : born src = some v) :
    comingPlace arrival born src = some { source := src, values := some v, afterMark := true } := by
  unfold comingPlace
  rw [h]

/-- What brings forth nothing keeps a place only as a port named by the command. -/
theorem comingPlace_of_none {arrival : List Source} {born : Source → Option Values} {src : Source} {c : Coming} (h : born src = none)
    (hc : comingPlace arrival born src = some c) : c.values = none ∧ isPort src ∧ src ∈ arrival := by
  unfold comingPlace at hc
  rw [h] at hc
  unfold isPort
  cases src <;> simp only [reduceCtorEq, Option.ite_none_right_eq_some, Option.some.injEq] at hc <;>
    obtain ⟨hmem, rfl⟩ := hc <;> exact ⟨rfl, by simp, hmem⟩

theorem comingPlace_of_port {arrival : List Source} {born : Source → Option Values} {src : Source} (h : born src = none)
    (hport : isPort src) (hmem : src ∈ arrival) :
    comingPlace arrival born src = some { source := src, values := none, afterMark := false } := by
  unfold comingPlace
  rw [h]
  obtain rfl | rfl | rfl | rfl := hport <;> exact if_pos hmem

/-- A source that brings forth nothing and is no port has no place. -/
theorem no_place {arrival : List Source} {born : Source → Option Values} {src : Source} (h : born src = none) (hport : ¬ isPort src) :
    ∀ c ∈ places arrival born, c.source ≠ src := fun c hc hsrc => by
  have hplace := mem_places hc
  rw [hsrc] at hplace
  exact hport (comingPlace_of_none h hplace).2.1

/-- The place of a sample born: among those ahead of it there is one kept for a port just when the command names one ahead. -/
theorem places_split {arrival : List Source} {born : Source → Option Values} {src : Source} {v : Values} (h : born src = some v)
    (hports : ∀ x, isPort x → born x = none) :
    ∃ ahead behind, places arrival born = ahead ++ { source := src, values := some v, afterMark := true } :: behind
      ∧ (∀ c ∈ ahead, c.source ≠ src) ∧ (∀ c ∈ behind, c.source ≠ src)
      ∧ (waitsForPort arrival src = false ↔ ∀ c ∈ ahead, c.values.isSome = true) := by
  obtain ⟨before, after, horder, hbefore⟩ := arrivalOrder_split arrival src
  let ahead := before.filterMap (comingPlace arrival born)
  let behind := after.filterMap (comingPlace arrival born)
  have hplaces : places arrival born = ahead ++ { source := src, values := some v, afterMark := true } :: behind := by
    unfold places
    rw [horder, List.filterMap_append, List.filterMap_cons_some (comingPlace_of_born h)]
  have hnodup := places_nodup arrival born
  rw [hplaces, List.map_append, List.map_cons, List.nodup_append] at hnodup
  obtain ⟨-, hbehind, hdisjoint⟩ := hnodup
  refine ⟨ahead, behind, hplaces, fun c hc hsrc => hdisjoint _ (List.mem_map_of_mem hc) src List.mem_cons_self hsrc,
    fun c hc hsrc => (List.nodup_cons.1 hbehind).1 (List.mem_map.2 ⟨c, hc, hsrc⟩), ?_⟩
  unfold waitsForPort
  rw [List.any_eq_false]
  refine ⟨fun hnone c hc => ?_, fun hall x hx hport => ?_⟩
  · cases hvalues : c.values with
    | some v => rfl
    | none =>
      obtain ⟨x, hx, hplace⟩ := List.mem_filterMap.1 hc
      cases hborn : born x with
      | some w =>
        rw [comingPlace_of_born hborn] at hplace
        rw [← Option.some.inj hplace] at hvalues
        cases hvalues
      | none =>
        obtain ⟨-, hport, hmem⟩ := comingPlace_of_none hborn hplace
        have hahead := (hbefore x hmem).1 hx
        exact absurd (by unfold isPort at hport; simpa [or_assoc] using hport) (hnone x hahead)
  · have hport' : isPort x := by unfold isPort; simpa [or_assoc] using hport
    have hmem : x ∈ arrival := (List.takeWhile_sublist _).subset hx
    have hplace := comingPlace_of_port (hports x hport') hport' hmem
    have hin : ({ source := x, values := none, afterMark := false } : Coming) ∈ ahead :=
      List.mem_filterMap.2 ⟨x, (hbefore x hmem).2 hx, hplace⟩
    exact absurd (hall _ hin) (by simp)

/-! ## What has arrived when the ports are done -/

/-- The sources that bring forth samples at a boundary. -/
def bornSources : List Source := [.halc, .half, .coil, .pcel, .ctmp, .penp, .dsns]

theorem mem_bornSources {src : Source} (h : ¬ isPort src) : src ∈ bornSources := by
  unfold isPort at h
  cases src <;> simp_all [bornSources]

theorem takeWhile_sources_nodup {p : Coming → Bool} {l : List Coming} (h : (l.map Coming.source).Nodup) :
    ((l.takeWhile p).map Coming.source).Nodup := h.sublist ((List.takeWhile_sublist p).map _)

/-- The samples at the front of the order arrive, up to the first place kept. -/
theorem landReady_does (s : State) :
    Lands s (landReady s) ∧ (landReady s).poll.coming = s.poll.coming.dropWhile (fun c => c.values.isSome)
      ∧ ((s.poll.coming.map Coming.source).Nodup →
          s.Receives ((s.poll.coming.takeWhile (fun c => c.values.isSome)).filterMap s.landing) (landReady s)) := by
  unfold landReady
  generalize s.poll.coming = l
  exact ⟨(writeComing_lands _ s).trans (landAll_lands _ _).1, (landAll_lands _ _).2, fun h =>
    landAll_receives (s := writeComing (l.dropWhile (fun c => c.values.isSome)) s) (takeWhile_sources_nodup h)⟩

theorem mem_of_mem_dropWhile {α : Type} {p : α → Bool} {l : List α} {x : α} (h : x ∈ l.dropWhile p) : x ∈ l :=
  (List.dropWhile_sublist p).subset h

/-- What has arrived was born. -/
theorem landed_born {arrival : List Source} {born : Source → Option Values} {l : List Coming}
    (hplaces : ∀ c ∈ l, comingPlace arrival born c.source = some c) {c : Coming} (hc : c ∈ l.takeWhile (fun c => c.values.isSome)) :
    born c.source ≠ none := fun h => by
  obtain ⟨hnone, -⟩ := comingPlace_of_none h (hplaces c ((List.takeWhile_sublist _).subset hc))
  have hsome : c.values.isSome = true := of_mem_takeWhile (p := fun c : Coming => c.values.isSome) hc
  rw [hnone] at hsome
  cases hsome

/-- At most seven samples are born at a boundary. -/
theorem landed_length {arrival : List Source} {born : Source → Option Values} (hports : ∀ x, isPort x → born x = none) :
    ((places arrival born).takeWhile (fun c => c.values.isSome)).length ≤ 7 := by
  have hplaces : ∀ c ∈ places arrival born, comingPlace arrival born c.source = some c := fun c hc => mem_places hc
  have hnodup := places_nodup arrival born
  generalize places arrival born = l at hplaces hnodup ⊢
  have hsub : (l.takeWhile (fun c => c.values.isSome)).map Coming.source ⊆ bornSources := fun src hsrc => by
    obtain ⟨c, hc, rfl⟩ := List.mem_map.1 hsrc
    exact mem_bornSources fun hport => landed_born hplaces hc (hports _ hport)
  have hle := length_le_of_subset (takeWhile_sources_nodup hnodup) hsub
  rw [List.length_map] at hle
  exact hle

/-- The samples born take their places, and the first of them arrive. -/
theorem bringForth_does (arrival : List Source) (born : Source → Option Values) (s : State) :
    Lands s (bringForth arrival born s)
      ∧ (bringForth arrival born s).poll.coming = (places arrival born).dropWhile (fun c => c.values.isSome)
      ∧ s.Receives (((places arrival born).takeWhile (fun c => c.values.isSome)).filterMap s.landing) (bringForth arrival born s) := by
  have hbring : bringForth arrival born s = landReady (writeComing (places arrival born) s) := rfl
  have hnodup := places_nodup arrival born
  rw [hbring]
  generalize places arrival born = l at hnodup ⊢
  obtain ⟨hlands, hcoming, hreceives⟩ := landReady_does (writeComing l s)
  exact ⟨(writeComing_lands _ s).trans hlands, hcoming, hreceives hnodup⟩

/-- Samples of other sources are no records of this one. -/
theorem landings_filter_of_other {l : List Coming} {s : State} {src : Source} (h : ∀ c ∈ l, c.source ≠ src) :
    (l.filterMap s.landing).filter (fun r => r.source = src) = [] :=
  List.filter_eq_nil_iff.2 fun r hr => by
    obtain ⟨c, hc, hlanding⟩ := List.mem_filterMap.1 hr
    rw [decide_eq_true_eq, landing_source hlanding]
    exact h c hc

/-- With room for all, a source's records are those before and what has arrived of it. -/
theorem bringForth_recordsOf {arrival : List Source} {born : Source → Option Values} {s : State} (hports : ∀ x, isPort x → born x = none)
    (hroom : s.intake.fifo.length ≤ 9) (src : Source) :
    (bringForth arrival born s).recordsOf src
        = s.recordsOf src ++ (((places arrival born).takeWhile (fun c => c.values.isSome)).filterMap s.landing).filter (fun r => r.source = src)
      ∧ ∀ p : Polled, (bringForth arrival born s).settleMark p
          = (s.settleMark p && !(((places arrival born).takeWhile (fun c => c.values.isSome)).filterMap s.landing).any
              (fun r => r.source = p.source && r.unsettled)) := by
  obtain ⟨-, -, hfifo, -, hmarks⟩ := bringForth_does arrival born s
  have hall : (((places arrival born).takeWhile (fun c => c.values.isSome)).filterMap s.landing).take (16 - s.intake.fifo.length)
      = ((places arrival born).takeWhile (fun c => c.values.isSome)).filterMap s.landing :=
    List.take_of_length_le (Nat.le_trans (Nat.le_trans (List.length_filterMap_le _ _) (landed_length hports)) (by omega))
  rw [hall] at hfifo hmarks
  refine ⟨?_, hmarks⟩
  unfold State.recordsOf
  rw [hfifo, List.filter_append]

theorem takeWhile_append_of_stop {α : Type} {p : α → Bool} {l : List α} (m : List α) (h : ¬ ∀ c ∈ l, p c = true) :
    (l ++ m).takeWhile p = l.takeWhile p ∧ (l ++ m).dropWhile p = l.dropWhile p ++ m := by
  induction l with
  | nil => exact absurd (fun c hc => by cases hc) h
  | cons x rest ih =>
    by_cases hx : p x = true
    · have hrest : ¬ ∀ c ∈ rest, p c = true := fun hall => h fun c hc => by
        rcases List.mem_cons.1 hc with rfl | hc
        · exact hx
        · exact hall c hc
      obtain ⟨htake, hdrop⟩ := ih hrest
      rw [List.cons_append, List.takeWhile_cons_of_pos hx, List.takeWhile_cons_of_pos hx, htake, List.dropWhile_cons_of_pos hx,
        List.dropWhile_cons_of_pos hx, hdrop]
      exact ⟨rfl, rfl⟩
    · rw [List.cons_append, List.takeWhile_cons_of_neg hx, List.takeWhile_cons_of_neg hx, List.dropWhile_cons_of_neg hx,
        List.dropWhile_cons_of_neg hx]
      exact ⟨rfl, rfl⟩

/-- The record that a sample born now becomes when it arrives at once. -/
def State.newborn (s : State) (src : Source) (v : Values) : Sample :=
  { source := src, timestamp := s.tick
    unsettled := (match polledOf src with | none => false | some p => s.settleMark p), values := v }

theorem landing_newborn (s : State) (src : Source) (v : Values) :
    s.landing { source := src, values := some v, afterMark := true } = some (s.newborn src v) := by
  unfold State.landing State.newborn
  dsimp only [Option.map_some]
  cases polledOf src <;> simp

/-- A settle mark of a source that has had no sample. -/
theorem any_unsettled_of_other {l : List Coming} {s : State} {p : Polled} (h : ∀ c ∈ l, c.source ≠ p.source) :
    (l.filterMap s.landing).any (fun r => r.source = p.source && r.unsettled) = false :=
  List.any_eq_false.2 fun r hr => by
    obtain ⟨c, hc, hlanding⟩ := List.mem_filterMap.1 hr
    simp [landing_source hlanding, h c hc]

/-- A sample born at the boundary arrives at once, unless a place kept for a port stands ahead. -/
theorem bringForth_of_born {arrival : List Source} {born : Source → Option Values} {s : State} {src : Source} {v : Values}
    (hports : ∀ x, isPort x → born x = none) (hroom : s.intake.fifo.length ≤ 9) (h : born src = some v) :
    (waitsForPort arrival src = false →
        (bringForth arrival born s).recordsOf src = s.recordsOf src ++ [s.newborn src v]
          ∧ (∀ c ∈ (bringForth arrival born s).poll.coming, c.source ≠ src)
          ∧ ∀ p : Polled, p.source = src → (bringForth arrival born s).settleMark p = false)
      ∧ (waitsForPort arrival src = true →
        (bringForth arrival born s).recordsOf src = s.recordsOf src
          ∧ { source := src, values := some v, afterMark := true } ∈ (bringForth arrival born s).poll.coming
          ∧ ∀ p : Polled, p.source = src → (bringForth arrival born s).settleMark p = s.settleMark p) := by
  obtain ⟨hrecords, hmarks⟩ := bringForth_recordsOf (arrival := arrival) hports hroom src
  obtain ⟨-, hcoming, -⟩ := bringForth_does arrival born s
  obtain ⟨ahead, behind, hplaces, hahead, hbehind, hwaits⟩ := places_split (arrival := arrival) h hports
  rw [hplaces] at hrecords hmarks hcoming
  refine ⟨fun hfree => ?_, fun hwaiting => ?_⟩
  · have hall := hwaits.1 hfree
    have htaken : ∀ c ∈ behind.takeWhile (fun c => c.values.isSome), c.source ≠ src := fun c hc =>
      hbehind c ((List.takeWhile_sublist _).subset hc)
    rw [List.takeWhile_append_of_pos (p := fun c : Coming => c.values.isSome) hall,
      List.takeWhile_cons_of_pos (p := fun c : Coming => c.values.isSome) rfl] at hrecords hmarks
    rw [List.dropWhile_append_of_pos (p := fun c : Coming => c.values.isSome) hall,
      List.dropWhile_cons_of_pos (p := fun c : Coming => c.values.isSome) rfl] at hcoming
    refine ⟨?_, fun c hc => ?_, fun p hp => ?_⟩
    · rw [hrecords, List.filterMap_append, List.filterMap_cons_some (landing_newborn s src v), List.filter_append,
        landings_filter_of_other hahead, List.filter_cons_of_pos (by simp [State.newborn]), landings_filter_of_other htaken,
        List.nil_append]
    · rw [hcoming] at hc
      exact hbehind c ((List.dropWhile_sublist _).subset hc)
    · rw [hmarks, List.filterMap_append, List.filterMap_cons_some (landing_newborn s src v), List.any_append, List.any_cons]
      have hown : (s.newborn src v).unsettled = s.settleMark p := by
        unfold State.newborn
        subst hp
        cases p <;> rfl
      rw [hown, show (s.newborn src v).source = p.source from hp.symm]
      cases s.settleMark p <;> simp
  · obtain ⟨htake, hdrop⟩ := takeWhile_append_of_stop (p := fun c : Coming => c.values.isSome)
      ({ source := src, values := some v, afterMark := true } :: behind) (fun hall => by
        rw [hwaits.2 hall] at hwaiting
        cases hwaiting)
    have htaken : ∀ c ∈ ahead.takeWhile (fun c => c.values.isSome), c.source ≠ src := fun c hc =>
      hahead c ((List.takeWhile_sublist _).subset hc)
    rw [htake] at hrecords hmarks
    rw [hdrop] at hcoming
    refine ⟨?_, ?_, fun p hp => ?_⟩
    · rw [hrecords, landings_filter_of_other htaken, List.append_nil]
    · rw [hcoming]
      exact List.mem_append_right _ List.mem_cons_self
    · rw [hmarks, any_unsettled_of_other (hp ▸ htaken)]
      simp

/-- A source that brings forth nothing has no sample. -/
theorem bringForth_of_none {arrival : List Source} {born : Source → Option Values} {s : State} {src : Source}
    (hports : ∀ x, isPort x → born x = none) (hroom : s.intake.fifo.length ≤ 9) (h : born src = none) :
    (bringForth arrival born s).recordsOf src = s.recordsOf src
      ∧ (¬ isPort src → ∀ c ∈ (bringForth arrival born s).poll.coming, c.source ≠ src)
      ∧ ∀ p : Polled, p.source = src → (bringForth arrival born s).settleMark p = s.settleMark p := by
  obtain ⟨hrecords, hmarks⟩ := bringForth_recordsOf (arrival := arrival) hports hroom src
  obtain ⟨-, hcoming, -⟩ := bringForth_does arrival born s
  have htaken : ∀ c ∈ (places arrival born).takeWhile (fun c => c.values.isSome), c.source ≠ src := fun c hc hsrc =>
    landed_born (fun _ => mem_places) hc (hsrc ▸ h)
  refine ⟨?_, fun hport c hc => ?_, fun p hp => ?_⟩
  · rw [hrecords, landings_filter_of_other htaken, List.append_nil]
  · rw [hcoming] at hc
    exact no_place h hport c (mem_of_mem_dropWhile hc)
  · rw [hmarks, any_unsettled_of_other (hp ▸ htaken)]
    simp

end Sys2Proof.Machine
end

section
/-! What a control period that leaves the pen CHARGING touches, and how polls and reads come due at a boundary. -/

namespace Sys2Proof.Machine

set_option Elab.async false

/-! ## A pen that stays CHARGING (R115, R140) -/

theorem rereadGates_of_still {s : State} (h : s.pen.state = .charging) (hstill : (rereadGates s).pen.state = .charging) :
    rereadGates s = s := by
  have hreread : rereadGates s = if s.gateClosed .inhibit || s.gateClosed .sleep then pauseLeading s else s := by
    unfold rereadGates; rw [h]
  rw [hreread] at hstill ⊢
  split
  · next hclosed =>
    rw [if_pos hclosed] at hstill
    unfold pauseLeading at hstill ⊢
    cases hgate : s.leadingGate with
    | none => rfl
    | some g =>
      rw [hgate] at hstill
      have hpaused : (pausePen g s).pen.state = .paused := (pausePen_pauses g (coilGuarded_of_charging h)).1
      rw [hpaused] at hstill
      cases hstill
  · rfl

/-- From `s` to `t` grants may have changed and been announced, and nothing else; without a change only the requests differ. -/
structure StillServed (s t : State) : Prop where
  pen : t.pen = s.pen
  frame : SameBut [.supply, .events, .dockLink] s t
  same : t.supply.grants = s.supply.grants → SameBut [.supply] s t

theorem allocate_of_still {s : State} (h : s.pen.state = .charging) (hstill : (allocate s).pen.state = .charging) :
    StillServed s (allocate s) := by
  have hannounced : SameBut [.supply, .events] s (announceGrants s) := by
    have htaken : SameBut [.supply] s (takeGrants s) := by
      intro b hb
      cases b <;> first | rfl | exact absurd (by decide) hb
    obtain hcase | hcase := announceGrants_cases s <;> rw [hcase]
    · exact htaken.mono _ (by decide)
    · exact (htaken.mono _ (by decide)).trans ((raise_frame _ _).mono _ (by decide))
  have hpen := announceGrants_pen s
  have hregate : regateGrants s = announceGrants s := by
    rw [allocate_pen] at hstill
    unfold regateGrants at hstill ⊢
    split
    · rfl
    · next hchanged =>
      rw [if_neg hchanged] at hstill
      exact rereadGates_of_still (by rw [hpen]; exact h) hstill
  have hsupply : (allocate s).supply.grants = s.newGrants := congrArg SupplyBlock.grants (allocate_supply s)
  refine ⟨?_, ?_, fun hsame => ?_⟩
  · rw [allocate_pen, hregate, hpen]
  · have hafter := allocate_after_regate s
    rw [hregate] at hafter
    exact (hannounced.mono _ (by decide)).trans (hafter.mono _ (by decide))
  · rw [allocate_of_unchanged (hsupply.symm.trans hsame)]
    exact .refl _ s

theorem placeRequests_of_still {r : Shares} {s : State} (h : s.pen.state = .charging)
    (hstill : (placeRequests r s).pen.state = .charging) : StillServed s (placeRequests r s) := by
  unfold placeRequests at hstill ⊢
  split
  · exact ⟨rfl, .refl _ s, fun _ => .refl _ s⟩
  · next hchanged =>
    rw [if_neg hchanged] at hstill
    obtain ⟨hpen, hframe, hsame⟩ := allocate_of_still (s := { s with supply := { s.supply with requests := r } }) h hstill
    have hplaced : SameBut [.supply] s { s with supply := { s.supply with requests := r } } := by
      intro b hb
      cases b <;> first | rfl | exact absurd (by decide) hb
    exact ⟨hpen, (hplaced.mono _ (by decide)).trans hframe, fun hgrants => hplaced.trans (hsame hgrants)⟩

/-- A period that leaves the pen CHARGING touches pen and supply, and by a change of grants events and the Dock Link. -/
def HoldsCharging (s t : State) : Prop :=
  t.pen.state = .charging →
    SameBut [.pen, .supply, .events, .dockLink] s t ∧ (t.supply.grants = s.supply.grants → SameBut [.pen, .supply] s t)

theorem HoldsCharging.of_left {s t : State} {st : PenState} (h : t.pen.state = st) (hst : st ≠ .charging := by decide) :
    HoldsCharging s t := fun hcharging => absurd (h.symm.trans hcharging) hst

/-- A write of the pen before. -/
theorem HoldsCharging.after_pen {s u t : State} (h : HoldsCharging u t)
    (hu : SameBut [.pen] s u := by intro b hb; cases b <;> first | rfl | exact absurd (by decide) hb)
    (hgrants : u.supply = s.supply := by rfl) : HoldsCharging s t := fun hcharging => by
  obtain ⟨hframe, hsame⟩ := h hcharging
  exact ⟨(hu.mono _ (by decide)).trans hframe, fun hg => (hu.mono _ (by decide)).trans (hsame (by rw [hgrants]; exact hg))⟩

theorem stepCoil_state (s : State) : (stepCoil s).pen.state = s.pen.state := by
  unfold stepCoil
  dsimp only
  split <;> rfl

/-- The curve's request placed. -/
def placeCurve (s : State) : State :=
  placePen (penUnits (curveTarget s.pen.curve s.pen.cell))
    { s with pen := { s.pen with curveTarget := curveTarget s.pen.curve s.pen.cell } }

theorem regulate_eq (s : State) :
    regulate s = if (placeCurve s).pen.state = .charging then stepCoil (placeCurve s) else placeCurve s := rfl

theorem regulate_holds {s : State} (h : s.pen.state = .charging) : HoldsCharging s (regulate s) := by
  intro hstill
  rw [regulate_eq] at hstill ⊢
  by_cases hplaced : (placeCurve s).pen.state = .charging
  · rw [if_pos hplaced]
    obtain ⟨-, hframe, hsame⟩ := placeRequests_of_still
      (s := { s with pen := { s.pen with curveTarget := curveTarget s.pen.curve s.pen.cell } }) h hplaced
    have hcurve : SameBut [.pen] s { s with pen := { s.pen with curveTarget := curveTarget s.pen.curve s.pen.cell } } := by
      intro b hb
      cases b <;> first | rfl | exact absurd (by decide) hb
    have hstep := stepCoil_frame (placeCurve s)
    have hgrants : (stepCoil (placeCurve s)).supply = (placeCurve s).supply := hstep .supply (by decide)
    refine ⟨((hcurve.mono _ (by decide)).trans (hframe.mono _ (by decide))).trans (hstep.mono _ (by decide)), fun hkept => ?_⟩
    have hkept' : (placeCurve s).supply.grants = s.supply.grants := by rw [← hgrants]; exact hkept
    exact ((hcurve.mono _ (by decide)).trans ((hsame hkept').mono _ (by decide))).trans (hstep.mono _ (by decide))
  · rw [if_neg hplaced] at hstill
    exact absurd hstill hplaced

theorem takeFault_left (f : PenFault) {s : State} (h : s.pen.state = .charging) : (takeFault f s).pen.state ≠ .charging := by
  have htaken := takeFault_taken f h
  unfold State.FaultTaken at htaken
  obtain ⟨-, -, -, -, -, -, hlatched, hwaits, -⟩ := htaken
  by_cases hl : s.param .retryLimitMode = 1 ∧ 5 ≤ min 255 (s.pen.faults + 1)
  · rw [(hlatched hl).1]; decide
  · rw [(hwaits hl).1]; decide

theorem checkTopOff_holds {s : State} (h : s.pen.state = .charging) : HoldsCharging s (checkTopOff s) := by
  unfold checkTopOff
  dsimp only
  split
  · exact .of_left ((topOff_tops (s := { s with pen := { s.pen with taperStart := startTick s s.tapered s.pen.taperStart } })
      (coilGuarded_of_charging h)).1.1)
  · exact (regulate_holds (s := { s with pen := { s.pen with taperStart := startTick s s.tapered s.pen.taperStart } }) h).after_pen

theorem checkCoupling_holds {s : State} (h : s.pen.state = .charging) : HoldsCharging s (checkCoupling s) := by
  unfold checkCoupling
  dsimp only
  split
  · exact fun hstill => absurd hstill (takeFault_left .coupling
      (s := { s with pen := { s.pen with couplingStart := startTick s s.uncoupled s.pen.couplingStart } }) h)
  · exact (checkTopOff_holds (s := { s with pen := { s.pen with couplingStart := startTick s s.uncoupled s.pen.couplingStart } })
      h).after_pen

theorem checkOvercurrent_holds {s : State} (h : s.pen.state = .charging) : HoldsCharging s (checkOvercurrent s) := by
  unfold checkOvercurrent
  split
  · exact fun hstill => absurd hstill (takeFault_left .overcurrent h)
  · exact (checkCoupling_holds (s := { s with pen := { s.pen with overLimit := s.overLimitNow } }) h).after_pen

/-- With no closed gate there is nothing to pause for. -/
theorem pauseLeading_holds {s : State} (h : s.pen.state = .charging) : HoldsCharging s (pauseLeading s) := by
  unfold pauseLeading
  split
  · exact fun _ => ⟨.refl _ s, fun _ => .refl _ s⟩
  · exact .of_left ((pausePen_pauses _ (coilGuarded_of_charging h)).1)

theorem controlPeriod_holds {s : State} (h : s.pen.state = .charging) : HoldsCharging s (controlPeriod s) := by
  unfold controlPeriod
  split
  · exact (pauseLeading_holds (s := { s with pen := { s.pen with monitorClosed := true } }) h).after_pen
  · split
    · exact pauseLeading_holds h
    · exact checkOvercurrent_holds h

theorem SameBut.dock_same {l : List Block} {s t : State} (h : SameBut l s t)
    (hl : ∀ b ∈ [Block.dockLink, .dockState, .dockKeys], b ∉ l) : t.dock = s.dock := by
  have hlink := h .dockLink (hl _ (by decide))
  have hstate := h .dockState (hl _ (by decide))
  have hkeys := h .dockKeys (hl _ (by decide))
  simp only [Block.same, Prod.mk.injEq] at hlink hstate hkeys
  revert hlink hstate hkeys
  cases t.dock
  cases s.dock
  rintro ⟨rfl, rfl, rfl, rfl, rfl, rfl, rfl, rfl, rfl, rfl, rfl⟩ ⟨rfl, rfl, rfl, rfl, rfl, rfl, rfl⟩ ⟨rfl, rfl, rfl⟩
  rfl

/-- Without a period nothing happens; a period that leaves the pen CHARGING leaves poll and lines, and with the grants the dock. -/
theorem duePeriod_quiet {s : State} (h : ¬ (s.pen.state = .charging ∧ s.tick.toNat % 16 = 0) ∨ (duePeriod s).pen.state = .charging) :
    (duePeriod s).poll = s.poll ∧ ((duePeriod s).supply.grants = s.supply.grants → (duePeriod s).dock = s.dock) := by
  by_cases hdue : s.pen.state = .charging ∧ s.tick.toNat % 16 = 0
  · have hperiod : duePeriod s = controlPeriod s := if_pos hdue
    have hstill := h.resolve_left fun hno => hno hdue
    rw [hperiod] at hstill ⊢
    obtain ⟨hframe, hsame⟩ := controlPeriod_holds hdue.1 hstill
    refine ⟨hframe .poll (by decide), fun hgrants => ?_⟩
    exact (hsame hgrants).dock_same (by decide)
  · have hperiod : duePeriod s = s := if_neg hdue
    rw [hperiod]
    exact ⟨rfl, fun _ => rfl⟩

/-! ## Sources that come due (R5, R7, R9, R10) -/

/-- From `s` to `t` the schedules of the sources in `done` have moved on where they came due, and nothing else of them. -/
structure Renewed (done : List Polled) (s t : State) : Prop where
  tick : t.tick = s.tick
  health : t.poll.health = s.poll.health
  coming : t.poll.coming = s.poll.coming
  fifo : t.intake.fifo = s.intake.fifo
  settle : ∀ p, t.settleMark p = s.settleMark p
  code : ∀ p, (t.poll.schedule.get p).code = (s.poll.schedule.get p).code
  next : ∀ p, (t.poll.schedule.get p).next
    = if p ∈ done ∧ s.pollDue p = true then nextPoll (s.period p) s.tick else (s.poll.schedule.get p).next

theorem Renewed.refl (s : State) : Renewed [] s s :=
  ⟨rfl, rfl, rfl, rfl, fun _ => rfl, fun _ => rfl, fun p => by simp⟩

/-- A write beside schedules, marks and arrivals. -/
theorem Renewed.beside {done : List Polled} {s t u : State} (h : Renewed done s t) (tick : u.tick = t.tick := by rfl)
    (health : u.poll.health = t.poll.health := by rfl) (coming : u.poll.coming = t.poll.coming := by rfl)
    (fifo : u.intake.fifo = t.intake.fifo := by rfl) (schedule : u.poll.schedule = t.poll.schedule := by rfl) : Renewed done s u where
  tick := tick.trans h.tick
  health := health.trans h.health
  coming := coming.trans h.coming
  fifo := fifo.trans h.fifo
  settle p := (congrArg (fun m : PerPolled Schedule => (m.get p).settle) schedule).trans (h.settle p)
  code p := by rw [schedule]; exact h.code p
  next p := by rw [schedule]; exact h.next p

theorem period_congr {s t : State} {p : Polled} (hcode : (t.poll.schedule.get p).code = (s.poll.schedule.get p).code)
    (hhealth : t.poll.health = s.poll.health) : t.period p = s.period p := by
  unfold State.period State.busFailed
  rw [hcode, hhealth]

theorem Renewed.pollDue {done : List Polled} {s t : State} (h : Renewed done s t) {p : Polled} (hp : p ∉ done) :
    t.pollDue p = s.pollDue p := by
  unfold State.pollDue
  rw [h.next p, if_neg fun hin => hp hin.1, h.tick]

/-- One source more. -/
theorem Renewed.renew {done : List Polled} {s t : State} (h : Renewed done s t) {p : Polled}
    (hdue : s.pollDue p = true) : Renewed (p :: done) s (renewNext p t) where
  tick := h.tick
  health := h.health
  coming := h.coming
  fifo := h.fifo
  settle q := (renewNext_settleMark p q t).trans (h.settle q)
  code q := by
    rw [renewNext_get]
    split
    · next hq => rw [hq]; exact h.code p
    · exact h.code q
  next q := by
    rw [renewNext_get]
    by_cases hq : q = p
    · rw [if_pos hq, hq, if_pos ⟨List.mem_cons_self, hdue⟩, period_congr (h.code p) h.health, h.tick]
    · rw [if_neg hq, h.next q]
      simp only [List.mem_cons, hq, false_or]

theorem Renewed.pass {done : List Polled} {s t : State} (h : Renewed done s t) {p : Polled} (hdue : s.pollDue p = false) :
    Renewed (p :: done) s t :=
  { h with
    next := fun q => by
      rw [h.next q]
      by_cases hq : q = p
      · rw [hq, hdue]
        simp
      · simp only [List.mem_cons, hq, false_or] }

theorem Renewed.advance {done : List Polled} {s t : State} (h : Renewed done s t) {p : Polled} (hp : p ∉ done) :
    Renewed (p :: done) s (advanceSchedule p t) := by
  unfold advanceSchedule
  rw [h.pollDue hp]
  cases hdue : s.pollDue p
  · exact h.pass hdue
  · exact h.renew hdue

theorem joinWaiting_beside (b : Bus) (s : State) :
    (joinWaiting b s).tick = s.tick ∧ (joinWaiting b s).poll.health = s.poll.health ∧ (joinWaiting b s).poll.coming = s.poll.coming
      ∧ (joinWaiting b s).intake.fifo = s.intake.fifo ∧ (joinWaiting b s).poll.schedule = s.poll.schedule := by
  unfold joinWaiting
  dsimp only
  split <;> exact ⟨rfl, rfl, rfl, rfl, rfl⟩

theorem Renewed.issue {done : List Polled} {s t : State} (h : Renewed done s t) {b : Bus} (hb : b.polled ∉ done) :
    Renewed (b.polled :: done) s (issueBusPoll b t) := by
  unfold issueBusPoll
  rw [h.pollDue hb]
  cases hdue : s.pollDue b.polled
  · exact h.pass hdue
  · obtain ⟨htick, hhealth, hcoming, hfifo, hschedule⟩ := joinWaiting_beside b t
    exact (h.beside htick hhealth hcoming hfifo hschedule).renew hdue

/-- The lines observed, polls issued and reads moved on. -/
def issuePorts (levels : LineLevels) (s : State) : State := advanceSchedules (issueBusPolls (observeLines levels s))

theorem issuePorts_renewed (levels : LineLevels) (s : State) :
    Renewed [.basa, .ctmp, .pcel, .coil, .als, .lidg, .lida] s (issuePorts levels s) := by
  have hlines : Renewed [] s (observeLines levels s) := (Renewed.refl s).beside
  have hissued : Renewed [.als, .lidg, .lida] s (issueBusPolls (observeLines levels s)) :=
    ((hlines.issue (b := .lida) (by decide)).issue (b := .lidg) (by decide)).issue (b := .als) (by decide)
  exact (((hissued.advance (p := .coil) (by decide)).advance (p := .pcel) (by decide)).advance (p := .ctmp) (by decide)).advance
    (p := .basa) (by decide)

theorem issuePorts_frame (levels : LineLevels) (s : State) : SameBut [.lines, .poll, .gaps] s (issuePorts levels s) :=
  (((observeLines_frame levels s).mono _ (by decide)).trans ((issueBusPolls_frame _).mono _ (by decide))).trans
    ((advanceSchedules_frame _).mono _ (by decide))

theorem samplePorts_eq (levels : LineLevels) (readings : ConverterReadings) (arrival : List Source) (s : State) :
    samplePorts levels readings arrival s = bringForth arrival (s.born levels readings) (issuePorts levels s) := rfl

theorem born_of_port (s : State) (levels : LineLevels) (readings : ConverterReadings) {src : Source} (h : isPort src) :
    s.born levels readings src = none := by
  obtain rfl | rfl | rfl | rfl := h <;> rfl

/-! ## The boundary's parts -/

/-- The state after the ports of the boundary: what the dock cycle finds. -/
def portsDone (levels : LineLevels) (readings : ConverterReadings) (arrival : List Source) (s : State) : State :=
  samplePorts levels readings arrival (countTick (landRest s))

theorem boundary_eq (levels : LineLevels) (readings : ConverterReadings) (arrival : List Source) (s : State) :
    boundary levels readings arrival s = duePeriod (dockCycle (portsDone levels readings arrival s)) := rfl

theorem landRest_lands (s : State) : Lands s (landRest s) ∧ (landRest s).poll.coming = [] :=
  ⟨(writeComing_lands [] s).trans (landAll_lands _ _).1, (landAll_lands _ _).2⟩

/-- The ports touch nothing of pen, supply, dock and host. -/
theorem portsDone_frame (levels : LineLevels) (readings : ConverterReadings) (arrival : List Source) (s : State) :
    SameBut [.tick, .lines, .poll, .fifo, .gaps] s (portsDone levels readings arrival s) :=
  (((landRest_frame s).mono _ (by decide)).trans ((countTick_frame _).mono _ (by decide))).trans
    ((samplePorts_frame _ _ _ _).mono _ (by decide))

theorem portsDone_tick (levels : LineLevels) (readings : ConverterReadings) (arrival : List Source) (s : State) :
    (portsDone levels readings arrival s).tick = s.tick + 1 := by
  have hports : (portsDone levels readings arrival s).tick = (countTick (landRest s)).tick := samplePorts_frame _ _ _ _ .tick (by decide)
  rw [hports, countTick, (landRest_lands s).1.tick]

theorem boundary_tick (levels : LineLevels) (readings : ConverterReadings) (arrival : List Source) (s : State) :
    (boundary levels readings arrival s).tick = s.tick + 1 :=
  (duePeriod_frame _ .tick (by decide)).trans ((dockCycle_frame _ .tick (by decide)).trans (portsDone_tick _ _ _ _))

/-- The next boundary's control period, seen from the state before. -/
theorem periodDue_iff (levels : LineLevels) (readings : ConverterReadings) (arrival : List Source) (s : State) :
    ((dockCycle (portsDone levels readings arrival s)).pen.state = .charging
        ∧ (dockCycle (portsDone levels readings arrival s)).tick.toNat % 16 = 0)
      ↔ (s.pen.state = .charging ∧ (s.tick + 1).toNat % 16 = 0) := by
  have hcycle := dockCycle_frame (portsDone levels readings arrival s)
  have hpen : (dockCycle (portsDone levels readings arrival s)).pen = s.pen :=
    (hcycle .pen (by decide)).trans (portsDone_frame _ _ _ _ .pen (by decide))
  have htick : (dockCycle (portsDone levels readings arrival s)).tick = s.tick + 1 :=
    (hcycle .tick (by decide)).trans (portsDone_tick _ _ _ _)
  rw [hpen, htick]

theorem duePeriod_of_not {s : State} (h : ¬ (s.pen.state = .charging ∧ s.tick.toNat % 16 = 0)) : duePeriod s = s := if_neg h

theorem boundary_of_noPeriod {s : State} (levels : LineLevels) (readings : ConverterReadings) (arrival : List Source) (h : s.NoPeriod) :
    boundary levels readings arrival s = dockCycle (portsDone levels readings arrival s) := by
  have hno := fun hdue => h ((periodDue_iff levels readings arrival s).1 hdue).1 ((periodDue_iff levels readings arrival s).1 hdue).2
  rw [boundary_eq]
  generalize dockCycle (portsDone levels readings arrival s) = d at hno
  exact duePeriod_of_not hno

/-- In a boundary that leaves the pen CHARGING, or brings no period, the ports have the last word on the poll block. -/
theorem boundary_poll_of_quiet {s : State} {levels : LineLevels} {readings : ConverterReadings} {arrival : List Source}
    (h : s.NoPeriod ∨ (boundary levels readings arrival s).pen.state = .charging) :
    (boundary levels readings arrival s).poll = (portsDone levels readings arrival s).poll := by
  have hquiet : ¬ ((dockCycle (portsDone levels readings arrival s)).pen.state = .charging
      ∧ (dockCycle (portsDone levels readings arrival s)).tick.toNat % 16 = 0)
      ∨ (duePeriod (dockCycle (portsDone levels readings arrival s))).pen.state = .charging :=
    h.imp (fun hno hdue => hno ((periodDue_iff _ _ _ _).1 hdue).1 ((periodDue_iff _ _ _ _).1 hdue).2) fun hkept => by
      rw [boundary_eq] at hkept
      exact hkept
  have hcycle := dockCycle_frame (portsDone levels readings arrival s) .poll (by decide)
  rw [boundary_eq]
  generalize dockCycle (portsDone levels readings arrival s) = d at hquiet hcycle
  exact (duePeriod_quiet hquiet).1.trans hcycle

/-- With the grants kept too, the dock cycle has the last word on the dock. -/
theorem boundary_dock_of_quiet {s t : State} {levels : LineLevels} {readings : ConverterReadings} {arrival : List Source}
    (ht : t = boundary levels readings arrival s) (h : s.PeriodQuiet t) :
    t.dock = (dockCycle (portsDone levels readings arrival s)).dock := by
  rw [ht]
  obtain hno | ⟨hcharging, hgrants⟩ := h
  · rw [boundary_of_noPeriod levels readings arrival hno]
  · rw [ht, boundary_eq] at hcharging hgrants
    rw [boundary_eq]
    have hsupply : (dockCycle (portsDone levels readings arrival s)).supply = s.supply :=
      (dockCycle_frame _ .supply (by decide)).trans (portsDone_frame _ _ _ _ .supply (by decide))
    exact (duePeriod_quiet (.inr hcharging)).2 (by rw [hsupply]; exact hgrants)

end Sys2Proof.Machine
end

section
/-! O4: a TICK, part by part. -/

namespace Sys2Proof.Machine

set_option Elab.async false

/-! ## TICK (R1, R121) -/

/-- With nothing on its way there is nothing to land. -/
theorem landRest_of_none {s : State} (h : s.poll.coming = []) : landRest s = s := by
  have hwrite : writeComing s.poll.coming s = s := rfl
  unfold landRest
  rw [← h, hwrite, h]
  rfl

theorem landRest_landRest (s : State) : landRest (landRest s) = landRest s := landRest_of_none (landRest_lands s).2

theorem pulseAfter_congr {s u v : State} (hmode : u.levelMode = s.levelMode) (hheld : u.holdings = s.holdings) :
    pulseAfter u v = pulseAfter s v := by
  unfold pulseAfter
  rw [hmode, hheld]

theorem settleAttention_landRest (s v : State) : settleAttention (landRest s) v = settleAttention s v := by
  have hframe := landRest_frame s
  have hadvisor : (landRest s).advisor = s.advisor := hframe .advisor (by decide)
  have hparams : (landRest s).params = s.params := hframe .params (by decide)
  have hevents : (landRest s).host.events = s.host.events := hframe .events (by decide)
  have hkeys : (landRest s).dock.keys = s.dock.keys := congrArg Prod.fst (hframe .dockKeys (by decide))
  have hsamples : (landRest s).host.samples = s.host.samples := hframe .samples (by decide)
  have hbatch : (landRest s).batch = s.batch := hframe .batch (by decide)
  unfold settleAttention
  rw [pulseAfter_congr (levelMode_congr hadvisor hparams) (holdings_congr hevents hkeys hsamples hadvisor hbatch)]

theorem exec_tick (levels : LineLevels) (readings : ConverterReadings) (arrival : List Source) (s : State) :
    exec (.tick levels readings arrival) s = .next (settleAttention s (boundary levels readings arrival s)) := exec_eq _ s

theorem boundary_landRest (levels : LineLevels) (readings : ConverterReadings) (arrival : List Source) (s : State) :
    boundary levels readings arrival (landRest s) = boundary levels readings arrival s := by
  rw [boundary_eq, boundary_eq, portsDone, portsDone, landRest_landRest]

theorem exec_tick_landRest (levels : LineLevels) (readings : ConverterReadings) (arrival : List Source) (s : State) :
    exec (.tick levels readings arrival) s = exec (.tick levels readings arrival) (landRest s) := by
  rw [exec_tick, exec_tick, boundary_landRest, settleAttention_landRest]

/-- Without a control period a boundary stays with ports and Dock Link. -/
theorem boundary_frame_of_noPeriod {s : State} (levels : LineLevels) (readings : ConverterReadings) (arrival : List Source)
    (h : s.NoPeriod) : SameBut [.tick, .lines, .poll, .fifo, .gaps, .dockLink] s (boundary levels readings arrival s) := by
  rw [boundary_of_noPeriod levels readings arrival h]
  exact ((portsDone_frame levels readings arrival s).mono _ (by decide)).trans ((dockCycle_frame _).mono _ (by decide))

/-- Settles O4: the boundary part by part, and `landAll_receives` for what was still on its way. -/
theorem tickAdvancesTheCount : Obligations.TickAdvancesTheCount := by
  refine ⟨fun levels readings arrival s => ⟨exec_tick_landRest levels readings arrival s, _, exec_tick levels readings arrival s, ?_⟩,
    fun s honce => ⟨_, rfl, (landRest_lands s).2, landAll_receives honce, landRest_frame s |>.mono _ (by decide)⟩⟩
  have htick := boundary_tick levels readings arrival s
  have hframe := boundary_frame levels readings arrival s
  have hquiet := boundary_frame_of_noPeriod (s := s) levels readings arrival
  generalize boundary levels readings arrival s = t at htick hframe hquiet
  exact ⟨htick, hframe.settled s, fun hno => (hquiet hno).settled s⟩

end Sys2Proof.Machine
end

section
/-! O5 and O6: the samples that lines and converter channels bring at a boundary. -/

namespace Sys2Proof.Machine

set_option Elab.async false

/-! ## What the parts after the ports leave (R2) -/

/-- What arrivals find at a boundary: the lines observed, the polls issued, the reads moved on. -/
def portsFound (levels : LineLevels) (s : State) : State := issuePorts levels (countTick (landRest s))

/-- The values born at the next boundary. -/
def State.bornNext (s : State) (levels : LineLevels) (readings : ConverterReadings) : Source → Option Values :=
  (countTick (landRest s)).born levels readings

theorem portsDone_eq (levels : LineLevels) (readings : ConverterReadings) (arrival : List Source) (s : State) :
    portsDone levels readings arrival s = bringForth arrival (s.bornNext levels readings) (portsFound levels s) := rfl

theorem bornNext_of_port {s : State} {levels : LineLevels} {readings : ConverterReadings} :
    ∀ x, isPort x → s.bornNext levels readings x = none := fun _ hx => born_of_port _ levels readings hx

theorem portsFound_renewed (levels : LineLevels) (s : State) :
    Renewed [.basa, .ctmp, .pcel, .coil, .als, .lidg, .lida] (countTick (landRest s)) (portsFound levels s) := issuePorts_renewed _ _

theorem portsFound_tick (levels : LineLevels) (s : State) : (portsFound levels s).tick = s.tick + 1 := by
  rw [(portsFound_renewed levels s).tick, countTick, (landRest_lands s).1.tick]

theorem portsFound_fifo (levels : LineLevels) (s : State) : (portsFound levels s).intake.fifo = (landRest s).intake.fifo :=
  (portsFound_renewed levels s).fifo

theorem portsFound_recordsOf (levels : LineLevels) (s : State) (src : Source) :
    (portsFound levels s).recordsOf src = (landRest s).recordsOf src := by
  unfold State.recordsOf
  rw [portsFound_fifo]

theorem portsFound_settleMark (levels : LineLevels) (s : State) (p : Polled) :
    (portsFound levels s).settleMark p = (landRest s).settleMark p := (portsFound_renewed levels s).settle p

theorem dockCycle_duePeriod_frame (d : State) :
    SameBut [.supply, .pen, .poll, .dockLink, .advisor, .events] d (duePeriod (dockCycle d)) :=
  ((dockCycle_frame d).mono _ (by decide)).trans (duePeriod_frame _)

/-- Dock cycle and control period stay away from Intake and lines. -/
theorem boundary_after_ports (levels : LineLevels) (readings : ConverterReadings) (arrival : List Source) (s : State) :
    SameBut [.supply, .pen, .poll, .dockLink, .advisor, .events] (portsDone levels readings arrival s)
      (boundary levels readings arrival s) := by
  rw [boundary_eq]
  exact dockCycle_duePeriod_frame _

theorem boundary_fifo (levels : LineLevels) (readings : ConverterReadings) (arrival : List Source) (s : State) :
    (boundary levels readings arrival s).intake.fifo = (portsDone levels readings arrival s).intake.fifo :=
  boundary_after_ports levels readings arrival s .fifo (by decide)

theorem boundary_gaps (levels : LineLevels) (readings : ConverterReadings) (arrival : List Source) (s : State) :
    (boundary levels readings arrival s).intake.gaps = (portsDone levels readings arrival s).intake.gaps :=
  boundary_after_ports levels readings arrival s .gaps (by decide)

/-- The order of arrival after the boundary, but for the settle marks that a control period sets. -/
theorem boundary_coming (levels : LineLevels) (readings : ConverterReadings) (arrival : List Source) (s : State) :
    (boundary levels readings arrival s).poll.coming.map Coming.shape
      = (portsDone levels readings arrival s).poll.coming.map Coming.shape := by
  have hcycle : (dockCycle (portsDone levels readings arrival s)).poll = (portsDone levels readings arrival s).poll :=
    dockCycle_frame _ .poll (by decide)
  rw [boundary_eq, ← hcycle]
  exact (duePeriod_safe _).steady.coming

theorem mem_of_shapes {l m : List Coming} (h : l.map Coming.shape = m.map Coming.shape) {c : Coming} (hc : c ∈ m) :
    ∃ d ∈ l, d.shape = c.shape := by
  have hmem : c.shape ∈ l.map Coming.shape := by rw [h]; exact List.mem_map_of_mem hc
  exact List.mem_map.1 hmem

theorem boundary_no_coming {levels : LineLevels} {readings : ConverterReadings} {arrival : List Source} {s : State} {src : Source}
    (h : ∀ c ∈ (portsDone levels readings arrival s).poll.coming, c.source ≠ src) :
    ∀ c ∈ (boundary levels readings arrival s).poll.coming, c.source ≠ src := fun c hc hsrc => by
  obtain ⟨d, hd, hshape⟩ := mem_of_shapes (boundary_coming levels readings arrival s).symm hc
  exact h d hd ((congrArg Prod.fst hshape).trans hsrc)

/-! ## Lines (R15, R16) -/

theorem bornNext_line (s : State) (levels : LineLevels) (readings : ConverterReadings) (l : Line) :
    s.bornNext levels readings l.source
      = (observeLine (s.param l.hold) (levelOf levels l) (s.tick + 1) (s.lines.get l)).2.map (fun level => .one (levelValue level)) := by
  have hframe := landRest_frame s
  have hlines : (landRest s).lines = s.lines := hframe .lines (by decide)
  have hparams : (landRest s).params = s.params := hframe .params (by decide)
  have hborn : s.bornNext levels readings l.source = (countTick (landRest s)).lineSample levels l := by cases l <;> rfl
  rw [hborn]
  unfold State.lineSample State.observed State.param countTick
  dsimp only
  rw [hlines, hparams, (landRest_lands s).1.tick]

theorem samplePorts_lines (levels : LineLevels) (readings : ConverterReadings) (arrival : List Source) (s : State) :
    (samplePorts levels readings arrival s).lines = (observeLines levels s).lines := by
  have hissued : SameBut [.poll, .gaps, .fifo] (observeLines levels s) (samplePorts levels readings arrival s) :=
    (((issueBusPolls_frame _).mono _ (by decide)).trans ((advanceSchedules_frame _).mono _ (by decide))).trans
      ((bringForth_frame arrival (s.born levels readings) _).mono _ (by decide))
  exact hissued .lines (by decide)

theorem boundary_line (levels : LineLevels) (readings : ConverterReadings) (arrival : List Source) (s : State) (l : Line) :
    (boundary levels readings arrival s).lines.get l
      = (observeLine (s.param l.hold) (levelOf levels l) (s.tick + 1) (s.lines.get l)).1 := by
  have hframe := landRest_frame s
  have hlines : (landRest s).lines = s.lines := hframe .lines (by decide)
  have hparams : (landRest s).params = s.params := hframe .params (by decide)
  have hcycle : (boundary levels readings arrival s).lines = (portsDone levels readings arrival s).lines :=
    boundary_after_ports levels readings arrival s .lines (by decide)
  have hports : (portsDone levels readings arrival s).lines = (observeLines levels (countTick (landRest s))).lines :=
    samplePorts_lines levels readings arrival _
  have hobserved : (observeLines levels (countTick (landRest s))).lines.get l = ((countTick (landRest s)).observed levels l).1 := by
    cases l <;> rfl
  rw [hcycle, hports, hobserved]
  unfold State.observed State.param countTick
  dsimp only
  rw [hlines, hparams, (landRest_lands s).1.tick]

theorem line_no_port (l : Line) : ¬ isPort l.source := by
  unfold isPort
  cases l <;> decide

/-- A boundary at which a line brings no sample. -/
theorem boundary_of_silent {levels : LineLevels} {readings : ConverterReadings} {arrival : List Source} {s : State} {l : Line}
    (hroom : (landRest s).intake.fifo.length ≤ 9) (h : s.bornNext levels readings l.source = none) :
    (boundary levels readings arrival s).recordsOf l.source = (landRest s).recordsOf l.source
      ∧ ∀ c ∈ (boundary levels readings arrival s).poll.coming, c.source ≠ l.source := by
  obtain ⟨hrecords, hcoming, -⟩ := bringForth_of_none (arrival := arrival) (s := portsFound levels s) bornNext_of_port
    (by rw [portsFound_fifo]; exact hroom) h
  rw [← portsDone_eq] at hrecords hcoming
  refine ⟨?_, boundary_no_coming (hcoming (line_no_port l))⟩
  unfold State.recordsOf at hrecords ⊢
  rw [boundary_fifo, hrecords, portsFound_fifo]

/-- A boundary at which a line brings a sample. -/
theorem boundary_of_taken {levels : LineLevels} {readings : ConverterReadings} {arrival : List Source} {s : State} {l : Line} {v : Values}
    (hroom : (landRest s).intake.fifo.length ≤ 9) (h : s.bornNext levels readings l.source = some v) :
    (waitsForPort arrival l.source = false →
        (boundary levels readings arrival s).recordsOf l.source
            = (landRest s).recordsOf l.source ++ [{ source := l.source, timestamp := s.tick + 1, unsettled := false, values := v }]
          ∧ ∀ c ∈ (boundary levels readings arrival s).poll.coming, c.source ≠ l.source)
      ∧ (waitsForPort arrival l.source = true →
        (boundary levels readings arrival s).recordsOf l.source = (landRest s).recordsOf l.source
          ∧ { source := l.source, values := some v, afterMark := true } ∈ (boundary levels readings arrival s).poll.coming) := by
  obtain ⟨hnow, hlater⟩ := bringForth_of_born (arrival := arrival) (s := portsFound levels s) bornNext_of_port
    (by rw [portsFound_fifo]; exact hroom) h
  rw [← portsDone_eq] at hnow hlater
  have hfifo : (boundary levels readings arrival s).recordsOf l.source = (portsDone levels readings arrival s).recordsOf l.source := by
    unfold State.recordsOf
    rw [boundary_fifo]
  rw [hfifo]
  refine ⟨fun hfree => ?_, fun hwaits => ?_⟩
  · obtain ⟨hrecords, hcoming, -⟩ := hnow hfree
    have hnewborn : (portsFound levels s).newborn l.source v
        = { source := l.source, timestamp := s.tick + 1, unsettled := false, values := v } := by
      unfold State.newborn
      rw [portsFound_tick]
      cases l <;> rfl
    exact ⟨by rw [hrecords, portsFound_recordsOf, hnewborn], boundary_no_coming hcoming⟩
  · obtain ⟨hrecords, hplace, -⟩ := hlater hwaits
    obtain ⟨d, hd, hshape⟩ := mem_of_shapes (boundary_coming levels readings arrival s) hplace
    obtain ⟨dsrc, dvalues, dmark⟩ := d
    obtain ⟨rfl, hvalues, hmark⟩ : dsrc = l.source ∧ dvalues = some v ∧ ((polledOf dsrc).isSome || dmark) = true := by
      simpa [Coming.shape] using hshape
    have hline : polledOf l.source = none := by cases l <;> rfl
    rw [hline] at hmark
    refine ⟨by rw [hrecords, portsFound_recordsOf], ?_⟩
    rw [← hvalues, ← (show dmark = true from hmark)]
    exact hd

/-- What a TICK does to a line, in terms of what observing it gives. -/
def LineTold (levels : LineLevels) (arrival : List Source) (s : State) (l : Line) (o : LineState × Option Bool) (t : State) : Prop :=
  t.lines.get l = o.1
    ∧ (o.2 = none → t.recordsOf l.source = (landRest s).recordsOf l.source ∧ ∀ c ∈ t.poll.coming, c.source ≠ l.source)
    ∧ (o.2 = some (levelOf levels l) →
        (waitsForPort arrival l.source = false →
            t.recordsOf l.source
                = (landRest s).recordsOf l.source
                  ++ [{ source := l.source, timestamp := s.tick + 1, unsettled := false
                        values := .one (if levelOf levels l then 1 else 0) }]
              ∧ ∀ c ∈ t.poll.coming, c.source ≠ l.source)
          ∧ (waitsForPort arrival l.source = true →
              t.recordsOf l.source = (landRest s).recordsOf l.source
                ∧ { source := l.source, values := some (.one (if levelOf levels l then 1 else 0)), afterMark := true }
                    ∈ t.poll.coming))

theorem boundary_tells (levels : LineLevels) (readings : ConverterReadings) (arrival : List Source) {s : State} (l : Line)
    (hroom : (landRest s).intake.fifo.length ≤ 9) :
    LineTold levels arrival s l (observeLine (s.param l.hold) (levelOf levels l) (s.tick + 1) (s.lines.get l))
      (boundary levels readings arrival s) := by
  refine ⟨boundary_line levels readings arrival s l, fun hnone => boundary_of_silent (readings := readings) hroom ?_,
    fun hsome => boundary_of_taken (readings := readings) hroom ?_⟩
  · rw [bornNext_line, hnone]
    rfl
  · rw [bornNext_line, hsome]
    rfl

theorem observeLine_of_same {hold : Nat} {level : Bool} {now : Tick} {l : LineState} (h : l.debounced = some level) :
    observeLine hold level now l = ({ debounced := some level, pending := none }, none) := by
  unfold observeLine
  rw [if_pos h, h]

theorem observeLine_of_held {hold : Nat} {level : Bool} {now : Tick} {l : LineState} {p : PendingLevel} (h : l.debounced ≠ some level)
    (hpending : pendingAfter hold level now l.pending = p) (hheld : p.hold ≤ (now - p.start).toNat) :
    observeLine hold level now l = ({ debounced := some level, pending := none }, some level) := by
  subst hpending
  exact (if_neg h).trans (if_pos hheld)

theorem observeLine_of_short {hold : Nat} {level : Bool} {now : Tick} {l : LineState} {p : PendingLevel} (h : l.debounced ≠ some level)
    (hpending : pendingAfter hold level now l.pending = p) (hshort : (now - p.start).toNat < p.hold) :
    observeLine hold level now l = ({ l with pending := some p }, none) := by
  subst hpending
  exact (if_neg h).trans (if_neg (Nat.not_le.2 hshort))

theorem pendingAfter_of_timed {hold : Nat} {level : Bool} {now : Tick} {pending : Option PendingLevel} {p : PendingLevel}
    (h : pending = some p) (hlevel : p.level = level) : pendingAfter hold level now pending = p := by
  subst h
  exact if_pos hlevel

theorem pendingAfter_of_new {hold : Nat} {level : Bool} {now : Tick} {pending : Option PendingLevel}
    (h : ∀ p, pending = some p → p.level ≠ level) :
    pendingAfter hold level now pending = { level := level, start := now, hold := hold } := by
  cases hp : pending with
  | none => rfl
  | some p => exact if_neg (h p hp)

/-- Settles O5: what observing the line gives, by its debounced and its pending level, and the arrival of its sample. -/
theorem linesAreDebounced : Obligations.LinesAreDebounced := by
  intro levels readings arrival s l hroom
  refine ⟨_, exec_tick levels readings arrival s, ?_⟩
  have htold := boundary_tells levels readings arrival l hroom
  generalize boundary levels readings arrival s = t at htold
  change LineTold levels arrival s l _ (settleAttention s t) at htold
  generalize settleAttention s t = u at htold
  obtain ⟨hline, hsilent, htaken⟩ := htold
  refine ⟨fun hsame => ?_, fun p hother hpending hlevel => ⟨fun hheld => ?_, fun hshort => ?_⟩,
    fun hother hnew => ⟨fun hzero => ?_, fun hpos => ?_⟩⟩
  · have ho := observeLine_of_same (hold := s.param l.hold) (now := s.tick + 1) hsame
    rw [ho] at hline hsilent
    exact ⟨hline, hsilent rfl⟩
  · have ho := observeLine_of_held hother (pendingAfter_of_timed (hold := s.param l.hold) (now := s.tick + 1) hpending hlevel) hheld
    rw [ho] at hline htaken
    exact ⟨hline, htaken rfl⟩
  · have ho := observeLine_of_short hother (pendingAfter_of_timed (hold := s.param l.hold) (now := s.tick + 1) hpending hlevel) hshort
    rw [ho, ← hpending] at hline
    rw [ho] at hsilent
    exact ⟨hline, hsilent rfl⟩
  · have ho := observeLine_of_held hother (pendingAfter_of_new (hold := s.param l.hold) (now := s.tick + 1) hnew)
      (hzero ▸ Nat.zero_le _)
    rw [ho] at hline htaken
    exact ⟨hline, htaken rfl⟩
  · have ho := observeLine_of_short hother (pendingAfter_of_new (hold := s.param l.hold) (now := s.tick + 1) hnew)
      (by simpa using hpos)
    rw [ho] at hline hsilent
    exact ⟨hline, hsilent rfl⟩

/-! ## Next due ticks (R5, R7) -/

theorem mem_allPolled (p : Polled) : p ∈ [Polled.basa, .ctmp, .pcel, .coil, .als, .lidg, .lida] := by cases p <;> decide

theorem landRest_pollDue (s : State) (p : Polled) :
    (countTick (landRest s)).pollDue p = true ↔ (s.poll.schedule.get p).next = some (s.tick + 1) := by
  obtain ⟨hlands, -⟩ := landRest_lands s
  have hnext : ((countTick (landRest s)).poll.schedule.get p).next = (s.poll.schedule.get p).next := hlands.next p
  have htick : (countTick (landRest s)).tick = s.tick + 1 := congrArg (· + 1) hlands.tick
  unfold State.pollDue
  rw [hnext, htick, decide_eq_true_eq]

/-- A source takes its next due tick at the boundary it comes due at, and at no other. -/
theorem portsDone_next (levels : LineLevels) (readings : ConverterReadings) (arrival : List Source) (s : State) (p : Polled) :
    ((s.poll.schedule.get p).next = some (s.tick + 1) →
        ((portsDone levels readings arrival s).poll.schedule.get p).next = nextPoll (s.period p) (s.tick + 1))
      ∧ ((s.poll.schedule.get p).next ≠ some (s.tick + 1) →
        ((portsDone levels readings arrival s).poll.schedule.get p).next = (s.poll.schedule.get p).next) := by
  obtain ⟨hlands, -⟩ := landRest_lands s
  have hports : ((portsDone levels readings arrival s).poll.schedule.get p).next = ((portsFound levels s).poll.schedule.get p).next := by
    rw [portsDone_eq]
    exact (bringForth_does arrival _ _).1.next p
  have hperiod : (countTick (landRest s)).period p = s.period p := period_congr (hlands.code p) hlands.health
  have htick : (countTick (landRest s)).tick = s.tick + 1 := congrArg (· + 1) hlands.tick
  rw [hports, (portsFound_renewed levels s).next p, hperiod, htick]
  refine ⟨fun hdue => if_pos ⟨mem_allPolled p, (landRest_pollDue s p).2 hdue⟩, fun hnot => ?_⟩
  exact (if_neg fun hdue => hnot ((landRest_pollDue s p).1 hdue.2)).trans (hlands.next p)

/-! ## Converter reads (R3, R5 to R7) -/

/-- The value read on a converter channel. -/
def readValue (readings : ConverterReadings) : Polled → Value
  | .coil => coilValue readings.coil
  | .pcel => cellValue readings.pcel
  | _ => tempValue readings.ctmp

/-- A converter channel is read at the next boundary. -/
def State.ReadsNext (s : State) (p : Polled) : Prop :=
  (s.poll.schedule.get p).next = some (s.tick + 1) ∧ (p = .pcel → s.pen.state = .charging)

theorem converterRead_countTick (s : State) (p : Polled) (v : Value) :
    (s.ReadsNext p → (countTick (landRest s)).converterRead p v = some (.one v))
      ∧ (¬ s.ReadsNext p → (countTick (landRest s)).converterRead p v = none) := by
  have hpen : (countTick (landRest s)).pen = s.pen := landRest_frame s .pen (by decide)
  have hread : ((countTick (landRest s)).pollDue p && (p ≠ .pcel || (countTick (landRest s)).pen.state = .charging)) = true
      ↔ s.ReadsNext p := by
    rw [hpen, Bool.and_eq_true, landRest_pollDue, Bool.or_eq_true, decide_eq_true_eq, decide_eq_true_eq, ← Decidable.imp_iff_not_or]
    rfl
  exact ⟨fun h => if_pos (hread.2 h), fun h => if_neg fun htrue => h (hread.1 htrue)⟩

theorem bornNext_read (levels : LineLevels) (readings : ConverterReadings) {s : State} {p : Polled} (hp : p = .coil ∨ p = .pcel ∨ p = .ctmp) :
    (s.ReadsNext p → s.bornNext levels readings p.source = some (.one (readValue readings p)))
      ∧ (¬ s.ReadsNext p → s.bornNext levels readings p.source = none) := by
  have hborn : s.bornNext levels readings p.source = (countTick (landRest s)).converterRead p (readValue readings p) := by
    obtain rfl | rfl | rfl := hp <;> rfl
  rw [hborn]
  exact converterRead_countTick s p _

theorem settleMark_of_poll {s t : State} (h : t.poll = s.poll) (p : Polled) : t.settleMark p = s.settleMark p := by
  unfold State.settleMark
  rw [h]

/-- What a boundary does to one converter channel. `quiet` says that the control period leaves the settle marks. -/
structure Read (readings : ConverterReadings) (arrival : List Source) (s : State) (p : Polled) (t : State) (quiet : Prop) : Prop where
  atOnce : s.ReadsNext p → waitsForPort arrival p.source = false →
    t.recordsOf p.source
        = (landRest s).recordsOf p.source
          ++ [{ source := p.source, timestamp := s.tick + 1, unsettled := (landRest s).settleMark p
                values := .one (readValue readings p) }]
      ∧ (quiet → t.settleMark p = false)
  later : s.ReadsNext p → waitsForPort arrival p.source = true →
    t.recordsOf p.source = (landRest s).recordsOf p.source
      ∧ (∃ c ∈ t.poll.coming, c.source = p.source ∧ c.values = some (.one (readValue readings p)) ∧ (quiet → c.afterMark = true))
      ∧ (quiet → t.settleMark p = (landRest s).settleMark p)
  unread : ¬ s.ReadsNext p →
    t.recordsOf p.source = (landRest s).recordsOf p.source ∧ (quiet → t.settleMark p = (landRest s).settleMark p)
  due : (s.poll.schedule.get p).next = some (s.tick + 1) → quiet →
    (t.poll.schedule.get p).next = nextPoll (s.period p) (s.tick + 1)
  undue : (s.poll.schedule.get p).next ≠ some (s.tick + 1) → quiet →
    (t.poll.schedule.get p).next = (s.poll.schedule.get p).next

theorem newborn_polled (s : State) (p : Polled) (v : Values) :
    s.newborn p.source v = { source := p.source, timestamp := s.tick, unsettled := s.settleMark p, values := v } := by
  cases p <;> rfl

/-- The ports' part of a converter read. -/
theorem portsDone_reads (levels : LineLevels) (readings : ConverterReadings) (arrival : List Source) {s : State} {p : Polled}
    (hp : p = .coil ∨ p = .pcel ∨ p = .ctmp) (hroom : (landRest s).intake.fifo.length ≤ 9) :
    Read readings arrival s p (portsDone levels readings arrival s) True := by
  have hroom' : (portsFound levels s).intake.fifo.length ≤ 9 := by rw [portsFound_fifo]; exact hroom
  obtain ⟨hread, hunread⟩ := bornNext_read levels readings (s := s) hp
  obtain ⟨hdue, hundue⟩ := portsDone_next levels readings arrival s p
  have hborn := fun v => bringForth_of_born (arrival := arrival) (src := p.source) (v := v)
    (bornNext_of_port (s := s) (levels := levels) (readings := readings)) hroom'
  have hnone := bringForth_of_none (arrival := arrival) (src := p.source)
    (bornNext_of_port (s := s) (levels := levels) (readings := readings)) hroom'
  rw [portsDone_eq] at hdue hundue ⊢
  generalize bringForth arrival (s.bornNext levels readings) (portsFound levels s) = d at hdue hundue hborn hnone ⊢
  refine ⟨fun h hfree => ?_, fun h hwaits => ?_, fun h => ?_, fun h _ => hdue h, fun h _ => hundue h⟩
  · obtain ⟨hrecords, -, hmark⟩ := (hborn _ (hread h)).1 hfree
    rw [newborn_polled, portsFound_tick, portsFound_settleMark, portsFound_recordsOf] at hrecords
    exact ⟨hrecords, fun _ => hmark p rfl⟩
  · obtain ⟨hrecords, hplace, hmark⟩ := (hborn _ (hread h)).2 hwaits
    rw [portsFound_recordsOf] at hrecords
    exact ⟨hrecords, ⟨_, hplace, rfl, rfl, fun _ => rfl⟩, fun _ => (hmark p rfl).trans (portsFound_settleMark levels s p)⟩
  · obtain ⟨hrecords, -, hmark⟩ := hnone (hunread h)
    rw [portsFound_recordsOf] at hrecords
    exact ⟨hrecords, fun _ => (hmark p rfl).trans (portsFound_settleMark levels s p)⟩

/-- What follows the ports keeps records and places, and with the poll block all of it. -/
theorem Read.after {readings : ConverterReadings} {arrival : List Source} {s : State} {p : Polled} {d t : State} {quiet : Prop}
    (h : Read readings arrival s p d True) (hfifo : t.intake.fifo = d.intake.fifo)
    (hcoming : t.poll.coming.map Coming.shape = d.poll.coming.map Coming.shape) (hquiet : quiet → t.poll = d.poll) :
    Read readings arrival s p t quiet := by
  have hrecords : t.recordsOf p.source = d.recordsOf p.source := by
    unfold State.recordsOf
    rw [hfifo]
  have hmark : quiet → t.settleMark p = d.settleMark p := fun hq => settleMark_of_poll (hquiet hq) p
  have hnext : quiet → t.poll.schedule.get p = d.poll.schedule.get p := fun hq => by rw [hquiet hq]
  refine ⟨fun hread hfree => ?_, fun hread hwaits => ?_, fun hunread => ?_, fun hdue hq => ?_, fun hundue hq => ?_⟩
  · obtain ⟨hjoined, hcleared⟩ := h.atOnce hread hfree
    exact ⟨hrecords.trans hjoined, fun hq => (hmark hq).trans (hcleared trivial)⟩
  · obtain ⟨hsame, ⟨c, hc, hsource, hvalues, hafter⟩, hkept⟩ := h.later hread hwaits
    refine ⟨hrecords.trans hsame, ?_, fun hq => (hmark hq).trans (hkept trivial)⟩
    by_cases hq : quiet
    · exact ⟨c, by rw [hquiet hq]; exact hc, hsource, hvalues, fun _ => hafter trivial⟩
    · obtain ⟨d, hd, hshape⟩ := mem_of_shapes hcoming hc
      exact ⟨d, hd, (congrArg Prod.fst hshape).trans hsource, (congrArg (fun x => x.2.1) hshape).trans hvalues, fun hq' => absurd hq' hq⟩
  · obtain ⟨hsame, hkept⟩ := h.unread hunread
    exact ⟨hrecords.trans hsame, fun hq => (hmark hq).trans (hkept trivial)⟩
  · rw [hnext hq]
    exact h.due hdue trivial
  · rw [hnext hq]
    exact h.undue hundue trivial

/-- Settles O6: the ports' reads, kept by what follows them at the boundary. -/
theorem converterReadsArrive : Obligations.ConverterReadsArrive := by
  intro levels readings arrival s p hp hroom
  refine ⟨_, exec_tick levels readings arrival s, ?_⟩
  have hfifo := boundary_fifo levels readings arrival s
  have hcoming := boundary_coming levels readings arrival s
  have hpoll := boundary_poll_of_quiet (s := s) (levels := levels) (readings := readings) (arrival := arrival)
  generalize boundary levels readings arrival s = t at hfifo hcoming hpoll
  have hreads := (portsDone_reads levels readings arrival hp hroom).after (t := settleAttention s t) hfifo hcoming hpoll
  obtain ⟨hatOnce, hlater, hunread, hdue, hundue⟩ := hreads
  obtain rfl | rfl | rfl := hp <;> exact ⟨hatOnce, hlater, hunread, hdue, hundue⟩

end Sys2Proof.Machine
end

section
/-! O7: a poll that comes due over a waiting one of its source. -/

namespace Sys2Proof.Machine

set_option Elab.async false

/-! ## Polls joining the wait list (R9, R10) -/

theorem PerSource.get_set {α : Type} (t : PerSource α) (p q : Source) (x : α) :
    (t.set p x).get q = if q = p then x else t.get q := by cases p <;> cases q <;> rfl

/-- The poll a source issues now. -/
def State.issued (s : State) (b : Bus) : WaitingPoll := { source := b, due := s.tick, afterMark := s.settleMark b.polled }

theorem joinWaiting_waiting (b : Bus) (s : State) :
    (joinWaiting b s).poll.waiting = s.poll.waiting.filter (fun w => w.source ≠ b) ++ [s.issued b] := by
  unfold joinWaiting State.issued
  dsimp only
  split
  · rfl
  · next hnone =>
    have hkept : s.poll.waiting.filter (fun w => w.source ≠ b) = s.poll.waiting := List.filter_eq_self.2 fun w hw => by
      have hother : ¬ w.source = b := fun hb => hnone (List.any_eq_true.2 ⟨w, hw, decide_eq_true hb⟩)
      exact decide_eq_true hother
    rw [hkept]

/-- A gap mark that stands at a boundary stays while polls are issued. -/
theorem joinWaiting_gaps (b : Bus) {src : Source} {s : State} (h : s.intake.gaps.get src = true) :
    (joinWaiting b s).intake.gaps.get src = true := by
  unfold joinWaiting
  dsimp only
  split
  · change (s.intake.gaps.set b.source true).get src = true
    rw [PerSource.get_set, h]
    split <;> rfl
  · exact h

theorem joinWaiting_overrun {b : Bus} {s : State} (h : ∃ w ∈ s.poll.waiting, w.source = b) :
    (joinWaiting b s).intake.gaps.get b.source = true := by
  obtain ⟨w, hw, hsource⟩ := h
  have hany : (s.poll.waiting.any (fun w => w.source = b)) = true := List.any_eq_true.2 ⟨w, hw, decide_eq_true hsource⟩
  unfold joinWaiting
  dsimp only
  rw [if_pos hany]
  change (s.intake.gaps.set b.source true).get b.source = true
  rw [PerSource.get_set, if_pos rfl]

/-- Of a wait list: the one poll of `b` is `w`, and behind it stand only polls of the same tick with a higher source number. -/
def Replaced (b : Bus) (w : WaitingPoll) (waiting : List WaitingPoll) : Prop :=
  ∃ before after, waiting = before ++ w :: after ∧ (∀ x ∈ before, x.source ≠ b)
    ∧ ∀ x ∈ after, x.due = w.due ∧ headEntry b.source < headEntry x.source.source

theorem Replaced.of_join (b : Bus) (s : State) : Replaced b (s.issued b) (joinWaiting b s).poll.waiting :=
  ⟨_, [], joinWaiting_waiting b s, fun x hx => of_decide_eq_true (List.mem_filter.1 hx).2, fun x hx => by cases hx⟩

/-- Another source's poll joins behind. -/
theorem Replaced.join {b c : Bus} {w : WaitingPoll} {s : State} (h : Replaced b w s.poll.waiting) (hsource : w.source = b)
    (hdue : w.due = s.tick) (hlater : headEntry b.source < headEntry c.source) : Replaced b w (joinWaiting c s).poll.waiting := by
  obtain ⟨before, after, hwaiting, hbefore, hafter⟩ := h
  have hne : w.source ≠ c := fun hc => by
    rw [← hc, hsource] at hlater
    exact Nat.lt_irrefl _ hlater
  rw [joinWaiting_waiting, hwaiting, List.filter_append, List.filter_cons_of_pos (by simpa using hne), List.append_assoc, List.cons_append]
  refine ⟨_, _, rfl, fun x hx => hbefore x (List.mem_filter.1 hx).1, fun x hx => ?_⟩
  obtain hx | hx := List.mem_append.1 hx
  · exact hafter x (List.mem_filter.1 hx).1
  · rw [List.mem_singleton.1 hx]
    exact ⟨hdue.symm, hlater⟩

theorem issueBusPoll_cases (c : Bus) (s : State) :
    issueBusPoll c s = s ∨ issueBusPoll c s = renewNext c.polled (joinWaiting c s) := by
  unfold issueBusPoll
  split
  · exact .inr rfl
  · exact .inl rfl

/-- The state of a source whose poll came due over a waiting one. -/
def Overrun (b : Bus) (w : WaitingPoll) (s : State) : Prop := s.intake.gaps.get b.source = true ∧ Replaced b w s.poll.waiting

theorem Overrun.issue {b c : Bus} {w : WaitingPoll} {s : State} (h : Overrun b w s) (hsource : w.source = b) (hdue : w.due = s.tick)
    (hlater : headEntry b.source < headEntry c.source) : Overrun b w (issueBusPoll c s) := by
  obtain hc | hc := issueBusPoll_cases c s
  · rw [hc]
    exact h
  · rw [hc]
    exact ⟨joinWaiting_gaps c h.1, h.2.join hsource hdue hlater⟩

/-- The source's own turn, with a poll of its own still waiting. -/
theorem Overrun.of_due {b : Bus} {done : List Polled} {s t : State} (h : Renewed done s t) (hb : b.polled ∉ done)
    (hdue : s.pollDue b.polled = true) (hwaits : ∃ w ∈ t.poll.waiting, w.source = b) : Overrun b (s.issued b) (issueBusPoll b t) := by
  have hissue : issueBusPoll b t = renewNext b.polled (joinWaiting b t) := if_pos ((h.pollDue hb).trans hdue)
  have hsame : t.issued b = s.issued b := by
    unfold State.issued
    rw [h.tick, h.settle]
  rw [hissue, ← hsame]
  exact ⟨joinWaiting_overrun hwaits, .of_join b t⟩

/-- A waiting poll of another source stays. -/
theorem issueBusPoll_waits {b c : Bus} (hne : b ≠ c) {s : State} (h : ∃ w ∈ s.poll.waiting, w.source = b) :
    ∃ w ∈ (issueBusPoll c s).poll.waiting, w.source = b := by
  obtain hc | hc := issueBusPoll_cases c s
  · rw [hc]
    exact h
  · obtain ⟨w, hw, hsource⟩ := h
    have hkept : w ∈ (joinWaiting c s).poll.waiting := by
      rw [joinWaiting_waiting]
      exact List.mem_append_left _ (List.mem_filter.2 ⟨hw, decide_eq_true (hsource ▸ hne)⟩)
    rw [hc]
    exact ⟨w, hkept, hsource⟩

theorem issueBusPolls_overrun {b : Bus} {s u : State} (h : Renewed [] s u) (hdue : s.pollDue b.polled = true)
    (hwaits : ∃ w ∈ u.poll.waiting, w.source = b) : Overrun b (s.issued b) (issueBusPolls u) := by
  have hlida := h.issue (b := .lida) (by decide)
  have hlidg := hlida.issue (b := .lidg) (by decide)
  have hnow : ∀ {done : List Polled} {t : State}, Renewed done s t → (s.issued b).due = t.tick := fun ht => ht.tick.symm
  unfold issueBusPolls
  cases b with
  | lida =>
    exact ((Overrun.of_due h (by decide) hdue hwaits).issue rfl (hnow hlida) (by decide)).issue rfl (hnow hlidg) (by decide)
  | lidg =>
    exact (Overrun.of_due hlida (by decide) hdue (issueBusPoll_waits (by decide) hwaits)).issue rfl (hnow hlidg) (by decide)
  | als =>
    exact Overrun.of_due hlidg (by decide) hdue (issueBusPoll_waits (by decide) (issueBusPoll_waits (by decide) hwaits))

theorem advanceSchedule_keeps (p : Polled) (s : State) :
    (advanceSchedule p s).poll.waiting = s.poll.waiting ∧ (advanceSchedule p s).intake = s.intake := by
  unfold advanceSchedule
  split <;> exact ⟨rfl, rfl⟩

theorem advanceSchedules_keeps (s : State) :
    (advanceSchedules s).poll.waiting = s.poll.waiting ∧ (advanceSchedules s).intake = s.intake := by
  unfold advanceSchedules
  constructor <;> simp only [advanceSchedule_keeps]

theorem bus_port (b : Bus) : isPort b.source := by
  unfold isPort
  cases b <;> decide

theorem boundary_health (levels : LineLevels) (readings : ConverterReadings) (arrival : List Source) (s : State) :
    (boundary levels readings arrival s).poll.health = (portsDone levels readings arrival s).poll.health := by
  have hcycle : (dockCycle (portsDone levels readings arrival s)).poll = (portsDone levels readings arrival s).poll :=
    dockCycle_frame _ .poll (by decide)
  rw [boundary_eq, ← hcycle]
  exact (duePeriod_safe _).steady.health

theorem observeLines_renewed (levels : LineLevels) (s : State) : Renewed [] s (observeLines levels s) := (Renewed.refl s).beside

theorem issuePorts_overrun (levels : LineLevels) {s : State} {b : Bus} (hdue : s.pollDue b.polled = true)
    (hwaits : ∃ w ∈ s.poll.waiting, w.source = b) : Overrun b (s.issued b) (issuePorts levels s) := by
  have hoverrun := issueBusPolls_overrun (observeLines_renewed levels s) hdue hwaits
  obtain ⟨hwaiting, hintake⟩ := advanceSchedules_keeps (issueBusPolls (observeLines levels s))
  exact ⟨(congrArg (fun i : IntakeBlock => i.gaps.get b.source) hintake).trans hoverrun.1, hwaiting.symm ▸ hoverrun.2⟩

/-- No sample born at the boundary consumes the settle mark of a source of another port. -/
theorem bringForth_port_mark (arrival : List Source) {born : Source → Option Values} {s : State} {p : Polled}
    (hports : ∀ x, isPort x → born x = none) (hp : isPort p.source) :
    (bringForth arrival born s).settleMark p = s.settleMark p := by
  obtain ⟨-, -, hreceives⟩ := bringForth_does arrival born s
  refine hreceives.mark_kept fun r hr hsource => ?_
  obtain ⟨c, hc, hlanding⟩ := List.mem_filterMap.1 hr
  have hborn := landed_born (fun _ => mem_places) hc
  rw [← landing_source hlanding, hsource] at hborn
  exact hborn (hports _ hp)

/-- Arrivals born at the boundary leave gap marks, wait list and settle mark of a Sensor Bus source. -/
theorem bringForth_overrun (arrival : List Source) {born : Source → Option Values} {s : State} {b : Bus} {w : WaitingPoll}
    (hports : ∀ x, isPort x → born x = none) (h : Overrun b w s) :
    Overrun b w (bringForth arrival born s) ∧ (bringForth arrival born s).settleMark b.polled = s.settleMark b.polled
      ∧ (bringForth arrival born s).poll.health = s.poll.health := by
  obtain ⟨hbrought, -, -, hgaps, -⟩ := bringForth_does arrival born s
  have hmark := bringForth_port_mark arrival (s := s) (p := b.polled) hports (polled_source b ▸ bus_port b)
  have hwaiting := hbrought.waiting
  have hhealth := hbrought.health
  have hgap := hgaps b.source
  rw [h.1, Bool.true_or] at hgap
  clear hgaps hbrought
  generalize bringForth arrival born s = t at hmark hwaiting hhealth hgap ⊢
  exact ⟨⟨hgap, by rw [hwaiting]; exact h.2⟩, hmark, hhealth⟩

/-- The ports of a boundary at which a poll of `b` comes due over a waiting one. -/
theorem samplePorts_overrun (levels : LineLevels) (readings : ConverterReadings) (arrival : List Source) {s : State} {b : Bus}
    (hdue : s.pollDue b.polled = true) (hwaits : ∃ w ∈ s.poll.waiting, w.source = b) :
    Overrun b (s.issued b) (samplePorts levels readings arrival s)
      ∧ (samplePorts levels readings arrival s).settleMark b.polled = s.settleMark b.polled
      ∧ (samplePorts levels readings arrival s).poll.health = s.poll.health := by
  have hrenewed := issuePorts_renewed levels s
  obtain ⟨hoverrun, hmark, hhealth⟩ := bringForth_overrun arrival (fun _ hx => born_of_port s levels readings hx)
    (issuePorts_overrun levels hdue hwaits)
  rw [samplePorts_eq]
  generalize bringForth arrival (s.born levels readings) (issuePorts levels s) = t at hoverrun hmark hhealth ⊢
  exact ⟨hoverrun, hmark.trans (hrenewed.settle _), hhealth.trans hrenewed.health⟩

theorem portsDone_overrun (levels : LineLevels) (readings : ConverterReadings) (arrival : List Source) {s : State} {b : Bus}
    (hdue : (s.poll.schedule.get b.polled).next = some (s.tick + 1)) (hwaits : ∃ w ∈ s.poll.waiting, w.source = b) :
    Overrun b { source := b, due := s.tick + 1, afterMark := (landRest s).settleMark b.polled } (portsDone levels readings arrival s)
      ∧ (portsDone levels readings arrival s).settleMark b.polled = (landRest s).settleMark b.polled
      ∧ (portsDone levels readings arrival s).poll.health = s.poll.health := by
  obtain ⟨hlands, -⟩ := landRest_lands s
  have hwaiting : (countTick (landRest s)).poll.waiting = s.poll.waiting := hlands.waiting
  obtain ⟨hoverrun, hmark, hhealth⟩ := samplePorts_overrun levels readings arrival ((landRest_pollDue s b.polled).2 hdue)
    (by rw [hwaiting]; exact hwaits)
  have hissued : (countTick (landRest s)).issued b
      = { source := b, due := s.tick + 1, afterMark := (landRest s).settleMark b.polled } := by
    unfold State.issued countTick
    dsimp only
    rw [hlands.tick]
    rfl
  rw [hissued] at hoverrun
  unfold portsDone
  generalize samplePorts levels readings arrival (countTick (landRest s)) = t at hoverrun hmark hhealth ⊢
  exact ⟨hoverrun, hmark, hhealth.trans hlands.health⟩

/-- Settles O7: the ports' part of the boundary, and what dock cycle and control period leave of it. -/
theorem pollOverrunDropsTheWaitingPoll : Obligations.PollOverrunDropsTheWaitingPoll := by
  intro levels readings arrival s b hdue hwaits
  refine ⟨_, exec_tick levels readings arrival s, ?_⟩
  obtain ⟨⟨hgap, hreplaced⟩, hmark, hhealth⟩ := portsDone_overrun levels readings arrival hdue hwaits
  have hnext := (portsDone_next levels readings arrival s b.polled).1 hdue
  have hgaps := boundary_gaps levels readings arrival s
  have hkept := boundary_health levels readings arrival s
  have hpoll := boundary_poll_of_quiet (s := s) (levels := levels) (readings := readings) (arrival := arrival)
  generalize boundary levels readings arrival s = t at hgaps hkept hpoll
  refine ⟨(congrArg (fun g : PerSource Bool => g.get b.source) hgaps).trans hgap,
    congrArg (fun m : PerBus BusHealth => m.get b) (hkept.trans hhealth), fun hquiet => ?_⟩
  have hsame : (settleAttention s t).poll = (portsDone levels readings arrival s).poll := hpoll (hquiet.imp_right And.left)
  rw [settleMark_of_poll hsame, hsame]
  exact ⟨hreplaced, hmark, hnext⟩

end Sys2Proof.Machine
end

section
/-! O8: the cycles of the Dock Link. -/

namespace Sys2Proof.Machine

set_option Elab.async false

/-! ## What a cycle looks at (R94, R95, R97) -/

/-- `t` is as `s` in what decides and makes the exchanges of a cycle, the next due tick of channel 2 aside. -/
structure CycleSame (s t : State) : Prop where
  state : t.dock.state = s.dock.state
  cycles : t.dock.cycles = s.dock.cycles
  halted : t.dock.halted = s.dock.halted
  outgoing : t.dock.outgoing = s.dock.outgoing
  waiting : t.dock.waiting = s.dock.waiting
  toggles : t.dock.toggles = s.dock.toggles
  keyCount : t.keyCount = s.keyCount
  motionRunning : t.dock.motionRunning = s.dock.motionRunning
  cadence : t.dock.cadence = s.dock.cadence
  mark : t.settleMark .basa = s.settleMark .basa

theorem CycleSame.wants {s t : State} (h : CycleSame s t) (cycleTick : Tick) {c : Channel}
    (hnext : c = .motion → t.dock.motionNext = s.dock.motionNext) : t.Wants cycleTick c ↔ s.Wants cycleTick c := by
  have hlinked : t.linked = s.linked := by
    unfold State.linked
    rw [h.state]
  cases c with
  | control => simp only [State.Wants, hlinked, h.state, h.cycles]
  | output => simp only [State.Wants, hlinked, h.halted, h.outgoing, h.waiting]
  | keys => simp only [State.Wants, hlinked, h.keyCount]
  | motion => simp only [State.Wants, hlinked, h.motionRunning, h.cadence, hnext rfl]

theorem CycleSame.begins {s t u : State} (h : CycleSame s t) {cycleTick : Tick} {c : Channel} {rest : List Channel}
    (hbegins : t.Begins u cycleTick c rest) : s.Begins u cycleTick c rest := by
  unfold State.Begins State.Sends at hbegins ⊢
  rw [h.mark, h.toggles, h.outgoing, h.waiting] at hbegins
  exact hbegins

/-- A cycle seen from a state that shows it the same. -/
theorem CycleSame.cycleGoesOn {s t u v : State} (h : CycleSame s t) {cycleTick : Tick} {channels : List Channel}
    (hnext : .motion ∈ channels → t.dock.motionNext = s.dock.motionNext) (hdock : v.dock = u.dock)
    (hgoes : t.CycleGoesOn u cycleTick channels) : s.CycleGoesOn v cycleTick channels := by
  obtain ⟨hbegin, hend⟩ := hgoes
  have hwants : ∀ x ∈ channels, (t.Wants cycleTick x ↔ s.Wants cycleTick x) := fun x hx => h.wants cycleTick fun hm => hnext (hm ▸ hx)
  refine ⟨fun before c rest hsplit hbefore hc => ?_, fun hnone => ?_⟩
  · have hin : ∀ x ∈ before, x ∈ channels := fun x hx => hsplit ▸ List.mem_append_left _ hx
    have hcin : c ∈ channels := hsplit ▸ List.mem_append_right _ List.mem_cons_self
    obtain ⟨hbegins, hcycles⟩ := hbegin before c rest hsplit (fun x hx hw => hbefore x hx ((hwants x (hin x hx)).1 hw)) ((hwants c hcin).2 hc)
    have hbegun := h.begins hbegins
    unfold State.Begins State.Sends at hbegun ⊢
    rw [hdock, ← h.cycles]
    exact ⟨hbegun, hcycles⟩
  · rw [hdock, ← h.cycles, ← h.outgoing, ← h.waiting]
    exact hend fun x hx hw => hnone x hx ((hwants x hx).1 hw)

/-! ## A cycle at a boundary (R97) -/

theorem linkActive_iff (s : State) :
    s.linkActive = true ↔ s.dock.state = .identifying ∨ s.dock.state = .settling ∨ s.dock.state = .attached := by
  unfold State.linkActive State.linked
  simp

/-- A cycle is due: in Run at every boundary, in Doze at every eighth. -/
theorem dockCycle_cycleGoesOn {d : State} (hlinked : d.linkActive = true) (hdue : d.advisor.power = .run ∨ d.tick.toNat % 8 = 0)
    (hfree : d.dock.cycle = none) : d.CycleGoesOn (dockCycle d) d.tick [.control, .output, .keys, .motion] := by
  have hopens : dockCycle d = nextExchange d.tick [.control, .output, .keys, .motion] { d with dock := { d.dock with sent := [] } } :=
    if_pos (by rw [hlinked, hfree]; simpa using hdue)
  have hsame : CycleSame d { d with dock := { d.dock with sent := [] } } := ⟨rfl, rfl, rfl, rfl, rfl, rfl, rfl, rfl, rfl, rfl⟩
  rw [hopens]
  exact hsame.cycleGoesOn (fun _ => rfl) rfl
    (nextExchange_cycleGoesOn d.tick _ (s := { d with dock := { d.dock with sent := [] } }) rfl)

theorem dockCycle_of_none {d : State} (h : d.linkActive = false ∨ ¬ (d.advisor.power = .run ∨ d.tick.toNat % 8 = 0) ∨ d.dock.cycle ≠ none) :
    dockCycle d = d := by
  refine if_neg fun hopens => ?_
  obtain ⟨⟨hlinked, hdue⟩, hfree⟩ : (d.linkActive = true ∧ (d.advisor.power = .run ∨ d.tick.toNat % 8 = 0)) ∧ d.dock.cycle = none := by
    simpa using hopens
  obtain h | h | h := h
  · rw [h] at hlinked
    cases hlinked
  · exact h hdue
  · exact h hfree

theorem portsDone_basa_mark (levels : LineLevels) (readings : ConverterReadings) (arrival : List Source) (s : State) :
    (portsDone levels readings arrival s).settleMark .basa = (landRest s).settleMark .basa := by
  rw [portsDone_eq]
  exact (bringForth_port_mark arrival (p := .basa) bornNext_of_port (.inr (.inr (.inr rfl)))).trans (portsFound_settleMark levels s .basa)

/-- The ports leave what the Dock Link looks at. -/
theorem portsDone_cycleSame (levels : LineLevels) (readings : ConverterReadings) (arrival : List Source) (s : State) :
    (portsDone levels readings arrival s).dock = s.dock ∧ (portsDone levels readings arrival s).advisor = s.advisor
      ∧ (portsDone levels readings arrival s).dock.motionNext = (landRest s).dock.motionNext
      ∧ CycleSame (landRest s) (portsDone levels readings arrival s) := by
  have hframe := portsDone_frame levels readings arrival s
  have hland := landRest_frame s
  have hdock : (portsDone levels readings arrival s).dock = (landRest s).dock :=
    (hframe.dock_same (by decide)).trans (hland.dock_same (by decide)).symm
  have htransaction : (portsDone levels readings arrival s).host.transaction = (landRest s).host.transaction :=
    Eq.trans (hframe .transaction (by decide)) (Eq.symm (hland .transaction (by decide)))
  have hmark := portsDone_basa_mark levels readings arrival s
  refine ⟨hframe.dock_same (by decide), hframe .advisor (by decide), by rw [hdock], ?_⟩
  generalize portsDone levels readings arrival s = d at hdock htransaction hmark ⊢
  have hkeys : d.keyCount = (landRest s).keyCount := by
    unfold State.keyCount State.inFlightKeys
    rw [hdock, htransaction]
  exact ⟨by rw [hdock], by rw [hdock], by rw [hdock], by rw [hdock], by rw [hdock], by rw [hdock], hkeys, by rw [hdock],
    by rw [hdock], hmark⟩

theorem boundary_cycle {levels : LineLevels} {readings : ConverterReadings} {arrival : List Source} {s t : State}
    (hdock : t.dock = (dockCycle (portsDone levels readings arrival s)).dock) :
    (s.linkActive = true → (s.advisor.power = .run ∨ (s.tick + 1).toNat % 8 = 0) → s.dock.cycle = none →
        (landRest s).CycleGoesOn t (s.tick + 1) [.control, .output, .keys, .motion])
      ∧ (s.linkActive = false ∨ ¬ (s.advisor.power = .run ∨ (s.tick + 1).toNat % 8 = 0) ∨ s.dock.cycle ≠ none → t.dock = s.dock) := by
  obtain ⟨hsame, hadvisor, hnext, hcycle⟩ := portsDone_cycleSame levels readings arrival s
  have htick := portsDone_tick levels readings arrival s
  have hlinked : (portsDone levels readings arrival s).linkActive = s.linkActive := by
    unfold State.linkActive State.linked
    rw [hsame]
  generalize portsDone levels readings arrival s = d at hsame hadvisor hnext hcycle htick hlinked hdock
  rw [← hlinked, ← hadvisor, ← htick, ← hsame]
  refine ⟨fun hactive hdue hfree => hcycle.cycleGoesOn (fun _ => hnext) hdock (dockCycle_cycleGoesOn hactive hdue hfree), fun hnone => ?_⟩
  rw [hdock, dockCycle_of_none hnone]

/-! ## A NAK (R94, R97, R98) -/

/-- A NAK is a good exchange, and the cycle goes on. -/
theorem goOn_nak {c : Cycle} {s : State} (hactive : s.linkActive = true) (hrest : c.channel = .motion → c.rest = []) :
    (goOn c (goodExchange (beginTurn c s))).dock.silence = 0 ∧ (goOn c (goodExchange (beginTurn c s))).dock.toggles = s.dock.toggles
      ∧ s.CycleGoesOn (goOn c (goodExchange (beginTurn c s))) c.tick c.rest := by
  have hgoes := goOn_goesOn c (goodExchange (beginTurn c s))
  have hopen : (goodExchange (beginTurn c s)).linkActive = true := hactive
  have hnext : goOn c (goodExchange (beginTurn c s)) = nextExchange c.tick c.rest (goodExchange (beginTurn c s)) := if_pos hopen
  have hsame : CycleSame s (goodExchange (beginTurn c s)) := ⟨rfl, rfl, rfl, rfl, rfl, rfl, rfl, rfl, rfl, rfl⟩
  refine ⟨hgoes.silence, hgoes.toggles, ?_⟩
  rw [hnext]
  refine hsame.cycleGoesOn (fun hmotion => ?_) rfl (nextExchange_cycleGoesOn c.tick c.rest rfl)
  have hchannel : c.channel ≠ .motion := fun hc => by
    rw [hrest hc] at hmotion
    cases hmotion
  exact if_neg hchannel

theorem judgeTurn_nak (c : Cycle) (s : State) : judgeTurn c .nak s = goodExchange s := by
  unfold judgeTurn
  split <;> rfl

/-- Settles O8: `boundary_cycle` under a quiet control period, and `goOn_nak` for the exchange that ends with a NAK. -/
theorem tickOpensADockCycle : Obligations.TickOpensADockCycle := by
  refine ⟨fun levels readings arrival s => ⟨_, exec_tick levels readings arrival s, ?_⟩,
    fun s c frame hcycle hkept hjudged hlinked hrest => ⟨_, exec_eq _ s, ?_⟩⟩
  · have hdock := fun h => boundary_dock_of_quiet (s := s) (levels := levels) (readings := readings) (arrival := arrival) rfl h
    generalize boundary levels readings arrival s = t at hdock ⊢
    intro hquiet
    obtain ⟨hopens, hstays⟩ := boundary_cycle (t := settleAttention s t) (hdock hquiet)
    refine ⟨fun hlinked hdue hfree => hopens ((linkActive_iff s).2 hlinked) hdue hfree, fun hnone => hstays ?_⟩
    exact hnone.imp_left fun hleft => Bool.eq_false_iff.2 fun hactive => hleft ((linkActive_iff s).1 hactive)
  · rw [effect_reply frame hcycle hkept, hjudged, judgeTurn_nak]
    have hgoes := goOn_goesOn c (goodExchange (beginTurn c s))
    obtain ⟨hsilence, htoggles, hcycles⟩ := goOn_nak (c := c) ((linkActive_iff s).2 hlinked) hrest
    exact ⟨hsilence, htoggles, hcycles, hgoes.frame_from⟩

end Sys2Proof.Machine
end

section
/-! O9 and O10: the control period. -/

namespace Sys2Proof.Machine

set_option Elab.async false

/-! ## The state a control period begins in (R121) -/

/-- `d` is the state a control period finds, `s` the state before the tick: pen, supply, advisor, parameters and events are the same. -/
structure Finds (s d : State) : Prop where
  tick : d.tick = s.tick + 1
  pen : d.pen = s.pen
  supply : d.supply = s.supply
  params : d.params = s.params
  advisor : d.advisor = s.advisor
  frame : SameBut [.tick, .lines, .poll, .fifo, .gaps, .dockLink] s d

theorem portsDone_dockCycle_finds (levels : LineLevels) (readings : ConverterReadings) (arrival : List Source) (s : State) :
    Finds s (dockCycle (portsDone levels readings arrival s)) := by
  have hframe : SameBut [.tick, .lines, .poll, .fifo, .gaps, .dockLink] s (dockCycle (portsDone levels readings arrival s)) :=
    ((portsDone_frame levels readings arrival s).mono _ (by decide)).trans ((dockCycle_frame _).mono _ (by decide))
  have htick : (dockCycle (portsDone levels readings arrival s)).tick = s.tick + 1 :=
    Eq.trans (dockCycle_frame _ .tick (by decide)) (portsDone_tick levels readings arrival s)
  generalize dockCycle (portsDone levels readings arrival s) = d at hframe htick
  exact ⟨htick, hframe .pen (by decide), hframe .supply (by decide), hframe .params (by decide), hframe .advisor (by decide), hframe⟩

theorem Finds.param {s d : State} (h : Finds s d) (p : Param) : d.param p = s.param p := by
  unfold State.param
  rw [h.params]

/-- A boundary with a control period ends with it. -/
theorem boundary_period (levels : LineLevels) (readings : ConverterReadings) (arrival : List Source) {s : State}
    (hcharging : s.pen.state = .charging) (hdue : (s.tick + 1).toNat % 16 = 0) :
    ∃ d, Finds s d ∧ boundary levels readings arrival s = controlPeriod d := by
  have hfinds := portsDone_dockCycle_finds levels readings arrival s
  refine ⟨_, hfinds, ?_⟩
  rw [boundary_eq]
  generalize dockCycle (portsDone levels readings arrival s) = d at hfinds
  exact if_pos ⟨by rw [hfinds.pen]; exact hcharging, by rw [hfinds.tick]; exact hdue⟩

/-- The current feed of a period that is due. -/
theorem Finds.current {s d : State} (h : Finds s d) {i : Stamped} (hcurrent : s.pen.current = some i) :
    d.coilCurrent = i.value.toInt ∧ d.currentFresh = decide ((s.tick + 1 - i.timestamp).toNat < 32) := by
  unfold State.coilCurrent State.currentFresh State.since
  rw [h.pen, hcurrent, h.tick]
  exact ⟨rfl, rfl⟩

/-! ## Steps 1 to 3: feed, grant, overcurrent (R121, R126) -/

theorem controlPeriod_of_fresh {d : State} (hfresh : d.currentFresh = true) (hgrant : 5 ≤ d.supply.grants.pen) :
    controlPeriod d = checkOvercurrent d := by
  have hbudget : ¬ d.gateClosed .budget = true := fun hclosed => Nat.not_lt.2 hgrant (of_decide_eq_true hclosed)
  unfold controlPeriod
  rw [if_neg (by rw [hfresh]; decide), if_neg hbudget]

theorem Finds.checks {s d : State} (h : Finds s d) {i : Stamped} (hdue : s.PeriodDue i) : controlPeriod d = checkOvercurrent d := by
  obtain ⟨-, -, hcurrent, hfresh, hgrant⟩ := hdue
  exact controlPeriod_of_fresh ((h.current hcurrent).2.trans (decide_eq_true hfresh)) (by rw [h.supply]; exact hgrant)

theorem overLimitNow_iff {s d : State} (h : Finds s d) {i : Stamped} (hcurrent : s.pen.current = some i) :
    d.overLimitNow = true ↔ (s.param .ocLimit : Int) < i.value.toInt := by
  unfold State.overLimitNow
  rw [decide_eq_true_eq, (h.current hcurrent).1, h.param]

theorem uncoupled_iff {s d : State} (h : Finds s d) {i : Stamped} (hcurrent : s.pen.current = some i) :
    d.uncoupled = true ↔ s.param .couplingDuty ≤ s.pen.duty ∧ i.value.toInt < s.param .couplingFloor := by
  unfold State.uncoupled
  rw [Bool.and_eq_true, decide_eq_true_eq, decide_eq_true_eq, (h.current hcurrent).1, h.param, h.param, h.pen]

theorem tapered_iff {s d : State} (h : Finds s d) {i : Stamped} (hcurrent : s.pen.current = some i) :
    d.tapered = true
      ↔ (∃ v, s.pen.cell = some v ∧ (s.param .fullVoltage : Int) ≤ v.toInt) ∧ i.value.toInt < s.param .taperCurrent := by
  unfold State.tapered
  rw [(h.current hcurrent).1, h.param, h.param, h.pen]
  cases s.pen.cell <;> simp

/-- A condition remembered has stood since its start, or from now on. -/
theorem stood_startTick (s u : State) (holds : Bool) (start : Option Tick) (time : Nat) (htick : u.tick = s.tick) :
    u.stood (startTick s holds start) time = (holds && decide (time ≤ (s.tick - start.getD s.tick).toNat)) := by
  cases holds with
  | false => rfl
  | true =>
    unfold State.stood startTick State.since
    rw [htick]
    rfl

/-- The state of a period after its overcurrent check. -/
def State.limitNoted (d : State) : State := { d with pen := { d.pen with overLimit := d.overLimitNow } }

/-- The state of a period after its coupling check. -/
def State.couplingNoted (d : State) : State :=
  { d with pen := { d.pen with overLimit := d.overLimitNow, couplingStart := startTick d d.uncoupled d.pen.couplingStart } }

/-- The state of a period after its top-off check. -/
def State.taperNoted (d : State) : State :=
  { d with
    pen :=
      { d.pen with
        overLimit := d.overLimitNow, couplingStart := startTick d d.uncoupled d.pen.couplingStart
        taperStart := startTick d d.tapered d.pen.taperStart } }

theorem checkOvercurrent_faults {d : State} (h : d.overLimitNow = true ∧ d.pen.overLimit = true) :
    checkOvercurrent d = takeFault .overcurrent d := by
  unfold checkOvercurrent
  rw [h.1, h.2]
  rfl

theorem checkOvercurrent_passes {d : State} (h : ¬ (d.overLimitNow = true ∧ d.pen.overLimit = true)) :
    checkOvercurrent d = checkCoupling d.limitNoted := if_neg (by rw [Bool.and_eq_true]; exact h)

/-- Whether the COUPLING condition has stood for its time. -/
def State.couplingFails (d : State) : Prop :=
  d.uncoupled = true ∧ d.param .couplingTime ≤ (d.tick - d.pen.couplingStart.getD d.tick).toNat

theorem stood_coupling (d : State) :
    d.couplingNoted.stood d.couplingNoted.pen.couplingStart (d.couplingNoted.param .couplingTime) = true ↔ d.couplingFails := by
  have hstood := stood_startTick d d.couplingNoted d.uncoupled d.pen.couplingStart (d.param .couplingTime) rfl
  change d.couplingNoted.stood (startTick d d.uncoupled d.pen.couplingStart) (d.param .couplingTime) = true ↔ _
  rw [hstood, Bool.and_eq_true, decide_eq_true_eq]
  rfl

theorem checkCoupling_faults {d : State} (h : d.couplingFails) : checkCoupling d.limitNoted = takeFault .coupling d.couplingNoted :=
  if_pos ((stood_coupling d).2 h)

theorem checkCoupling_passes {d : State} (h : ¬ d.couplingFails) : checkCoupling d.limitNoted = checkTopOff d.couplingNoted :=
  if_neg fun hstood => h ((stood_coupling d).1 hstood)

/-- Whether the top-off condition has stood for its time. -/
def State.taperEnds (d : State) : Prop :=
  d.tapered = true ∧ d.param .fullDwell ≤ (d.tick - d.pen.taperStart.getD d.tick).toNat

theorem stood_taper (d : State) :
    d.taperNoted.stood d.taperNoted.pen.taperStart (d.taperNoted.param .fullDwell) = true ↔ d.taperEnds := by
  have hstood := stood_startTick d d.taperNoted d.tapered d.pen.taperStart (d.param .fullDwell) rfl
  change d.taperNoted.stood (startTick d d.tapered d.pen.taperStart) (d.param .fullDwell) = true ↔ _
  rw [hstood, Bool.and_eq_true, decide_eq_true_eq]
  rfl

theorem checkTopOff_ends {d : State} (h : d.taperEnds) : checkTopOff d.couplingNoted = topOff d.taperNoted :=
  if_pos ((stood_taper d).2 h)

theorem checkTopOff_passes {d : State} (h : ¬ d.taperEnds) : checkTopOff d.couplingNoted = regulate d.taperNoted :=
  if_neg fun hstood => h ((stood_taper d).1 hstood)

/-! ## What ends a run (R126, R127, R131) -/

/-- A fault taken depends on the fault record, the retry set, the parameters and the pen's request. -/
theorem State.FaultTaken.of_same {f : PenFault} {s d t : State} (h : d.FaultTaken f t) (hfaults : d.pen.faults = s.pen.faults)
    (hset : d.pen.laterSet = s.pen.laterSet) (hused : d.pen.used = s.pen.used) (hparams : d.params = s.params)
    (hrequests : d.supply.requests = s.supply.requests) : s.FaultTaken f t := by
  unfold State.FaultTaken State.param at h ⊢
  rw [hfaults, hset, hused, hparams, hrequests] at h
  exact h

theorem State.TopsOff.of_same {s d t : State} (h : d.TopsOff t) (hfaults : d.pen.faults = s.pen.faults) (hparams : d.params = s.params) :
    s.TopsOff t := by
  unfold State.TopsOff State.param at h ⊢
  rw [hfaults, hparams] at h
  exact h

theorem State.PausesAt.of_same {g : Gate} {s d t : State} (h : d.PausesAt g t) (hfaults : d.pen.faults = s.pen.faults) :
    s.PausesAt g t := by
  unfold State.PausesAt at h ⊢
  rw [hfaults] at h
  exact h

/-- A pause for the leading gate leaves the supply, the MONITOR gate and which gate leads. -/
theorem pauseLeading_pauses {s : State} (hcharging : s.pen.state = .charging) {g : Gate} (hclosed : s.gateClosed g = true) :
    (pauseLeading s).pen.monitorClosed = s.pen.monitorClosed ∧ (pauseLeading s).supply = s.supply
      ∧ ∃ g, (pauseLeading s).leadingGate = some g ∧ s.PausesAt g (pauseLeading s) := by
  have hleads : s.leadingGate ≠ none := fun hnone => by
    have hopen := List.find?_eq_none.1 hnone g (by cases g <;> decide)
    exact hopen hclosed
  obtain ⟨g, hgate⟩ := Option.ne_none_iff_exists'.1 hleads
  have hpause : pauseLeading s = pausePen g s := by
    unfold pauseLeading
    rw [hgate]
  obtain ⟨-, -, -, -, -, -, -, -, -, -, hmonitor, -⟩ := movePen_pen .paused (some g) s
  rw [hpause]
  refine ⟨?_, (enterPen_grantKept _ _ _ s).supply, g, ?_, pausePen_pauses g (coilGuarded_of_charging hcharging)⟩
  · unfold pausePen
    rw [enterPen_pen]
    exact hmonitor
  · unfold pausePen
    rw [enterPen_leadingGate]
    exact hgate

/-- A stale or absent current feed. -/
theorem controlPeriod_stale {d : State} (hcharging : d.pen.state = .charging) (hstale : d.currentFresh = false) :
    (controlPeriod d).pen.monitorClosed = true ∧ (controlPeriod d).supply = d.supply
      ∧ ∃ g, (controlPeriod d).leadingGate = some g ∧ d.PausesAt g (controlPeriod d) := by
  obtain ⟨hmonitor, hsupply, g, hgate, hpauses⟩ :=
    pauseLeading_pauses (s := { d with pen := { d.pen with monitorClosed := true } }) (g := .monitor) hcharging rfl
  have hperiod : controlPeriod d = pauseLeading { d with pen := { d.pen with monitorClosed := true } } := if_pos hstale
  rw [hperiod]
  exact ⟨hmonitor, hsupply, g, hgate, hpauses⟩

/-- A grant below 5 units. -/
theorem controlPeriod_starved {d : State} (hcharging : d.pen.state = .charging) (hfresh : d.currentFresh = true)
    (hgrant : d.supply.grants.pen < 5) :
    (controlPeriod d).pen.monitorClosed = d.pen.monitorClosed ∧ (controlPeriod d).supply = d.supply
      ∧ ∃ g, (controlPeriod d).leadingGate = some g ∧ d.PausesAt g (controlPeriod d) := by
  have hclosed : d.gateClosed .budget = true := decide_eq_true hgrant
  have hperiod : controlPeriod d = pauseLeading d := by
    unfold controlPeriod
    rw [if_neg (by rw [hfresh]; decide), if_pos hclosed]
  rw [hperiod]
  exact pauseLeading_pauses hcharging hclosed

theorem couplingFails_iff {s d : State} (h : Finds s d) {i : Stamped} (hcurrent : s.pen.current = some i) :
    d.couplingFails
      ↔ (s.param .couplingDuty ≤ s.pen.duty ∧ i.value.toInt < s.param .couplingFloor)
        ∧ s.param .couplingTime ≤ (s.tick + 1 - s.pen.couplingStart.getD (s.tick + 1)).toNat := by
  unfold State.couplingFails
  rw [uncoupled_iff h hcurrent, h.param, h.tick, h.pen]

theorem taperEnds_iff {s d : State} (h : Finds s d) {i : Stamped} (hcurrent : s.pen.current = some i) :
    d.taperEnds
      ↔ ((∃ v, s.pen.cell = some v ∧ (s.param .fullVoltage : Int) ≤ v.toInt) ∧ i.value.toInt < s.param .taperCurrent)
        ∧ s.param .fullDwell ≤ (s.tick + 1 - s.pen.taperStart.getD (s.tick + 1)).toNat := by
  unfold State.taperEnds
  rw [tapered_iff h hcurrent, h.param, h.tick, h.pen]

/-- The overcurrent check passes. -/
theorem overLimit_passes {s d : State} (h : Finds s d) {i : Stamped} (hcurrent : s.pen.current = some i)
    (hpass : ¬ ((s.param .ocLimit : Int) < i.value.toInt ∧ s.pen.overLimit = true)) :
    ¬ (d.overLimitNow = true ∧ d.pen.overLimit = true) := fun hover =>
  hpass ⟨(overLimitNow_iff h hcurrent).1 hover.1, by rw [← h.pen]; exact hover.2⟩

/-- What the checks of a period that is due make of it. -/
theorem Finds.ends {s d : State} (h : Finds s d) {i : Stamped} (hdue : s.PeriodDue i) :
    let exceeds : Prop := (s.param .ocLimit : Int) < i.value.toInt
    let uncoupled : Prop := (s.param .couplingDuty ≤ s.pen.duty ∧ i.value.toInt < s.param .couplingFloor)
      ∧ s.param .couplingTime ≤ (s.tick + 1 - s.pen.couplingStart.getD (s.tick + 1)).toNat
    (exceeds → s.pen.overLimit = true → s.FaultTaken .overcurrent (controlPeriod d))
      ∧ (¬ (exceeds ∧ s.pen.overLimit = true) → uncoupled → s.FaultTaken .coupling (controlPeriod d))
      ∧ (∀ v, ¬ (exceeds ∧ s.pen.overLimit = true) → ¬ uncoupled →
          s.pen.cell = some v → (s.param .fullVoltage : Int) ≤ v.toInt → i.value.toInt < s.param .taperCurrent →
          s.param .fullDwell ≤ (s.tick + 1 - s.pen.taperStart.getD (s.tick + 1)).toNat → s.TopsOff (controlPeriod d)) := by
  have hchecks := h.checks hdue
  obtain ⟨hcharging, -, hcurrent, -, -⟩ := hdue
  have hcharges : d.pen.state = .charging := by rw [h.pen]; exact hcharging
  rw [hchecks]
  refine ⟨fun hexceeds hover => ?_, fun hpass hfails => ?_, fun v hpass hkept hcell hfull htaper hstood => ?_⟩
  · rw [checkOvercurrent_faults ⟨(overLimitNow_iff h hcurrent).2 hexceeds, by rw [h.pen]; exact hover⟩]
    exact (takeFault_taken .overcurrent hcharges).of_same (by rw [h.pen]) (by rw [h.pen]) (by rw [h.pen]) h.params (by rw [h.supply])
  · rw [checkOvercurrent_passes (overLimit_passes h hcurrent hpass), checkCoupling_faults ((couplingFails_iff h hcurrent).2 hfails)]
    exact (takeFault_taken .coupling (s := d.couplingNoted) hcharges).of_same (congrArg PenBlock.faults h.pen :)
      (congrArg PenBlock.laterSet h.pen :) (congrArg PenBlock.used h.pen :) h.params (congrArg SupplyBlock.requests h.supply)
  · rw [checkOvercurrent_passes (overLimit_passes h hcurrent hpass),
      checkCoupling_passes fun hfails => hkept ((couplingFails_iff h hcurrent).1 hfails),
      checkTopOff_ends ((taperEnds_iff h hcurrent).2 ⟨⟨⟨v, hcell, hfull⟩, htaper⟩, hstood⟩)]
    exact (topOff_tops (s := d.taperNoted) (coilGuarded_of_charging hcharges)).1.of_same (congrArg PenBlock.faults h.pen :) h.params

/-- Settles O10: the checks of the period by `Finds.ends`, and the two pauses. -/
theorem overcurrentStartsARetryWait : Obligations.OvercurrentStartsARetryWait := by
  intro levels readings arrival s
  refine ⟨_, exec_tick levels readings arrival s, ?_⟩
  have hperiod := fun h1 h2 => boundary_period levels readings arrival (s := s) h1 h2
  have hframe := boundary_frame levels readings arrival s
  generalize boundary levels readings arrival s = t at hperiod hframe
  refine ⟨fun i hdue hexceeds hover => ?_, fun i hdue hpass hfails hstood => ?_,
    fun i v hdue hpass hkept hcell hfull htaper hstood => ?_, fun hcharging hnow hstale => ?_,
    fun i hcharging hnow hcurrent hfresh hgrant => ?_, hframe.settled s⟩
  · obtain ⟨d, hfinds, rfl⟩ := hperiod hdue.1 hdue.2.1
    exact (hfinds.ends hdue).1 hexceeds hover
  · obtain ⟨d, hfinds, rfl⟩ := hperiod hdue.1 hdue.2.1
    exact (hfinds.ends hdue).2.1 hpass ⟨hfails, hstood⟩
  · obtain ⟨d, hfinds, rfl⟩ := hperiod hdue.1 hdue.2.1
    exact (hfinds.ends hdue).2.2 v hpass hkept hcell hfull htaper hstood
  · obtain ⟨d, hfinds, rfl⟩ := hperiod hcharging hnow
    have hfresh : d.currentFresh = false := by
      unfold State.currentFresh State.since
      rw [hfinds.pen, hfinds.tick]
      cases hcurrent : s.pen.current with
      | none => rfl
      | some i => exact decide_eq_false (Nat.not_lt.2 (hstale i hcurrent))
    obtain ⟨hmonitor, hsupply, g, hgate, hpauses⟩ := controlPeriod_stale (by rw [hfinds.pen]; exact hcharging) hfresh
    exact ⟨hmonitor, hsupply.trans hfinds.supply, g, hgate, hpauses.of_same (by rw [hfinds.pen])⟩
  · obtain ⟨d, hfinds, rfl⟩ := hperiod hcharging hnow
    obtain ⟨hmonitor, hsupply, g, hgate, hpauses⟩ := controlPeriod_starved (d := d) (by rw [hfinds.pen]; exact hcharging)
      ((hfinds.current hcurrent).2.trans (decide_eq_true hfresh)) (by rw [hfinds.supply]; exact hgrant)
    exact ⟨by rw [← hfinds.pen]; exact hmonitor, hsupply.trans hfinds.supply, g, hgate, hpauses.of_same (by rw [hfinds.pen])⟩

/-! ## A period with nothing wrong (R121, R123 to R125) -/

/-- Requests placed by a CHARGING pen whose INHIBIT and SLEEP gates are open: a changed grant does not pause it. -/
theorem placeRequests_of_open {r : Shares} {s : State} (h : s.pen.state = .charging) (hinhibit : s.gateClosed .inhibit = false)
    (hsleep : s.gateClosed .sleep = false) :
    StillServed s (placeRequests r s) ∧ (placeRequests r s).supply.requests = r
      ∧ (s.supply.requests = r → placeRequests r s = s)
      ∧ (s.supply.requests ≠ r → (placeRequests r s).supply.grants = divideBudget s.supply.budget r
          ∧ (placeRequests r s).supply.budget = s.supply.budget) := by
  have hallocated : ∀ u : State, u.pen.state = .charging → u.gateClosed .inhibit = false → u.gateClosed .sleep = false →
      (allocate u).pen.state = .charging := fun u hu hui hus => by
    rw [allocate_pen]
    unfold regateGrants
    split
    · rw [announceGrants_pen]
      exact hu
    · rw [rereadGates_of_charging (by rw [announceGrants_pen]; exact hu) ((announceGrants_gateClosed (by decide)).trans hui)
        ((announceGrants_gateClosed (by decide)).trans hus), announceGrants_pen]
      exact hu
  by_cases hr : r = s.supply.requests
  · have hsame : placeRequests r s = s := if_pos hr
    rw [hsame]
    exact ⟨⟨rfl, .refl _ s, fun _ => .refl _ s⟩, hr.symm, fun _ => rfl, fun hne => absurd hr.symm hne⟩
  · have hplaced : placeRequests r s = allocate { s with supply := { s.supply with requests := r } } := if_neg hr
    have hsupply := allocate_supply { s with supply := { s.supply with requests := r } }
    refine ⟨placeRequests_of_still h (by rw [hplaced]; exact hallocated _ h hinhibit hsleep), ?_, fun he => absurd he.symm hr, fun _ => ?_⟩
    · rw [hplaced, hsupply]
    · rw [hplaced, hsupply]
      exact ⟨rfl, rfl⟩

/-- The steps of the coil at a period (R124, R125). -/
theorem stepCoil_steps (p : State) :
    (p.grantCurrent < p.pen.target → (stepCoil p).pen.target = 0 ∧ (stepCoil p).pen.duty = 0)
      ∧ (p.pen.target ≤ p.grantCurrent → (stepCoil p).pen.target = p.rampedTarget
          ∧ ((stepCoil p).pen.duty : Int)
            = max 0 (min (p.param .dutyMax : Int) ((p.pen.duty : Int)
                + max (-(p.param .stepLimit : Int)) (min (p.param .stepLimit : Int)
                    (((p.rampedTarget : Int) - p.coilCurrent) / (2 ^ p.param .gainShift : Nat)))))) := by
  unfold stepCoil
  refine ⟨fun hsoft => ?_, fun hramp => ?_⟩
  · rw [if_pos hsoft]
    exact ⟨rfl, rfl⟩
  · rw [if_neg (Nat.not_lt.2 hramp)]
    exact ⟨rfl, Int.toNat_of_nonneg (Int.le_max_left _ _)⟩

/-- The steps leave the rest of the pen. -/
theorem stepCoil_keeps (p : State) :
    (stepCoil p).pen = { p.pen with target := (stepCoil p).pen.target, duty := (stepCoil p).pen.duty } := by
  unfold stepCoil
  dsimp only
  split <;> rfl

/-- The state of a period whose checks pass, with the curve's target read. -/
def State.curveRead (d : State) : State :=
  { d with
    pen :=
      { d.pen with
        overLimit := d.overLimitNow, couplingStart := startTick d d.uncoupled d.pen.couplingStart
        taperStart := startTick d d.tapered d.pen.taperStart, curveTarget := curveTarget d.pen.curve d.pen.cell } }

theorem requests_eq_iff (r : Shares) (n : Nat) : r = { r with pen := n } ↔ r.pen = n := by
  constructor
  · exact fun h => congrArg Shares.pen h
  · rintro rfl
    rfl

theorem curveRead_gateClosed (d : State) : d.curveRead.gateClosed = d.gateClosed := gateClosed_congr rfl rfl rfl rfl rfl

/-- The request placed at a period. -/
theorem placePen_curveRead {d : State} (hcharging : d.pen.state = .charging) (hinhibit : d.gateClosed .inhibit = false)
    (hsleep : d.gateClosed .sleep = false) (n : Nat) :
    StillServed d.curveRead (placePen n d.curveRead) ∧ (placePen n d.curveRead).supply.requests = { d.supply.requests with pen := n }
      ∧ (d.supply.requests.pen = n → placePen n d.curveRead = d.curveRead)
      ∧ (d.supply.requests.pen ≠ n →
          (placePen n d.curveRead).supply.grants = divideBudget d.supply.budget { d.supply.requests with pen := n }
            ∧ (placePen n d.curveRead).supply.budget = d.supply.budget) := by
  have hgates := curveRead_gateClosed d
  have hsupply : d.curveRead.supply = d.supply := rfl
  have hstate : d.curveRead.pen.state = d.pen.state := rfl
  generalize d.curveRead = u at hgates hsupply hstate ⊢
  obtain ⟨hstill, hrequests, hsame, hchanged⟩ := placeRequests_of_open (s := u) (r := { u.supply.requests with pen := n })
    (hstate.trans hcharging) (by rw [hgates]; exact hinhibit) (by rw [hgates]; exact hsleep)
  rw [← hsupply]
  exact ⟨hstill, hrequests, fun h => hsame ((requests_eq_iff _ _).2 h), fun h => hchanged fun heq => h ((requests_eq_iff _ _).1 heq)⟩

theorem regulate_taperNoted {d : State} (hcharging : d.pen.state = .charging) (hinhibit : d.gateClosed .inhibit = false)
    (hsleep : d.gateClosed .sleep = false) :
    regulate d.taperNoted = stepCoil (placePen (penUnits (curveTarget d.pen.curve d.pen.cell)) d.curveRead) := by
  have hplaced := (placePen_curveRead hcharging hinhibit hsleep (penUnits (curveTarget d.pen.curve d.pen.cell))).1.pen
  have hstate : (placeCurve d.taperNoted).pen.state = .charging := (congrArg PenBlock.state hplaced).trans hcharging
  rw [regulate_eq, if_pos hstate]
  rfl

/-- The pen after a period with nothing wrong. -/
structure Regulated (s : State) (c : Nat) (t : State) : Prop where
  state : t.pen.state = .charging
  curve : t.pen.curveTarget = c
  requests : t.supply.requests = { s.supply.requests with pen := penUnits c }
  same : s.supply.requests.pen = penUnits c → t.supply = s.supply
  changed : s.supply.requests.pen ≠ penUnits c →
    t.supply.grants = divideBudget s.supply.budget t.supply.requests ∧ t.supply.budget = s.supply.budget
  overLimit : t.pen.overLimit = s.overLimitNow
  couplingStart : t.pen.couplingStart = startTick s s.uncoupled s.pen.couplingStart
  taperStart : t.pen.taperStart = startTick s s.tapered s.pen.taperStart
  frame : SameBut [.supply, .pen, .events, .dockLink] s t
  frameSame : s.supply.requests.pen = penUnits c → SameBut [.pen] s t

/-- The coil's values after a period with nothing wrong. -/
def Driven (s : State) (c : Nat) (t : State) : Prop :=
  let g := 10 * t.supply.grants.pen
  let up := s.param .rampUp
  let down := if s.param .rampDownHalf = 0 then up else max 1 (up / 2)
  let l := min c g
  let old := s.pen.target
  let target := if old < l then min l (old + up) else if l < old then max l (old - down) else old
  let step : Int :=
    max (-(s.param .stepLimit : Int))
      (min (s.param .stepLimit : Int) (((target : Int) - s.coilCurrent) / (2 ^ s.param .gainShift : Nat)))
  (g < old → t.pen.target = 0 ∧ t.pen.duty = 0)
    ∧ (old ≤ g → t.pen.target = target ∧ (t.pen.duty : Int) = max 0 (min (s.param .dutyMax : Int) ((s.pen.duty : Int) + step)))

theorem curveRead_frame (d : State) : SameBut [.pen] d d.curveRead := by
  intro b hb
  cases b <;> first | rfl | exact absurd (by decide) hb

/-- Curve, request and coil of a period whose checks pass. -/
theorem regulate_regulates {d : State} (hcharging : d.pen.state = .charging) (hinhibit : d.gateClosed .inhibit = false)
    (hsleep : d.gateClosed .sleep = false) :
    Regulated d (curveTarget d.pen.curve d.pen.cell) (regulate d.taperNoted)
      ∧ Driven d (curveTarget d.pen.curve d.pen.cell) (regulate d.taperNoted) := by
  rw [regulate_taperNoted hcharging hinhibit hsleep]
  obtain ⟨hstill, hrequests, hsame, hchanged⟩ :=
    placePen_curveRead hcharging hinhibit hsleep (penUnits (curveTarget d.pen.curve d.pen.cell))
  have hread := curveRead_frame d
  have hparams : (placePen (penUnits (curveTarget d.pen.curve d.pen.cell)) d.curveRead).params = d.params := hstill.frame .params (by decide)
  generalize placePen (penUnits (curveTarget d.pen.curve d.pen.cell)) d.curveRead = p at hstill hrequests hsame hchanged hparams
  obtain ⟨hpen, hframe, -⟩ := hstill
  obtain ⟨hsoft, hramp⟩ := stepCoil_steps p
  have hkeeps := stepCoil_keeps p
  have hstep := stepCoil_frame p
  have hsupply : (stepCoil p).supply = p.supply := hstep .supply (by decide)
  have hparam : ∀ x, p.param x = d.param x := fun x => congrArg (fun m : List Nat => m.getD x.index 0) hparams
  have hcurrent : p.coilCurrent = d.coilCurrent := by
    unfold State.coilCurrent
    rw [hpen]
    rfl
  have hramped : p.rampedTarget = (let l := min (curveTarget d.pen.curve d.pen.cell) (10 * p.supply.grants.pen)
      if d.pen.target < l then min l (d.pen.target + d.param .rampUp)
      else if l < d.pen.target then
        max l (d.pen.target - if d.param .rampDownHalf = 0 then d.param .rampUp else max 1 (d.param .rampUp / 2))
      else d.pen.target) := by
    unfold State.rampedTarget State.rampDown State.grantCurrent
    rw [hpen, hparam, hparam]
    rfl
  have hduty : p.pen.duty = d.pen.duty := by rw [hpen]; rfl
  have htarget : p.pen.target = d.pen.target := by rw [hpen]; rfl
  rw [hparam, hparam, hparam, hcurrent, hramped, hduty, htarget] at hramp
  rw [htarget] at hsoft
  refine ⟨⟨?_, ?_, ?_, fun hreq => ?_, fun hreq => ?_, ?_, ?_, ?_, ?_, fun hreq => ?_⟩, ?_⟩
  · rw [hkeeps, hpen]; exact hcharging
  · rw [hkeeps, hpen]; rfl
  · rw [hsupply, hrequests]
  · rw [hsupply, hsame hreq]; rfl
  · obtain ⟨hgrants, hbudget⟩ := hchanged hreq
    rw [hsupply, hrequests]
    exact ⟨hgrants, hbudget⟩
  · rw [hkeeps, hpen]; rfl
  · rw [hkeeps, hpen]; rfl
  · rw [hkeeps, hpen]; rfl
  · exact ((hread.mono _ (by decide)).trans (hframe.mono _ (by decide))).trans (hstep.mono _ (by decide))
  · rw [hsame hreq] at hstep ⊢
    exact hread.trans hstep
  · unfold Driven
    dsimp only
    rw [hsupply]
    exact ⟨hsoft, hramp⟩

/-- A period that is due, with nothing wrong and nothing that has stood for its time. -/
theorem Finds.regulates {s d : State} (h : Finds s d) {i : Stamped} (hdue : s.PeriodDue i) (hinhibit : s.gateClosed .inhibit = false)
    (hsleep : s.gateClosed .sleep = false) (hpass : ¬ ((s.param .ocLimit : Int) < i.value.toInt ∧ s.pen.overLimit = true))
    (hcoupled : ¬ ((s.param .couplingDuty ≤ s.pen.duty ∧ i.value.toInt < s.param .couplingFloor)
        ∧ s.param .couplingTime ≤ (s.tick + 1 - s.pen.couplingStart.getD (s.tick + 1)).toNat))
    (htaper : ¬ (((∃ v, s.pen.cell = some v ∧ (s.param .fullVoltage : Int) ≤ v.toInt) ∧ i.value.toInt < s.param .taperCurrent)
        ∧ s.param .fullDwell ≤ (s.tick + 1 - s.pen.taperStart.getD (s.tick + 1)).toNat)) :
    Regulated d (curveTarget d.pen.curve d.pen.cell) (controlPeriod d) ∧ Driven d (curveTarget d.pen.curve d.pen.cell) (controlPeriod d) := by
  have hchecks := h.checks hdue
  obtain ⟨hcharging, -, hcurrent, -, -⟩ := hdue
  have hgates : d.gateClosed = s.gateClosed :=
    gateClosed_congr (by rw [h.pen]) (by rw [h.pen]) h.supply (by rw [h.advisor]) h.params
  rw [hchecks, checkOvercurrent_passes (overLimit_passes h hcurrent hpass),
    checkCoupling_passes fun hfails => hcoupled ((couplingFails_iff h hcurrent).1 hfails),
    checkTopOff_passes fun hends => htaper ((taperEnds_iff h hcurrent).1 hends)]
  exact regulate_regulates (by rw [h.pen]; exact hcharging) (by rw [hgates]; exact hinhibit) (by rw [hgates]; exact hsleep)

theorem startTick_holds {s : State} {holds : Bool} {start : Option Tick} (h : holds = true) :
    startTick s holds start = some (start.getD s.tick) := if_pos h

theorem startTick_fails {s : State} {holds : Bool} {start : Option Tick} (h : ¬ holds = true) : startTick s holds start = none := if_neg h

/-- Settles O9: the checks pass, and the coil is driven by the curve, the grant and the error. -/
theorem controlPeriodRegulatesTheCoil : Obligations.ControlPeriodRegulatesTheCoil := by
  intro levels readings arrival s i now exceeds uncoupled tapers hdue hinhibit hsleep hpass hcoupled htaper
  have hperiod := fun h1 h2 => boundary_period levels readings arrival (s := s) h1 h2
  refine ⟨_, exec_tick levels readings arrival s, ?_⟩
  generalize boundary levels readings arrival s = t at hperiod
  obtain ⟨d, hfinds, rfl⟩ := hperiod hdue.1 hdue.2.1
  obtain ⟨hregulated, hdriven⟩ := hfinds.regulates hdue hinhibit hsleep hpass
    (fun hfails => Nat.not_le.2 (hcoupled hfails.1) hfails.2) (fun hends => Nat.not_le.2 (htaper hends.1) hends.2)
  have hcurrent := hdue.2.2.1
  unfold Driven at hdriven
  dsimp only at hdriven
  rw [(hfinds.current hcurrent).1] at hdriven
  simp only [hfinds.pen, hfinds.param] at hdriven
  generalize controlPeriod d = t at hregulated hdriven
  obtain ⟨hstate, hcurve, hrequests, hsame, hchanged, hover, hcoupling, htapering, hframe, hframeSame⟩ := hregulated
  simp only [hfinds.pen, hfinds.supply] at hcurve hrequests hsame hchanged hover hcoupling htapering hframeSame
  obtain ⟨hsoft, hramp⟩ := hdriven
  refine ⟨hstate, hcurve, hrequests, hsame, hchanged, hsoft, hramp, ?_, fun h => ?_, fun h => ?_, fun h => ?_, fun h => ?_, ?_, fun h => ?_⟩
  · exact ((overLimitNow_iff hfinds hcurrent).symm.trans (by rw [← hover]; rfl))
  · exact (hcoupling.trans (startTick_holds ((uncoupled_iff hfinds hcurrent).2 h))).trans (by rw [hfinds.tick])
  · exact hcoupling.trans (startTick_fails fun hu => h ((uncoupled_iff hfinds hcurrent).1 hu))
  · exact (htapering.trans (startTick_holds ((tapered_iff hfinds hcurrent).2 h))).trans (by rw [hfinds.tick])
  · exact htapering.trans (startTick_fails fun hu => h ((tapered_iff hfinds hcurrent).1 hu))
  · exact SameBut.settled (l := [.tick, .lines, .poll, .fifo, .gaps, .dockLink, .supply, .pen, .events]) s
      ((hfinds.frame.mono _ (by decide)).trans (hframe.mono _ (by decide)))
  · exact SameBut.settled (l := [.tick, .lines, .poll, .fifo, .gaps, .dockLink, .pen]) s
      ((hfinds.frame.mono _ (by decide)).trans ((hframeSame h).mono _ (by decide)))

end Sys2Proof.Machine
end

section
/-! O23: the arctangent stage of a vector turned half round. -/

namespace Sys2Proof.Machine

set_option Elab.async false

/-! ## The arctangent stage (R47, R48) -/

theorem arctanTable_le (i : Nat) : arctanTable.getD i 512 ≤ 512 := by
  by_cases h : i < 17
  · exact (by decide : ∀ i, i < 17 → arctanTable.getD i 512 ≤ 512) i h
  · exact Nat.le_of_eq (by rw [List.getD_eq_getElem?_getD, List.getElem?_eq_none (Nat.not_lt.1 h), Option.getD_none])

theorem arctanOf_le (r : Nat) : arctanOf r ≤ 1024 := by
  have hlow := arctanTable_le (r / 64)
  have hhigh := arctanTable_le (r / 64 + 1)
  unfold arctanOf
  dsimp only
  generalize arctanTable.getD (r / 64) 512 = t at hlow ⊢
  generalize arctanTable.getD (r / 64 + 1) 512 = u at hhigh ⊢
  have hrest : r - 64 * (r / 64) ≤ 63 := by omega
  generalize r - 64 * (r / 64) = f at hrest ⊢
  have hstep : (u - t) * f ≤ 512 * 63 := Nat.mul_le_mul (by omega) hrest
  split <;> omega

theorem quarterAngle_le (a b : Nat) : quarterAngle a b ≤ 1024 := by
  unfold quarterAngle
  split
  · exact arctanOf_le _
  · exact Nat.sub_le _ _

/-- The least value aside, a value turned round changes its sign and keeps its size. -/
theorem neg_value {a : Value} (hzero : a ≠ 0) (hleast : a ≠ 0x8000) :
    absValue (-a) = absValue a ∧ (0 ≤ (-a).toInt ↔ ¬ 0 ≤ a.toInt) := by
  have hneg : (-a).toInt = -a.toInt := BitVec.toInt_neg_of_ne_intMin hleast
  have hne : a.toInt ≠ 0 := fun h => hzero (BitVec.toInt_inj.1 h)
  unfold absValue
  rw [hneg]
  exact ⟨Int.natAbs_neg _, by omega⟩

/-- Settles O23: the angle within the quadrant stays and the quadrant is the opposite one. -/
theorem reversedVectorTurnsTheStageHalfway : Obligations.ReversedVectorTurnsTheStageHalfway := by
  intro a b ha hb haleast hbleast
  obtain ⟨hasize, hasign⟩ := neg_value ha haleast
  obtain ⟨hbsize, hbsign⟩ := neg_value hb hbleast
  have hq := quarterAngle_le (absValue a) (absValue b)
  unfold stage
  dsimp only
  rw [hasize, hbsize]
  generalize quarterAngle (absValue a) (absValue b) = q at hq ⊢
  have hhalf : (2048 : Angle).toNat = 2048 := rfl
  apply BitVec.eq_of_toNat_eq
  rw [BitVec.toNat_add, hhalf]
  by_cases hpa : 0 ≤ a.toInt <;> by_cases hpb : 0 ≤ b.toInt <;>
    simp only [hasign, hbsign, hpa, hpb, not_true_eq_false, not_false_eq_true, if_true, if_false, BitVec.toNat_ofNat] <;>
    omega

end Sys2Proof.Machine
end

section
/-! O48: the fall of chip select, and what is clocked out. -/

namespace Sys2Proof.Machine

set_option Elab.async false

/-! ## What the host clocks out (R163, R166, section 11.2) -/

theorem clockedOut_length (x : Transaction) (count : Nat) : (x.clockedOut count).length = count := by
  unfold Transaction.clockedOut
  rw [List.length_append, List.length_take, List.length_replicate]
  omega

theorem clockedOut_getElem? (x : Transaction) {count k : Nat} (h : k < count) :
    (x.clockedOut count)[k]? = some (x.bytes.getD k 0) := by
  unfold Transaction.clockedOut fillByte
  by_cases hin : k < x.bytes.length
  · rw [List.getElem?_append_left (by rw [List.length_take]; omega), List.getElem?_take_of_lt h, List.getD_eq_getElem?_getD,
      List.getElem?_eq_getElem hin, Option.getD_some]
  · have htaken : (x.bytes.take count).length = x.bytes.length := by
      rw [List.length_take]
      omega
    rw [List.getElem?_append_right (by omega), htaken, List.getElem?_replicate, if_pos (by omega),
      List.getD_eq_getElem?_getD, List.getElem?_eq_none (Nat.not_lt.1 hin), Option.getD_none]

/-- The upstream frame byte by byte. -/
theorem bytes_getD (x : Transaction) (k : Nat) :
    x.bytes.getD k 0
      = if k = 0 then x.frame.kind
        else if k = 1 then BitVec.ofNat 8 x.frame.payload.length
        else if k = 2 then flagByte x.flagEvents x.flagKeys x.flagSamples x.flagBatch false
        else x.frame.payload.getD (k - 3) 0 := by
  match k with
  | 0 => rfl
  | 1 => rfl
  | 2 => rfl
  | _ + 3 => rfl

/-! ## Whole items from the head (R166) -/

theorem packItems_fits {α : Type} (size : α → Nat) (space : Nat) (items : List α) :
    ((packItems size space items).1.map size).sum ≤ space := by
  induction items generalizing space with
  | nil => exact Nat.zero_le _
  | cons x rest ih =>
    unfold packItems
    split
    · next hx =>
      have hrest := ih (space - size x)
      rw [List.map_cons, List.sum_cons]
      omega
    · exact Nat.zero_le _

theorem packItems_longest {α : Type} (size : α → Nat) (space : Nat) (items : List α) :
    ∀ x ∈ (packItems size space items).2.head?, space < ((packItems size space items).1.map size).sum + size x := by
  induction items generalizing space with
  | nil => exact fun x hx => by cases hx
  | cons y rest ih =>
    unfold packItems
    split
    · next hy =>
      intro x hx
      have hrest := ih (space - size y) x hx
      rw [List.map_cons, List.sum_cons]
      omega
    · next hy =>
      intro x hx
      obtain rfl : y = x := Option.some.inj hx
      simpa using hy

/-- What a packing of a list's head says. -/
def Packs {α : Type} (size : α → Nat) (space : Nat) (items content rest : List α) : Prop :=
  items = content ++ rest ∧ (content.map size).sum ≤ space ∧ ∀ x ∈ rest.head?, space < (content.map size).sum + size x

theorem packItems_packs {α : Type} (size : α → Nat) (space : Nat) (items : List α) :
    Packs size space items (packItems size space items).1 (packItems size space items).2 :=
  ⟨(packItems_append size space items).symm, packItems_fits size space items, packItems_longest size space items⟩

/-! ## The frame selected (R165) -/

theorem selectUpstream_of_slot {s : State} {r : Response} (h : s.host.slot = some r) : selectUpstream s = (.response r, s) := by
  unfold selectUpstream
  rw [h]

theorem selectUpstream_of_events {s : State} (hslot : s.host.slot = none) (hevents : s.host.events ≠ []) :
    selectUpstream s = (.events (takeEvents s).1, { s with host := { s.host with events := (takeEvents s).2 } }) := by
  unfold selectUpstream
  rw [hslot]
  exact if_pos hevents

theorem selectUpstream_of_keys {s : State} (hslot : s.host.slot = none) (hevents : s.host.events = []) (hkeys : s.dock.keys ≠ []) :
    selectUpstream s = (.keys (takeKeyReports s).1, { s with dock := { s.dock with keys := (takeKeyReports s).2 } }) := by
  unfold selectUpstream
  rw [hslot]
  exact (if_neg fun h => h hevents).trans (if_pos hkeys)

theorem selectUpstream_of_samples {s : State} (hslot : s.host.slot = none) (hevents : s.host.events = []) (hkeys : s.dock.keys = [])
    (hsamples : s.host.samples ≠ []) :
    selectUpstream s = (.samples (takeSamples s).1, { s with host := { s.host with samples := (takeSamples s).2 } }) := by
  unfold selectUpstream
  rw [hslot]
  exact (if_neg fun h => h hevents).trans ((if_neg fun h => h hkeys).trans (if_pos hsamples))

/-- The four holdings ahead of the banks hold nothing. -/
structure BankNext (s : State) : Prop where
  slot : s.host.slot = none
  events : s.host.events = []
  keys : s.dock.keys = []
  samples : s.host.samples = []

theorem BankNext.selectUpstream {s : State} (h : BankNext s) :
    selectUpstream s
      = if s.advisor.platform.hostUp then
          (match s.batch.selected with
          | some i => selectBatch i s
          | none => (.idle, s))
        else (.idle, s) := by
  unfold Machine.selectUpstream
  rw [h.slot]
  exact (if_neg fun hne => hne h.events).trans ((if_neg fun hne => hne h.keys).trans (if_neg fun hne => hne h.samples))

theorem selectUpstream_of_batch {s : State} (h : BankNext s) (hup : s.advisor.platform.hostUp = true) {i : BankId}
    (hselected : s.batch.selected = some i) : Machine.selectUpstream s = selectBatch i s := by
  rw [h.selectUpstream, if_pos hup, hselected]

theorem selectUpstream_of_none {s : State} (h : BankNext s) (hnone : s.batch.selected = none ∨ s.advisor.platform.hostUp = false) :
    Machine.selectUpstream s = (.idle, s) := by
  rw [h.selectUpstream]
  by_cases hup : s.advisor.platform.hostUp = true
  · rw [if_pos hup, hnone.resolve_right (by rw [hup]; decide)]
  · rw [if_neg hup]

/-- The transaction of a frame selected, with what it leaves. -/
def Upstream.transaction (f : Upstream) (u : State) : Transaction :=
  { frame := f, flagEvents := u.holdings.events, flagKeys := u.holdings.keys, flagSamples := u.holdings.samples
    flagBatch := u.holdings.batch }

/-- A frame goes out. -/
def launch (f : Upstream) (u : State) : State := { u with host := { u.host with transaction := some (f.transaction u) } }

theorem beginTransaction_eq (s : State) : beginTransaction s = launch (selectUpstream s).1 (selectUpstream s).2 := rfl

theorem effect_fall {s : State} (h : s.host.transaction = none) :
    effect .chipSelectFall s = launch (selectUpstream s).1 (selectUpstream s).2 := by
  show fallSelect s = _
  unfold fallSelect
  rw [h]
  rfl

theorem launch_settled {l m : List Block} {f : Upstream} {s u before : State} (h : SameBut l s u) (hl : ∀ b ∈ l, b ∈ m := by decide)
    (hm : ∀ b ∈ [Block.transaction, .pulse], b ∈ m := by decide) : SameBut m s (settleAttention before (launch f u)) := by
  have hlaunch : SameBut [.transaction] u (launch f u) := by
    intro b hb
    cases b <;> first | rfl | exact absurd (by decide) hb
  have hall : SameBut m s (launch f u) := (h.mono _ hl).trans (hlaunch.mono _ fun b hb => hm b (by revert hb; revert b; decide))
  exact hall.settled before (fun _ hb => hb) fun b hb => hm b (by revert hb; revert b; decide)

theorem exec_fall {s : State} (h : s.host.transaction = none) :
    exec .chipSelectFall s = .next (settleAttention s (launch (selectUpstream s).1 (selectUpstream s).2)) := by
  rw [exec_eq, effect_fall h]

theorem exec_fall_again {s : State} (h : s.host.transaction ≠ none) : exec .chipSelectFall s = .next s.lineKept := by
  have hstays : effect .chipSelectFall s = s := by
    show fallSelect s = s
    unfold fallSelect
    split
    · next hnone => exact absurd hnone h
    · rfl
  rw [exec_eq, hstays, settle_self]

theorem hostUp_of_awake {p : Platform} (h : p = .awake ∨ p = .advised) : p.hostUp = true := by
  obtain rfl | rfl := h <;> rfl

theorem hostUp_of_asleep {p : Platform} (h : p = .asleep ∨ p = .waking) : p.hostUp = false := by
  obtain rfl | rfl := h <;> rfl

/-- Settles O48: the bytes one by one, and the frame selected by what the holdings hold. -/
theorem chipSelectFallSelectsInOrder : Obligations.ChipSelectFallSelectsInOrder := by
  refine ⟨fun x count => ⟨clockedOut_length x count, fun k hk => ?_⟩, fun s => ⟨exec_fall_again, fun hnone => ?_⟩⟩
  · rw [clockedOut_getElem? x hk, bytes_getD]
  refine ⟨_, _, exec_fall hnone, rfl, rfl, rfl, rfl, rfl, fun r hslot => ?_, fun hslot hevents => ?_,
    fun hslot hevents hkeys => ?_, fun hslot hevents hkeys hsamples => ?_,
    fun i hslot hevents hkeys hsamples hup hselected => ?_, fun hslot hevents hkeys hsamples hidle => ?_⟩
  · rw [selectUpstream_of_slot hslot]
    exact ⟨rfl, launch_settled (.refl [] s)⟩
  · rw [selectUpstream_of_events hslot hevents]
    obtain ⟨hitems, hfits, hlongest⟩ := packItems_packs (fun e : Event => e.bytes.length) payloadSpace s.host.events
    refine ⟨_, _, hitems, rfl, rfl, hfits, hlongest, launch_settled (l := [.events]) ?_⟩
    intro b hb
    cases b <;> first | rfl | exact absurd (by decide) hb
  · rw [selectUpstream_of_keys hslot hevents hkeys]
    obtain ⟨hitems, hfits, hlongest⟩ := packItems_packs (fun k : KeyReport => (keyReportBytes k).length) payloadSpace s.dock.keys
    refine ⟨_, _, hitems, rfl, rfl, hfits, hlongest, launch_settled (l := [.dockKeys]) ?_⟩
    intro b hb
    cases b <;> first | rfl | exact absurd (by decide) hb
  · rw [selectUpstream_of_samples hslot hevents hkeys hsamples]
    obtain ⟨hitems, hfits, hlongest⟩ := packItems_packs (fun r : Forwarded => (forwardedBytes r).length) payloadSpace s.host.samples
    refine ⟨_, _, hitems, rfl, rfl, hfits, hlongest, launch_settled (l := [.samples]) ?_⟩
    intro b hb
    cases b <;> first | rfl | exact absurd (by decide) hb
  · rw [selectUpstream_of_batch ⟨hslot, hevents, hkeys, hsamples⟩ (hostUp_of_awake hup) hselected]
    obtain ⟨hitems, hfits, hlongest⟩ :=
      packItems_packs (fun r : Forwarded => (forwardedBytes r).length) (payloadSpace - 2) (s.batch.bank i).records
    refine ⟨_, _, hitems, rfl, ?_, hfits, hlongest, launch_settled (writeBank_frame i _ s)⟩
    exact (writeBank_bank i i _ s).trans (if_pos rfl)
  · rw [selectUpstream_of_none ⟨hslot, hevents, hkeys, hsamples⟩ (hidle.imp_right hostUp_of_asleep)]
    exact ⟨rfl, launch_settled (.refl [] s)⟩

end Sys2Proof.Machine
end

section
/-! O49: a transaction broken off. -/

namespace Sys2Proof.Machine

set_option Elab.async false

/-! ## Content given back (R164, R167, R168) -/

/-- Events of kinds that no pending event has go back to the head. -/
theorem returnEvents_of_disjoint {content rest : List Event} (h : (eventKinds (content ++ rest)).Nodup) :
    returnEvents content rest = content ++ rest := by
  unfold eventKinds at h
  rw [List.map_append] at h
  have hdisjoint : ∀ r ∈ content, ∀ p ∈ rest, r.kind ≠ p.kind := fun r hr p hp hkind =>
    (List.nodup_append.1 h).2.2 _ (List.mem_map_of_mem hr) _ (List.mem_map_of_mem hp) hkind
  unfold returnEvents
  congr 1
  · refine List.filter_eq_self.2 fun r hr => ?_
    rw [Bool.not_eq_true', List.any_eq_false]
    exact fun p hp => by simpa using fun hkind => hdisjoint r hr p hp hkind.symm
  · refine (List.map_congr_left fun p hp => ?_).trans (List.map_id rest)
    have hnone : content.find? (fun r => r.kind = p.kind) = none :=
      List.find?_eq_none.2 fun r hr => by simpa using hdisjoint r hr p hp
    rw [hnone]
    rfl

theorem effect_rise {clocked : List Byte} {t : State} {x : Transaction} (h : t.host.transaction = some x)
    (hbroken : clocked.length < x.bytes.length ∨ downstreamDone clocked = false) :
    effect (.chipSelectRise clocked) t = giveBack x t := by
  show riseIfLow clocked t = _
  unfold riseIfLow riseSelect Transaction.done
  rw [h]
  refine if_neg fun hdone => ?_
  obtain ⟨hout, hin⟩ : x.bytes.length ≤ clocked.length ∧ downstreamDone clocked = true := by simpa using hdone
  obtain hshort | hshort := hbroken
  · exact Nat.not_le.2 hshort hout
  · rw [hshort] at hin
    cases hin

/-- From `s` to `u` nothing is lost: all is as before but for a bank that has become DRAIN with its records. -/
def Restored (s u : State) : Prop :=
  SameBut [.batch, .pulse] s u
    ∧ ∀ i, (u.batch.bank i).records = (s.batch.bank i).records ∧ (u.batch.bank i).gapBefore = (s.batch.bank i).gapBefore
        ∧ (u.batch.bank i).gapAfter = (s.batch.bank i).gapAfter
        ∧ (u.batch.bank i = s.batch.bank i ∨ (u.batch.bank i).role = .drain)

/-- With the banks as they were. -/
theorem Restored.of_frame {s u : State} (h : SameBut [.pulse] s u) : Restored s u := by
  have hbatch : u.batch = s.batch := h .batch (by decide)
  refine ⟨h.mono _ (by decide), fun i => ?_⟩
  rw [hbatch]
  exact ⟨rfl, rfl, rfl, .inl rfl⟩

/-- A piece that is the same after all. -/
theorem SameBut.mend {x : Block} {l : List Block} {s t : State} (h : SameBut (x :: l) s t) (hx : x.same s t) : SameBut l s t := by
  intro b hb
  by_cases hbx : b = x
  · rw [hbx]
    exact hx
  · exact h b fun hin => (List.mem_cons.1 hin).elim hbx hb

/-- The state of a transaction ended, before its content comes back. -/
def endedAfter (f : Upstream) (u before : State) : State := endTransaction (settleAttention before (launch f u))

/-- The state after a rise that broke off the transaction that `f` began. -/
def brokenOff (f : Upstream) (u before : State) : State := giveBack (f.transaction u) (settleAttention before (launch f u))

theorem endedAfter_frame (f : Upstream) (u before : State) : SameBut [.transaction, .pulse] u (endedAfter f u before) :=
  (launch_settled (l := []) (m := [.transaction, .pulse]) (.refl [] u)).trans ((endTransaction_frame _).mono _ (by decide))

/-- Content that went in flight and comes back. -/
theorem Restored.of_content {x : Block} {f : Upstream} {s u before : State} (back : State → State) (hnone : s.host.transaction = none)
    (hfall : SameBut [x] s u) (hback : ∀ e, SameBut [x] e (back e)) (hreturned : ∀ e, x.same u e → x.same s (back e))
    (hended : ∀ e, (back e).host.transaction = e.host.transaction) (hx : x ∉ [Block.transaction, .pulse] := by decide) :
    Restored s (back (endedAfter f u before)) := by
  have hframe := endedAfter_frame f u before
  have htransaction : (endedAfter f u before).host.transaction = none := rfl
  generalize endedAfter f u before = e at hframe htransaction ⊢
  have hall : SameBut [x, .transaction, .pulse] s (back e) :=
    ((hfall.mono _ (by simp)).trans (hframe.mono _ (by simp))).trans ((hback e).mono _ (by simp))
  exact .of_frame ((hall.mend (hreturned e (hframe x hx))).mend (((hended e).trans htransaction).trans hnone.symm))

theorem brokenOff_kept {f : Upstream} {s : State} (hf : (∃ r, f = .response r) ∨ f = .idle) (hnone : s.host.transaction = none)
    (before : State) : Restored s (brokenOff f s before) := by
  have hback : brokenOff f s before = id (endedAfter f s before) := by
    obtain ⟨r, rfl⟩ | rfl := hf <;> rfl
  rw [hback]
  exact .of_content (x := .tick) id hnone (.refl _ s) (fun e => .refl _ e) (fun _ h => h) fun _ => rfl

theorem brokenOff_events {s : State} {content rest : List Event} (hitems : content ++ rest = s.host.events)
    (hkinds : (eventKinds s.host.events).Nodup) (hnone : s.host.transaction = none) (before : State) :
    Restored s (brokenOff (.events content) { s with host := { s.host with events := rest } } before) := by
  have hreturned : returnEvents content rest = s.host.events := by
    rw [returnEvents_of_disjoint (by rw [hitems]; exact hkinds), hitems]
  refine .of_content (x := .events) (fun e => { e with host := { e.host with events := returnEvents content e.host.events } })
    hnone ?_ (fun e => ?_) (fun e he => (congrArg (returnEvents content) he).trans hreturned) fun _ => rfl
  all_goals
    intro b hb
    cases b <;> first | rfl | exact absurd (by decide) hb

theorem brokenOff_keys {s : State} {content rest : List KeyReport} (hitems : content ++ rest = s.dock.keys)
    (hnone : s.host.transaction = none) (before : State) :
    Restored s (brokenOff (.keys content) { s with dock := { s.dock with keys := rest } } before) := by
  refine .of_content (x := .dockKeys) (fun e => { e with dock := { e.dock with keys := content ++ e.dock.keys } })
    hnone ?_ (fun e => ?_) (fun e he => ?_) fun _ => rfl
  case refine_3 =>
    simp only [Block.same, Prod.mk.injEq] at he ⊢
    obtain ⟨hkeys, hpressed, hremembered⟩ := he
    exact ⟨by rw [hkeys]; exact hitems, hpressed, hremembered⟩
  all_goals
    intro b hb
    cases b <;> first | rfl | exact absurd (by decide) hb

theorem brokenOff_samples {s : State} {content rest : List Forwarded} (hitems : content ++ rest = s.host.samples)
    (hnone : s.host.transaction = none) (before : State) :
    Restored s (brokenOff (.samples content) { s with host := { s.host with samples := rest } } before) := by
  refine .of_content (x := .samples) (fun e => { e with host := { e.host with samples := content ++ e.host.samples } })
    hnone ?_ (fun e => ?_) (fun e he => (congrArg (content ++ ·) he).trans hitems) fun _ => rfl
  all_goals
    intro b hb
    cases b <;> first | rfl | exact absurd (by decide) hb

theorem brokenOff_batch {s : State} {i : BankId} {content rest : List Forwarded} (hitems : content ++ rest = (s.batch.bank i).records)
    (hnone : s.host.transaction = none) (before : State) :
    Restored s (brokenOff (.batch i (s.batch.bank i).gapBefore (s.batch.bank i).gapAfter content)
      (writeBank i { s.batch.bank i with role := .drain, records := rest } s) before) := by
  let drained : Bank := { s.batch.bank i with role := .drain, records := rest }
  have hbank : (writeBank i drained s).batch.bank i = drained := (writeBank_bank i i drained s).trans (if_pos rfl)
  have hback : brokenOff (.batch i (s.batch.bank i).gapBefore (s.batch.bank i).gapAfter content) (writeBank i drained s) before
      = (fun e => writeBank i { e.batch.bank i with records := content ++ (e.batch.bank i).records } e)
          (endedAfter (.batch i (s.batch.bank i).gapBefore (s.batch.bank i).gapAfter content) (writeBank i drained s) before) := rfl
  have hended := endedAfter_frame (.batch i (s.batch.bank i).gapBefore (s.batch.bank i).gapAfter content) (writeBank i drained s) before
  change Restored s (brokenOff _ (writeBank i drained s) before)
  rw [hback]
  have htransaction : (endedAfter (.batch i (s.batch.bank i).gapBefore (s.batch.bank i).gapAfter content) (writeBank i drained s)
    before).host.transaction = none := rfl
  generalize endedAfter (.batch i (s.batch.bank i).gapBefore (s.batch.bank i).gapAfter content) (writeBank i drained s) before = e
    at hended htransaction ⊢
  have hbatch : e.batch = (writeBank i drained s).batch := hended .batch (by decide)
  have hframe : SameBut [.batch, .pulse] s e :=
    SameBut.mend (x := .transaction) (((writeBank_frame i drained s).mono _ (by decide)).trans (hended.mono _ (by decide)))
      (htransaction.trans hnone.symm)
  dsimp only
  rw [hbatch, hbank]
  refine ⟨hframe.trans ((writeBank_frame _ _ _).mono _ (by decide)), fun j => ?_⟩
  rw [writeBank_bank]
  by_cases hj : j = i
  · rw [if_pos hj, hj]
    exact ⟨hitems, rfl, rfl, .inr rfl⟩
  · rw [if_neg hj, hbatch, writeBank_bank, if_neg hj]
    exact ⟨rfl, rfl, rfl, .inl rfl⟩

/-- What a fall took comes back with the rise, whatever the attention line did meanwhile. -/
theorem brokenOff_restores {s : State} (hkinds : (eventKinds s.host.events).Nodup) (hnone : s.host.transaction = none) (before : State) :
    Restored s (brokenOff (selectUpstream s).1 (selectUpstream s).2 before) := by
  cases hslot : s.host.slot with
  | some r =>
    rw [selectUpstream_of_slot hslot]
    exact brokenOff_kept (.inl ⟨r, rfl⟩) hnone before
  | none =>
    by_cases hevents : s.host.events = []
    rotate_left
    · rw [selectUpstream_of_events hslot hevents]
      exact brokenOff_events (packItems_append _ _ _) hkinds hnone before
    by_cases hkeys : s.dock.keys = []
    rotate_left
    · rw [selectUpstream_of_keys hslot hevents hkeys]
      exact brokenOff_keys (packItems_append _ _ _) hnone before
    by_cases hsamples : s.host.samples = []
    rotate_left
    · rw [selectUpstream_of_samples hslot hevents hkeys hsamples]
      exact brokenOff_samples (packItems_append _ _ _) hnone before
    have hbank : BankNext s := ⟨hslot, hevents, hkeys, hsamples⟩
    by_cases hidle : s.batch.selected = none ∨ s.advisor.platform.hostUp = false
    · rw [selectUpstream_of_none hbank hidle]
      exact brokenOff_kept (.inr rfl) hnone before
    · obtain ⟨hselected, hup⟩ := not_or.1 hidle
      obtain ⟨i, hi⟩ := Option.ne_none_iff_exists'.1 hselected
      rw [selectUpstream_of_batch hbank (by simpa using hup) hi]
      exact brokenOff_batch (packItems_append _ _ _) hnone before

/-- Settles O49: the rise gives back what the fall took. -/
theorem brokenTransactionsGiveBackTheirContent : Obligations.BrokenTransactionsGiveBackTheirContent := by
  intro s t x clocked hkinds hnone hfall hx hbroken
  obtain rfl : settleAttention s (launch (selectUpstream s).1 (selectUpstream s).2) = t := Host.Outcome.next.inj ((exec_fall hnone).symm.trans hfall)
  obtain rfl : (selectUpstream s).1.transaction (selectUpstream s).2 = x := Option.some.inj hx
  refine ⟨_, exec_eq _ _, ?_⟩
  rw [effect_rise hx hbroken]
  obtain ⟨hframe, hbanks⟩ := brokenOff_restores hkinds hnone s
  exact ⟨hframe.settled _, hbanks⟩

end Sys2Proof.Machine
end

section
/-! O51 and O50: the downstream frames of the host, from a command to its bytes and back. -/

namespace Sys2Proof.Machine

set_option Elab.async false

/-! ## Codes read back (section 11.1) -/

theorem TableId.ofCode_code (table : TableId) : TableId.ofCode table.code = some table := by cases table <;> rfl

theorem Copy.ofCode_code (copy : Copy) : Copy.ofCode copy.code = some copy := by cases copy <;> rfl

theorem HostState.ofCode_code (dest : HostState) : HostState.ofCode dest.code = some dest := by cases dest <;> rfl

theorem switch_code (on : Bool) : ((if on then 1 else 0 : Byte) != 0) = on := by cases on <;> rfl

/-! ## A command's frame read back (section 11.2) -/

theorem decodeTableWrite_arguments {tag first count : Byte} {table : TableId} {entries : List Byte}
    (h : entries.length = count.toNat * table.entrySize) :
    decodeTableWrite tag (table.code :: first :: count :: entries) = .ok (.tableWrite tag table first count entries) := by
  unfold decodeTableWrite
  dsimp only
  rw [TableId.ofCode_code]
  exact if_pos h

theorem decodeTableRead_arguments (tag : Byte) (table : TableId) (copy : Copy) (first count : Byte) :
    decodeTableRead tag [table.code, copy.code, first, count] = .ok (.tableRead tag table copy first count) := by
  unfold decodeTableRead
  dsimp only
  rw [TableId.ofCode_code]
  dsimp only
  rw [Copy.ofCode_code]

theorem decodeTableCommit_arguments (tag : Byte) (table : TableId) :
    decodeTableCommit tag [table.code] = .ok (.tableCommit tag table) := by
  unfold decodeTableCommit
  dsimp only
  rw [TableId.ofCode_code]
  rfl

theorem decodeSetPlatform_arguments (tag : Byte) (dest : HostState) :
    decodeSetPlatform tag [dest.code] = .ok (.setPlatformState tag dest) := by
  unfold decodeSetPlatform
  dsimp only
  rw [HostState.ofCode_code]
  rfl

theorem decodeFrame_payload (c : HostCommand) (h : c.wellFormed = true) : decodeFrame c.kind c.payload = .ok c := by
  cases c with
  | tableWrite tag table first count entries =>
    obtain ⟨hlength, -⟩ : entries.length = count.toNat * table.entrySize ∧ 4 + entries.length ≤ 256 := by
      simpa [HostCommand.wellFormed] using h
    exact decodeTableWrite_arguments hlength
  | tableRead tag table copy first count => exact decodeTableRead_arguments tag table copy first count
  | tableCommit tag table => exact decodeTableCommit_arguments tag table
  | setPlatformState tag dest => exact decodeSetPlatform_arguments tag dest
  | rotationLock tag on => exact congrArg (fun b => Except.ok (HostCommand.rotationLock tag b)) (switch_code on)
  | chargeInhibit tag on => exact congrArg (fun b => Except.ok (HostCommand.chargeInhibit tag b)) (switch_code on)
  | nop | readState | clearFault | detach | detachCancel | dockOutput | resetPart => rfl

theorem payload_length_le (c : HostCommand) (h : c.wellFormed = true) : c.payload.length ≤ 256 := by
  cases c with
  | tableWrite tag table first count entries =>
    obtain ⟨-, hfits⟩ : entries.length = count.toNat * table.entrySize ∧ 4 + entries.length ≤ 256 := by
      simpa [HostCommand.wellFormed] using h
    unfold HostCommand.payload HostCommand.arguments
    simp only [List.length_cons]
    omega
  | nop | tableRead | tableCommit | readState | rotationLock | chargeInhibit | clearFault | detach | detachCancel | dockOutput
    | setPlatformState | resetPart => simp [HostCommand.payload, HostCommand.arguments]

/-- The length byte of a payload of 1 to 256 bytes, 0 standing for 256. -/
theorem payloadLength_ofNat {n : Nat} (hpos : 1 ≤ n) (hle : n ≤ 256) : payloadLength (BitVec.ofNat 8 n) = n := by
  unfold payloadLength
  have htoNat : (BitVec.ofNat 8 n).toNat = n % 256 := BitVec.toNat_ofNat n 8
  by_cases h : n = 256
  · subst h
    rfl
  · have hne : BitVec.ofNat 8 n ≠ 0 := fun hzero => by
      have hz := congrArg BitVec.toNat hzero
      rw [htoNat] at hz
      have h0 : (0 : Byte).toNat = 0 := rfl
      omega
    rw [if_neg hne, htoNat]
    omega

/-- Settles O51: the frame of each command read back, with the length its header gives. -/
theorem hostFramesDecodeToTheirCommand : Obligations.HostFramesDecodeToTheirCommand := by
  intro c h
  refine ⟨decodeFrame_payload c h, ?_, payloadLength_ofNat (Nat.le_add_left 1 _) (payload_length_le c h)⟩
  unfold HostCommand.frameBytes
  simp only [List.length_cons]
  omega

/-! ## The checks of a frame (R170) -/

/-- What the checks of codes and length make of a frame of a known kind. -/
def Checked (decoded : Except FrameError HostCommand) (kind tag : Byte) (codes fits : Prop) : Prop :=
  (¬ codes → decoded = .error .badIndex) ∧ (codes → ¬ fits → decoded = .error .badLength)
    ∧ (codes → fits → ∃ c : HostCommand, decoded = .ok c ∧ c.kind = kind ∧ c.tag = tag)

theorem Checked.of_iff {decoded : Except FrameError HostCommand} {kind tag : Byte} {codes fits codes' fits' : Prop}
    (h : Checked decoded kind tag codes fits) (hcodes : codes' ↔ codes) (hfits : fits' ↔ fits) : Checked decoded kind tag codes' fits' := by
  rw [hcodes, hfits]
  exact h

theorem decodePlain_checked (c : HostCommand) (args : List Byte) : Checked (decodePlain c args) c.kind c.tag True (args.length = 0) :=
  ⟨fun h => absurd trivial h, fun _ h => if_neg fun hnil => h (List.length_eq_zero_iff.2 hnil),
    fun _ h => ⟨c, if_pos (List.length_eq_zero_iff.1 h), rfl, rfl⟩⟩

theorem decodeSwitch_checked {make : Bool → HostCommand} {kind tag : Byte} (hmake : ∀ on, (make on).kind = kind ∧ (make on).tag = tag)
    (args : List Byte) : Checked (decodeSwitch make args) kind tag True (args.length = 1) := by
  refine ⟨fun h => absurd trivial h, fun _ h => ?_, fun _ h => ?_⟩
  · match args with
    | [] => rfl
    | [v] => exact absurd rfl h
    | _ :: _ :: _ => rfl
  · obtain ⟨v, rfl⟩ := List.length_eq_one_iff.1 h
    exact ⟨make (v != 0), rfl, hmake _⟩

theorem TableId.ofCode_none_iff (b : Byte) : TableId.ofCode b = none ↔ 6 < b.toNat := by
  unfold TableId.ofCode
  generalize b.toNat = n
  match n with
  | 0 | 1 | 2 | 3 | 4 | 5 | 6 => simp
  | _ + 7 => simp

theorem Copy.ofCode_none_iff (b : Byte) : Copy.ofCode b = none ↔ 1 < b.toNat := by
  unfold Copy.ofCode
  generalize b.toNat = n
  match n with
  | 0 | 1 => simp
  | _ + 2 => simp

theorem HostState.ofCode_none_iff (b : Byte) : HostState.ofCode b = none ↔ 1 < b.toNat := by
  unfold HostState.ofCode
  generalize b.toNat = n
  match n with
  | 0 | 1 => simp
  | _ + 2 => simp

theorem TableId.ofCode_some {b : Byte} (h : b.toNat ≤ 6) : ∃ table, TableId.ofCode b = some table :=
  Option.ne_none_iff_exists'.1 fun hnone => Nat.not_lt.2 h ((TableId.ofCode_none_iff b).1 hnone)

theorem Copy.ofCode_some {b : Byte} (h : b.toNat ≤ 1) : ∃ copy, Copy.ofCode b = some copy :=
  Option.ne_none_iff_exists'.1 fun hnone => Nat.not_lt.2 h ((Copy.ofCode_none_iff b).1 hnone)

theorem HostState.ofCode_some {b : Byte} (h : b.toNat ≤ 1) : ∃ dest, HostState.ofCode b = some dest :=
  Option.ne_none_iff_exists'.1 fun hnone => Nat.not_lt.2 h ((HostState.ofCode_none_iff b).1 hnone)

/-- Arguments too short to hold a code fail the length check. -/
theorem Checked.of_short {decoded : Except FrameError HostCommand} {kind tag : Byte} {codes fits : Prop}
    (hcodes : codes) (h : decoded = .error .badLength) (hfits : ¬ fits) : Checked decoded kind tag codes fits :=
  ⟨fun hno => absurd hcodes hno, fun _ _ => h, fun _ hyes => absurd hyes hfits⟩

/-- A code outside its range. -/
theorem Checked.of_code {decoded : Except FrameError HostCommand} {kind tag : Byte} {codes fits : Prop}
    (hcodes : ¬ codes) (h : decoded = .error .badIndex) : Checked decoded kind tag codes fits :=
  ⟨fun _ => h, fun hyes _ => absurd hyes hcodes, fun hyes _ => absurd hyes hcodes⟩

/-- Arguments of the right codes and length. -/
theorem Checked.of_fit {decoded : Except FrameError HostCommand} {kind tag : Byte} {codes fits : Prop} (c : HostCommand)
    (hcodes : codes) (hfits : fits) (h : decoded = .ok c) (hkind : c.kind = kind) (htag : c.tag = tag) :
    Checked decoded kind tag codes fits :=
  ⟨fun hno => absurd hcodes hno, fun _ hno => absurd hfits hno, fun _ _ => ⟨c, h, hkind, htag⟩⟩

theorem decodeTableWrite_checked (tag : Byte) (args : List Byte) :
    Checked (decodeTableWrite tag args) 2 tag (∀ t, args[0]? = some t → t.toNat ≤ 6)
      (∃ table, TableId.ofCode (byteAt args 0) = some table ∧ args.length = 3 + (byteAt args 2).toNat * table.entrySize) := by
  match args with
  | [] => exact .of_short (fun t h => by cases h) rfl fun ⟨_, _, h⟩ => by simp at h; omega
  | t :: rest =>
    by_cases ht : t.toNat ≤ 6
    rotate_left
    · refine .of_code (fun h => ht (h t rfl)) ?_
      unfold decodeTableWrite
      dsimp only
      rw [(TableId.ofCode_none_iff t).2 (Nat.not_le.1 ht)]
    have hcodes : ∀ u, (t :: rest)[0]? = some u → u.toNat ≤ 6 := fun u h => Option.some.inj h ▸ ht
    obtain ⟨table, htable⟩ := TableId.ofCode_some ht
    unfold decodeTableWrite
    dsimp only
    rw [htable]
    match rest with
    | [] => exact .of_short hcodes rfl fun ⟨_, _, h⟩ => by simp at h; omega
    | [_] => exact .of_short hcodes rfl fun ⟨_, _, h⟩ => by simp at h; omega
    | first :: count :: entries =>
      have hfits : (∃ table, TableId.ofCode (byteAt (t :: first :: count :: entries) 0) = some table
          ∧ (t :: first :: count :: entries).length = 3 + (byteAt (t :: first :: count :: entries) 2).toNat * table.entrySize)
          ↔ entries.length = count.toNat * table.entrySize := by
        have hbyte : byteAt (t :: first :: count :: entries) 0 = t := rfl
        have hcount : byteAt (t :: first :: count :: entries) 2 = count := rfl
        rw [hbyte, hcount, htable]
        simp only [Option.some.injEq, exists_eq_left', List.length_cons]
        omega
      by_cases hlength : entries.length = count.toNat * table.entrySize
      · exact .of_fit _ hcodes (hfits.2 hlength) (if_pos hlength) rfl rfl
      · exact .of_short hcodes (if_neg hlength) fun h => hlength (hfits.1 h)

theorem decodeTableRead_checked (tag : Byte) (args : List Byte) :
    Checked (decodeTableRead tag args) 3 tag ((∀ t, args[0]? = some t → t.toNat ≤ 6) ∧ ∀ c, args[1]? = some c → c.toNat ≤ 1)
      (args.length = 4) := by
  match args with
  | [] => exact .of_short ⟨fun t h => (by cases h), fun c h => (by cases h)⟩ rfl (by simp)
  | t :: rest =>
    by_cases ht : t.toNat ≤ 6
    rotate_left
    · refine .of_code (fun h => ht (h.1 t rfl)) ?_
      unfold decodeTableRead
      dsimp only
      rw [(TableId.ofCode_none_iff t).2 (Nat.not_le.1 ht)]
    obtain ⟨table, htable⟩ := TableId.ofCode_some ht
    unfold decodeTableRead
    dsimp only
    rw [htable]
    match rest with
    | [] => exact .of_short ⟨fun u h => Option.some.inj h ▸ ht, fun c h => (by cases h)⟩ rfl (by simp)
    | c :: others =>
      by_cases hc : c.toNat ≤ 1
      rotate_left
      · refine .of_code (fun h => hc (h.2 c rfl)) ?_
        dsimp only
        rw [(Copy.ofCode_none_iff c).2 (Nat.not_le.1 hc)]
      have hcodes : (∀ u, (t :: c :: others)[0]? = some u → u.toNat ≤ 6) ∧ ∀ d, (t :: c :: others)[1]? = some d → d.toNat ≤ 1 :=
        ⟨fun u h => Option.some.inj h ▸ ht, fun d h => Option.some.inj h ▸ hc⟩
      obtain ⟨copy, hcopy⟩ := Copy.ofCode_some hc
      dsimp only
      rw [hcopy]
      match others with
      | [first, count] => exact .of_fit _ hcodes rfl rfl rfl rfl
      | [] => exact .of_short hcodes rfl (by simp)
      | [_] => exact .of_short hcodes rfl (by simp)
      | _ :: _ :: _ :: _ => exact .of_short hcodes rfl (by simp)

theorem decodeTableCommit_checked (tag : Byte) (args : List Byte) :
    Checked (decodeTableCommit tag args) 4 tag (∀ t, args[0]? = some t → t.toNat ≤ 6) (args.length = 1) := by
  match args with
  | [] => exact .of_short (fun t h => by cases h) rfl (by simp)
  | t :: rest =>
    by_cases ht : t.toNat ≤ 6
    rotate_left
    · refine .of_code (fun h => ht (h t rfl)) ?_
      unfold decodeTableCommit
      dsimp only
      rw [(TableId.ofCode_none_iff t).2 (Nat.not_le.1 ht)]
    have hcodes : ∀ u, (t :: rest)[0]? = some u → u.toNat ≤ 6 := fun u h => Option.some.inj h ▸ ht
    obtain ⟨table, htable⟩ := TableId.ofCode_some ht
    unfold decodeTableCommit
    dsimp only
    rw [htable]
    match rest with
    | [] => exact .of_fit _ hcodes rfl rfl rfl rfl
    | _ :: _ => exact .of_short hcodes rfl (by simp)

theorem decodeSetPlatform_checked (tag : Byte) (args : List Byte) :
    Checked (decodeSetPlatform tag args) 12 tag (∀ p, args[0]? = some p → p.toNat ≤ 1) (args.length = 1) := by
  match args with
  | [] => exact .of_short (fun t h => by cases h) rfl (by simp)
  | p :: rest =>
    by_cases hp : p.toNat ≤ 1
    rotate_left
    · refine .of_code (fun h => hp (h p rfl)) ?_
      unfold decodeSetPlatform
      dsimp only
      rw [(HostState.ofCode_none_iff p).2 (Nat.not_le.1 hp)]
    have hcodes : ∀ u, (p :: rest)[0]? = some u → u.toNat ≤ 1 := fun u h => Option.some.inj h ▸ hp
    obtain ⟨dest, hdest⟩ := HostState.ofCode_some hp
    unfold decodeSetPlatform
    dsimp only
    rw [hdest]
    match rest with
    | [] => exact .of_fit _ hcodes rfl rfl rfl rfl
    | _ :: _ => exact .of_short hcodes rfl (by simp)

/-- The arguments of DOCK_OUTPUT. -/
def decodeDockOutput (tag : Byte) : List Byte → Except FrameError HostCommand
  | [backlight, indicators] => .ok (.dockOutput tag backlight indicators)
  | _ => .error .badLength

theorem decodeDockOutput_checked (tag : Byte) (args : List Byte) : Checked (decodeDockOutput tag args) 11 tag True (args.length = 2) := by
  match args with
  | [backlight, indicators] => exact .of_fit _ trivial rfl rfl rfl rfl
  | [] => exact .of_short trivial rfl (by simp)
  | [_] => exact .of_short trivial rfl (by simp)
  | _ :: _ :: _ :: _ => exact .of_short trivial rfl (by simp)

/-- The length of a TABLE_WRITE frame, from its payload and from its arguments. -/
theorem frameLengthFits_write (tag : Byte) (args : List Byte) :
    FrameLengthFits 2 (tag :: args)
      ↔ ∃ table, TableId.ofCode (byteAt args 0) = some table ∧ args.length = 3 + (byteAt args 2).toNat * table.entrySize := by
  have hlength : ∀ n, (tag :: args).length = 4 + n ↔ args.length = 3 + n := fun n => by
    rw [List.length_cons]
    omega
  unfold FrameLengthFits
  constructor
  · rintro ⟨-, -, -, -, hwrite⟩
    obtain ⟨table, htable, hfits⟩ := hwrite rfl
    exact ⟨table, htable, (hlength _).1 hfits⟩
  · rintro ⟨table, htable, hfits⟩
    exact ⟨fun h => absurd h (by decide), fun h => absurd h (by decide), fun h => absurd h (by decide), fun h => absurd h (by decide),
      fun _ => ⟨table, htable, (hlength _).2 hfits⟩⟩

/-- The checks of a frame by its kind. -/
theorem decodeFrame_checked {kind tag : Byte} (args : List Byte) (hlow : 1 ≤ kind.toNat) (hhigh : kind.toNat ≤ 13) :
    Checked (decodeFrame kind (tag :: args)) kind tag (FrameCodesPass kind (tag :: args)) (FrameLengthFits kind (tag :: args)) := by
  obtain ⟨n, hn⟩ : ∃ n, kind.toNat = n := ⟨_, rfl⟩
  have hkind : kind = BitVec.ofNat 8 n := by rw [← hn, BitVec.ofNat_toNat, BitVec.setWidth_eq]
  rw [hn] at hlow hhigh
  subst hkind
  obtain rfl | rfl | rfl | rfl | rfl | rfl | rfl | rfl | rfl | rfl | rfl | rfl | rfl : n = 1 ∨ n = 2 ∨ n = 3 ∨ n = 4 ∨ n = 5 ∨ n = 6
      ∨ n = 7 ∨ n = 8 ∨ n = 9 ∨ n = 10 ∨ n = 11 ∨ n = 12 ∨ n = 13 := by omega
  · exact (decodePlain_checked (.nop tag) args).of_iff (by simp [FrameCodesPass]) (by simp [FrameLengthFits])
  · exact (decodeTableWrite_checked tag args).of_iff (by simp [FrameCodesPass]) (frameLengthFits_write tag args)
  · exact (decodeTableRead_checked tag args).of_iff (by simp [FrameCodesPass]) (by simp [FrameLengthFits])
  · exact (decodeTableCommit_checked tag args).of_iff (by simp [FrameCodesPass]) (by simp [FrameLengthFits])
  · exact (decodePlain_checked (.readState tag) args).of_iff (by simp [FrameCodesPass]) (by simp [FrameLengthFits])
  · exact (decodeSwitch_checked (make := .rotationLock tag) (fun _ => ⟨rfl, rfl⟩) args).of_iff (by simp [FrameCodesPass])
      (by simp [FrameLengthFits])
  · exact (decodeSwitch_checked (make := .chargeInhibit tag) (fun _ => ⟨rfl, rfl⟩) args).of_iff (by simp [FrameCodesPass])
      (by simp [FrameLengthFits])
  · exact (decodePlain_checked (.clearFault tag) args).of_iff (by simp [FrameCodesPass]) (by simp [FrameLengthFits])
  · exact (decodePlain_checked (.detach tag) args).of_iff (by simp [FrameCodesPass]) (by simp [FrameLengthFits])
  · exact (decodePlain_checked (.detachCancel tag) args).of_iff (by simp [FrameCodesPass]) (by simp [FrameLengthFits])
  · exact (decodeDockOutput_checked tag args).of_iff (by simp [FrameCodesPass]) (by simp [FrameLengthFits])
  · exact (decodeSetPlatform_checked tag args).of_iff (by simp [FrameCodesPass]) (by simp [FrameLengthFits])
  · exact (decodePlain_checked (.resetPart tag) args).of_iff (by simp [FrameCodesPass]) (by simp [FrameLengthFits])

theorem decodeFrame_unknown {kind : Byte} (payload : List Byte) (h : 13 < kind.toNat) : decodeFrame kind payload = .error .unknownKind := by
  unfold decodeFrame
  generalize kind.toNat = n at h
  obtain ⟨m, rfl⟩ : ∃ m, n = m + 14 := ⟨n - 14, by omega⟩
  rfl

/-! ## The rise of a complete transaction (R163, R164) -/

/-- A frame of a command kind is taken. -/
def takeDecoded (kind : Byte) (payload : List Byte) (s : State) : State :=
  match decodeFrame kind payload with
  | .ok c => takeCommand c s
  | .error e => respond (payload.getD 0 0) kind (.refused (frameRefusal e)) s

theorem takeFrame_of_command {kind lengthByte flags : Byte} {payload fill : List Byte} {s : State} (hkind : kind ≠ 0)
    (hlength : payloadLength lengthByte = payload.length) :
    takeFrame (kind :: lengthByte :: flags :: (payload ++ fill)) s = takeDecoded kind payload s := by
  have htaken : ((kind :: lengthByte :: flags :: (payload ++ fill)).drop 3).take
      (payloadLength (byteAt (kind :: lengthByte :: flags :: (payload ++ fill)) 1)) = payload := by
    change (payload ++ fill).take (payloadLength lengthByte) = payload
    rw [hlength, List.take_left]
  unfold takeFrame
  dsimp only
  rw [htaken]
  exact if_neg hkind

theorem effect_rise_complete {clocked : List Byte} {s : State} {x : Transaction} (h : s.host.transaction = some x)
    (hout : x.bytes.length ≤ clocked.length) (hin : downstreamDone clocked = true) :
    effect (.chipSelectRise clocked) s = takeFrame clocked (deliverAny s) := by
  have hdeliver : deliverAny s = deliver x s := by
    unfold deliverAny
    rw [h]
  show riseIfLow clocked s = _
  unfold riseIfLow riseSelect Transaction.done
  rw [h, hdeliver]
  exact if_pos (by rw [hin, decide_eq_true hout]; rfl)

/-- The rise with a whole command frame clocked in. -/
theorem effect_rise_command {kind flags : Byte} {payload fill : List Byte} {s : State} {x : Transaction}
    (h : s.host.transaction = some x) (hkind : kind ≠ 0) (hpos : 1 ≤ payload.length) (hle : payload.length ≤ 256)
    (hout : x.bytes.length ≤ 3 + payload.length + fill.length) :
    effect (.chipSelectRise (kind :: BitVec.ofNat 8 payload.length :: flags :: (payload ++ fill))) s
      = takeDecoded kind payload (deliverAny s) := by
  have hlength := payloadLength_ofNat hpos hle
  have hclocked : (kind :: BitVec.ofNat 8 payload.length :: flags :: (payload ++ fill)).length = 3 + payload.length + fill.length := by
    simp only [List.length_cons, List.length_append]
    omega
  have hin : downstreamDone (kind :: BitVec.ofNat 8 payload.length :: flags :: (payload ++ fill)) = true := by
    unfold downstreamDone
    rw [hclocked, show byteAt (kind :: BitVec.ofNat 8 payload.length :: flags :: (payload ++ fill)) 1 = BitVec.ofNat 8 payload.length
      from rfl, hlength, decide_eq_true (show 3 ≤ 3 + payload.length + fill.length by omega),
      decide_eq_true (show 3 + payload.length ≤ 3 + payload.length + fill.length by omega), Bool.or_true]
    rfl
  rw [effect_rise_complete h (by rw [hclocked]; exact hout) hin, takeFrame_of_command hkind hlength]

theorem effect_toInstr (c : HostCommand) (s : State) : effect c.toInstr s = takeCommand c (deliverAny s) := by cases c <;> rfl

theorem takeDecoded_ok {kind : Byte} {payload : List Byte} {c : HostCommand} (h : decodeFrame kind payload = .ok c) (s : State) :
    takeDecoded kind payload s = takeCommand c s := by
  unfold takeDecoded
  rw [h]

theorem takeDecoded_error {kind : Byte} {payload : List Byte} {e : FrameError} (h : decodeFrame kind payload = .error e) (s : State) :
    takeDecoded kind payload s = respond (payload.getD 0 0) kind (.refused (frameRefusal e)) s := by
  unfold takeDecoded
  rw [h]

theorem kind_ne_zero (c : HostCommand) : c.kind ≠ 0 := by cases c <;> simp [HostCommand.kind]

/-- Settles O50: the frame read back for a command's own frame, the checks of `decodeFrame` for the others. -/
theorem completeTransactionsTakeTheirCommand : Obligations.CompleteTransactionsTakeTheirCommand := by
  intro s x hx
  refine ⟨fun c fill hformed hout => ?_, fun kind flags payload fill hunknown hpos hle hout => ⟨_, exec_eq _ s, ?_⟩,
    fun kind flags payload fill hlow hhigh hpos hle hout => ⟨_, exec_eq _ s, ?_⟩, fun length flags fill hout => ⟨_, exec_eq _ s, ?_⟩⟩
  · have hframe : c.frameBytes ++ fill = c.kind :: BitVec.ofNat 8 c.payload.length :: 0 :: (c.payload ++ fill) := rfl
    rw [hframe] at hout ⊢
    rw [exec_eq, exec_eq, effect_toInstr, effect_rise_command hx (kind_ne_zero c) (Nat.le_add_left 1 _) (payload_length_le c hformed)
      (by simp only [List.length_cons, List.length_append] at hout; omega), takeDecoded_ok (decodeFrame_payload c hformed)]
  · have hkind : kind ≠ 0 := fun hzero => by
      rw [hzero] at hunknown
      exact absurd hunknown (by decide)
    rw [effect_rise_command hx hkind hpos hle hout, takeDecoded_error (decodeFrame_unknown payload hunknown)]
    exact ⟨rfl, respond_only _ _ _ s _⟩
  · have hkind : kind ≠ 0 := fun hzero => by
      rw [hzero] at hlow
      exact absurd hlow (by decide)
    rw [effect_rise_command hx hkind hpos hle hout]
    obtain ⟨tag, args, rfl⟩ : ∃ tag args, payload = tag :: args := List.exists_cons_of_length_pos hpos
    obtain ⟨hindex, hlength, hok⟩ := decodeFrame_checked (tag := tag) args hlow hhigh
    refine ⟨fun hcodes => ?_, fun hcodes hmisfit => ?_, fun hcodes hfits => ?_⟩
    · rw [takeDecoded_error (hindex hcodes)]
      exact ⟨rfl, respond_only _ _ _ s _⟩
    · rw [takeDecoded_error (hlength hcodes hmisfit)]
      exact ⟨rfl, respond_only _ _ _ s _⟩
    · obtain ⟨c, hc, hckind, hctag⟩ := hok hcodes hfits
      rw [takeDecoded_ok hc]
      exact ⟨c, hckind, hctag, by rw [exec_eq, effect_toInstr]⟩
  · have hin : downstreamDone (0 :: length :: flags :: fill) = true := by
      unfold downstreamDone
      simp [byteAt]
    have hidle : takeFrame (0 :: length :: flags :: fill) (deliverAny s) = deliverAny s := rfl
    rw [effect_rise_complete hx (by simp only [List.length_cons]; omega) hin, hidle]
    have hdeliver : deliverAny s = deliver x s := by
      unfold deliverAny
      rw [hx]
    refine ⟨?_, fun ⟨r, hr⟩ => ?_, fun i before after content hf hempty => ?_, SameBut.settled (l := []) s (.refl _ _)⟩
    · rw [hdeliver]
      exact deliver_transaction x s
    · rw [hdeliver]
      exact deliver_slot_of_response s hr
    · rw [hdeliver, deliver_of_emptied hf hempty]
      exact congrArg Bank.role ((freeBank_bank i i _).trans (if_pos rfl))

end Sys2Proof.Machine
end

section
/-! O46: SET_PLATFORM_STATE. -/

namespace Sys2Proof.Machine

set_option Elab.async false

/-! ## The hand-on to supply and gates (R120, R137) -/

/-- What the Sleep Advisor decides by: platform state, forcing, advice and its two timers. -/
def State.advice (s : State) : Platform × Bool × Option Nat × Option Timer × Option Timer :=
  (s.advisor.platform, s.advisor.forcing, s.advisor.advising, s.advisor.adviceTimer, s.advisor.idleTimer)

theorem advice_of_frame {l : List Block} {s t : State} (h : SameBut l s t) (hl : Block.advisor ∉ l) : t.advice = s.advice := by
  have hadvisor : t.advisor = s.advisor := h .advisor hl
  unfold State.advice
  rw [hadvisor]

theorem repower_advice (s : State) : (repower s).advice = s.advice := by
  unfold State.advice
  rw [repower_advisor]

theorem handPen_advice (source dest : PenState) (s : State) : (handPen source dest s).advice = s.advice := by
  have hpresent : ∀ b u, (holdPenPresent b u).advice = u.advice := fun _ _ => rfl
  have hcharging : ∀ b u, (holdPenCharging b u).advice = u.advice := fun b u => by
    unfold holdPenCharging
    rw [repower_advice]
    rfl
  have hcadences : ∀ u, (recomputeCadences u).advice = u.advice := fun u => advice_of_frame (recomputeCadences_frame u) (by decide)
  unfold handPen
  dsimp only
  split <;> split <;> simp only [hpresent, hcharging, hcadences]

theorem enterPen_advice (dest : PenState) (g : Option Gate) (why : PenReason) (s : State) : (enterPen dest g why s).advice = s.advice :=
  (advice_of_frame (raisePen_frame why _) (by decide)).trans ((handPen_advice _ _ _).trans rfl)

theorem rereadGates_advice (s : State) : (rereadGates s).advice = s.advice := by
  obtain h | ⟨dest, leading, why, h⟩ | ⟨g, h⟩ := rereadGates_cases s <;> rw [h]
  · exact enterPen_advice dest leading why s
  · rfl

theorem allocate_advice (s : State) : (allocate s).advice = s.advice := by
  have hannounced : (announceGrants s).advice = s.advice := by
    obtain h | h := announceGrants_cases s <;> rw [h] <;> rfl
  rw [advice_of_frame (allocate_after_regate s) (by decide)]
  unfold regateGrants
  split
  · exact hannounced
  · exact (rereadGates_advice _).trans hannounced

theorem renewBudget_advice (r : Shares) (s : State) : (renewBudget r s).advice = s.advice := by
  unfold renewBudget
  split
  · rfl
  · exact allocate_advice _

theorem renewBudget_budget (r : Shares) (s : State) :
    (renewBudget r s).supply.budget = s.budgetInForce ∧ (renewBudget r s).supply.requests = r := by
  unfold renewBudget
  split
  · next h => exact ⟨h.1.symm, h.2.symm⟩
  · rw [allocate_supply]
    exact ⟨rfl, rfl⟩

theorem handPlatform_does (s : State) :
    (handPlatform s).advice = s.advice ∧ (handPlatform s).supply.budget = s.budgetInForce ∧ (handPlatform s).batch = s.batch := by
  have hframe : SameBut supplyBlocks s (handPlatform s) :=
    (renewBudget_frame _ s).trans ((rereadGates_frame _).mono _ (by decide))
  refine ⟨(rereadGates_advice _).trans (renewBudget_advice _ s), ?_, hframe .batch (by decide)⟩
  unfold handPlatform
  rw [(rereadGates_grantKept _).supply]
  exact (renewBudget_budget _ s).1

/-! ## The SLEEP gate (R120) -/

/-- With a gate other than MONITOR and BUDGET closed, a CHARGING pen pauses when the gates are re-read, and a PAUSED one stays. -/
def StopsFor (s t : State) : Prop :=
  s.gateClosed .sleep = true → (s.pen.state = .charging ∨ (s.pen.state = .paused ∧ s.pen.duty = 0)) →
    t.pen.state = .paused ∧ t.pen.duty = 0

theorem leadingGate_of_closed {s : State} {g : Gate} (h : s.gateClosed g = true) : ∃ g, s.leadingGate = some g :=
  Option.ne_none_iff_exists'.1 fun hnone => List.find?_eq_none.1 hnone g (by cases g <;> decide) h

theorem rereadGates_stops (s : State) : StopsFor s (rereadGates s) := by
  intro hclosed hstate
  obtain ⟨g, hgate⟩ := leadingGate_of_closed hclosed
  obtain hcharging | ⟨hpaused, hduty⟩ := hstate
  · have hreread : rereadGates s = pausePen g s := by
      unfold rereadGates pauseLeading
      rw [hcharging, hclosed, Bool.or_true, hgate]
      rfl
    obtain ⟨hstate, -, hduty, -⟩ := pausePen_pauses g (coilGuarded_of_charging hcharging)
    rw [hreread]
    exact ⟨hstate, hduty⟩
  · rw [(rereadGates_stays_paused hpaused hgate).1]
    exact ⟨hpaused, hduty⟩

/-- A renewal of the budget leaves the pen as it is, or re-reads the gates. -/
theorem renewBudget_pen (r : Shares) (s : State) :
    (renewBudget r s).pen = s.pen
      ∨ ∃ u : State, u.pen = s.pen ∧ u.gateClosed .sleep = s.gateClosed .sleep ∧ (renewBudget r s).pen = (rereadGates u).pen := by
  unfold renewBudget
  split
  · exact .inl rfl
  · let u : State := { s with supply := { s.supply with budget := s.budgetInForce, requests := r } }
    rw [allocate_pen]
    unfold regateGrants
    split
    · exact .inl (announceGrants_pen u)
    · exact .inr ⟨announceGrants u, announceGrants_pen u, announceGrants_gateClosed (by decide), rfl⟩

theorem gateClosed_sleep_of_advice {s t : State} (h : t.advice = s.advice) (hparams : t.params = s.params) :
    t.gateClosed .sleep = s.gateClosed .sleep := by
  have hplatform : t.advisor.platform = s.advisor.platform := congrArg Prod.fst h
  unfold State.gateClosed State.param
  dsimp only
  rw [hplatform, hparams]

theorem handPlatform_stops (s : State) : StopsFor s (handPlatform s) := by
  intro hclosed hstate
  have hparams : (renewBudget s.supply.requests s).params = s.params := renewBudget_frame _ s .params (by decide)
  have hstill : (renewBudget s.supply.requests s).gateClosed .sleep = true :=
    (gateClosed_sleep_of_advice (renewBudget_advice _ s) hparams).trans hclosed
  refine rereadGates_stops _ hstill ?_
  obtain hpen | ⟨u, hpen, hgate, hreread⟩ := renewBudget_pen s.supply.requests s
  · rw [hpen]
    exact hstate
  · rw [hreread]
    exact .inr (rereadGates_stops u (hgate.trans hclosed) (by rw [hpen]; exact hstate))

/-! ## The banks (R159, R160) -/

theorem sleepBank_bank (i j : BankId) (s : State) :
    (sleepBank i s).batch.bank j
      = if j = i ∧ (s.batch.bank j).role = .drain then { s.batch.bank j with role := .ready } else s.batch.bank j := by
  unfold sleepBank
  dsimp only
  by_cases hj : j = i
  · subst hj
    split
    · next h => rw [writeBank_bank, if_pos rfl, if_pos ⟨rfl, h⟩]
    · next h => rw [if_neg fun hboth => h hboth.2]
  · refine Eq.trans ?_ (if_neg fun hboth => hj hboth.1).symm
    split
    · rw [writeBank_bank, if_neg hj]
    · rfl

theorem sleepBanks_bank (j : BankId) (s : State) :
    ((s.batch.bank j).role = .drain → (sleepBanks s).batch.bank j = { s.batch.bank j with role := .ready })
      ∧ ((s.batch.bank j).role ≠ .drain → (sleepBanks s).batch.bank j = s.batch.bank j) := by
  have hother : ∀ (i : BankId) (u : State), (u.batch.bank j).role ≠ .drain → (sleepBank i u).batch.bank j = u.batch.bank j :=
    fun i u h => (sleepBank_bank i j u).trans (if_neg fun hboth => h hboth.2)
  have hown : ∀ u : State, (u.batch.bank j).role = .drain → (sleepBank j u).batch.bank j = { u.batch.bank j with role := .ready } :=
    fun u h => (sleepBank_bank j j u).trans (if_pos ⟨rfl, h⟩)
  unfold sleepBanks
  refine ⟨fun h => ?_, fun h => ?_⟩
  · cases j with
    | a => rw [hother .b _ (by rw [hown s h]; exact (by decide : BankRole.ready ≠ .drain)), hown s h]
    | b =>
      have ha : (sleepBank .a s).batch.bank .b = s.batch.bank .b := (sleepBank_bank .a .b s).trans (if_neg fun hboth => by cases hboth.1)
      rw [hown _ (by rw [ha]; exact h), ha]
  · rw [hother .b _ (by rw [hother .a s h]; exact h), hother .a s h]

theorem sleepBanks_order (s : State) : (sleepBanks s).batch.order = s.batch.order := by
  have hone : ∀ i u, (sleepBank i u).batch.order = u.batch.order := fun i u => by
    unfold sleepBank
    dsimp only
    split
    · exact writeBank_order _ _ _
    · rfl
  exact (hone .b _).trans (hone .a s)

/-- A bank as the host's waking leaves it. -/
def Bank.woken (b : Bank) : Bank :=
  if b.role = .fill then (if b.records.isEmpty then bankFree else { b with role := .ready }) else b

theorem wakeBank_bank (i j : BankId) (s : State) :
    (wakeBank i s).batch.bank j = if j = i then (s.batch.bank j).woken else s.batch.bank j := by
  unfold wakeBank Bank.woken
  dsimp only
  by_cases hj : j = i
  · subst hj
    rw [if_pos rfl]
    split
    · split
      · rw [freeBank_bank, if_pos rfl]
      · rw [writeBank_bank, if_pos rfl]
    · rfl
  · rw [if_neg hj]
    split
    · split
      · rw [freeBank_bank, if_neg hj]
      · rw [writeBank_bank, if_neg hj]
    · rfl

theorem wakeBanks_bank (j : BankId) (s : State) : (wakeBanks s).batch.bank j = (s.batch.bank j).woken := by
  unfold wakeBanks
  rw [wakeBank_bank, wakeBank_bank]
  cases j <;> rfl

/-! ## SLEEPING and AWAKE (R146) -/

theorem goToSleep_eq (s : State) : goToSleep s = repower (platformMoved .asleep sleepBanks s) := rfl

theorem platformMoved_does (dest : Platform) {banks : State → State} (hbanks : ∀ u, SameBut [.batch] u (banks u)) (s : State) :
    (platformMoved dest banks s).advice = (movePlatform dest s).advice
      ∧ (platformMoved dest banks s).supply.budget = (movePlatform dest s).budgetInForce
      ∧ (platformMoved dest banks s).pen = (handPlatform (movePlatform dest s)).pen := by
  obtain ⟨hadvice, hbudget, -⟩ := handPlatform_does (movePlatform dest s)
  have hframe := hbanks (handPlatform (movePlatform dest s))
  have hsupply : (banks (handPlatform (movePlatform dest s))).supply = (handPlatform (movePlatform dest s)).supply :=
    hframe .supply (by decide)
  exact ⟨(advice_of_frame hframe (by decide)).trans hadvice, (congrArg SupplyBlock.budget hsupply).trans hbudget,
    hframe .pen (by decide)⟩

/-- What the way to sleep leaves. -/
structure FallsAsleep (s t : State) : Prop where
  advice : t.advice = (.asleep, s.advisor.forcing, none, none, none)
  budget : t.supply.budget = s.param .sleepBudget
  order : t.batch.order = s.batch.order
  drain : ∀ i, (s.batch.bank i).role = .drain → t.batch.bank i = { s.batch.bank i with role := .ready }
  other : ∀ i, (s.batch.bank i).role ≠ .drain → t.batch.bank i = s.batch.bank i
  power : t.advisor.power = t.choosePower
  pen : s.pen.state = .charging → s.param .chargeInSleep = 0 → t.pen.state = .paused ∧ t.pen.duty = 0

theorem goToSleep_sleeps (s : State) : FallsAsleep s (goToSleep s) := by
  rw [goToSleep_eq]
  obtain ⟨hadvice, hbudget, hpen⟩ := platformMoved_does .asleep sleepBanks_frame s
  have hbatch : (handPlatform (movePlatform .asleep s)).batch = s.batch := (handPlatform_does (movePlatform .asleep s)).2.2
  have hrepower := repower_frame (platformMoved .asleep sleepBanks s)
  have hsupply : (repower (platformMoved .asleep sleepBanks s)).supply = (platformMoved .asleep sleepBanks s).supply :=
    hrepower .supply (by decide)
  have hkeptBatch : (repower (platformMoved .asleep sleepBanks s)).batch = (sleepBanks (handPlatform (movePlatform .asleep s))).batch :=
    hrepower .batch (by decide)
  have hkeptPen : (repower (platformMoved .asleep sleepBanks s)).pen = (handPlatform (movePlatform .asleep s)).pen :=
    Eq.trans (hrepower .pen (by decide)) hpen
  have hbank := fun i => sleepBanks_bank i (handPlatform (movePlatform .asleep s))
  have horder := sleepBanks_order (handPlatform (movePlatform .asleep s))
  rw [← hkeptBatch, hbatch] at horder
  simp only [← hkeptBatch, hbatch] at hbank
  refine ⟨(repower_advice _).trans hadvice, by rw [hsupply, hbudget]; rfl, horder, fun i => (hbank i).1, fun i => (hbank i).2, ?_, ?_⟩
  · rw [repower_choosePower, repower_advisor]
  · intro hcharging hparam
    rw [hkeptPen]
    refine handPlatform_stops (movePlatform .asleep s) ((gateClosed_sleep_iff _).2 ⟨.inl rfl, hparam⟩) (.inl hcharging)

/-- What the way to AWAKE leaves. -/
structure WakesUp (s t : State) : Prop where
  platform : t.advisor.platform = .awake ∨ t.advisor.platform = .advised
  forcing : t.advisor.forcing = s.advisor.forcing
  budget : t.supply.budget = s.param .budgetTotal
  bank : ∀ i, t.batch.bank i = (s.batch.bank i).woken
  power : t.advisor.power = .run

theorem sleepEvaluate_forcing (s : State) : (sleepEvaluate s).advisor.forcing = s.advisor.forcing := by
  unfold sleepEvaluate
  dsimp only
  split
  · split <;> rfl
  · rfl

theorem comeAwake_wakes (s : State) : WakesUp s (comeAwake s) := by
  rw [comeAwake_eq]
  obtain ⟨hadvice, hbudget, -⟩ := platformMoved_does .awake wakeBanks_frame s
  have hbatch : (handPlatform (movePlatform .awake s)).batch = s.batch := (handPlatform_does (movePlatform .awake s)).2.2
  have hkept : (platformMoved .awake wakeBanks s).batch = (wakeBanks (handPlatform (movePlatform .awake s))).batch := rfl
  have hbank := fun i => wakeBanks_bank i (handPlatform (movePlatform .awake s))
  simp only [hbatch, ← hkept] at hbank
  generalize platformMoved .awake wakeBanks s = u at hadvice hbudget hbank
  have hrepower := repower_frame u
  have hevaluate := sleepEvaluate_frame (repower u)
  have hrepowered : (repower u).advice = (movePlatform .awake s).advice := (repower_advice u).trans hadvice
  have hplatform : (repower u).advisor.platform = .awake := congrArg Prod.fst hrepowered
  have hforcing : (repower u).advisor.forcing = s.advisor.forcing := congrArg (fun a => a.2.1) hrepowered
  have hawake : u.advisor.platform = .awake := congrArg Prod.fst hadvice
  have hrun : (repower u).advisor.power = .run := by
    rw [repower_advisor]
    exact if_neg fun h => absurd (hawake.symm.trans h.1) (by decide)
  have hsupply : (sleepEvaluate (repower u)).supply = u.supply := Eq.trans (hevaluate .supply (by decide)) (hrepower .supply (by decide))
  have hbanks : (sleepEvaluate (repower u)).batch = u.batch := Eq.trans (hevaluate .batch (by decide)) (hrepower .batch (by decide))
  refine ⟨(hostUp_iff _).1 ?_, (sleepEvaluate_forcing _).trans hforcing, by rw [hsupply, hbudget]; rfl, fun i => by rw [hbanks]; exact hbank i,
    (sleepEvaluate_platform _).2.trans hrun⟩
  rw [(sleepEvaluate_steady _).hostUp, hplatform]
  rfl

theorem woken_of_records {b : Bank} (hrole : b.role = .fill) (hrecords : b.records ≠ []) : b.woken = { b with role := .ready } := by
  have hsome : ¬ b.records.isEmpty = true := fun h => hrecords (List.isEmpty_iff.1 h)
  unfold Bank.woken
  rw [if_pos hrole, if_neg hsome]

theorem woken_of_empty {b : Bank} (hrole : b.role = .fill) (hrecords : b.records = []) : b.woken = bankFree := by
  unfold Bank.woken
  rw [if_pos hrole, hrecords]
  rfl

theorem woken_of_other {b : Bank} (hrole : b.role ≠ .fill) : b.woken = b := if_neg hrole

/-- The four cases of SET_PLATFORM_STATE. -/
theorem setPlatform_cases (dest : HostState) (s : State) :
    (dest = .sleeping → s.advisor.platform = .asleep → setPlatform dest s = setForcing true s)
      ∧ (dest = .awake → s.advisor.platform = .awake → setPlatform dest s = setForcing false s)
      ∧ (dest = .sleeping → s.advisor.platform ≠ .asleep → setPlatform dest s = goToSleep (setForcing true s))
      ∧ (dest = .awake → s.advisor.platform ≠ .awake → setPlatform dest s = comeAwake (setForcing false s)) := by
  refine ⟨?_, ?_, ?_, ?_⟩
  · rintro rfl h
    exact if_pos h
  · rintro rfl h
    exact if_pos h
  · rintro rfl h
    exact if_neg h
  · rintro rfl h
    exact if_neg h

/-- Settles O46: the four cases, with `goToSleep_sleeps` and `comeAwake_wakes`. -/
theorem platformStateIsHandedOn : Obligations.PlatformStateIsHandedOn := by
  intro tag dest s
  have hadvisor : (deliverAny s).advisor = s.advisor := deliverAny_advisor s
  have hpen : (deliverAny s).pen = s.pen := deliverAny_pen s
  have hparam : ∀ p, (deliverAny s).param p = s.param p := deliverAny_param s
  obtain ⟨hasleep, hawake, hsleeps, hwakes⟩ := setPlatform_cases dest (deliverAny s)
  have hframe := setPlatform_frame dest (deliverAny s)
  have heffect : effect (.setPlatformState tag dest) s = respond tag 12 .ack (setPlatform dest (deliverAny s)) := rfl
  refine ⟨_, exec_eq _ s, ?_⟩
  rw [heffect]
  generalize deliverAny s = u at hadvisor hpen hparam hasleep hawake hsleeps hwakes hframe ⊢
  rw [← hadvisor, ← hpen, ← hparam, ← hparam, ← hparam]
  refine ⟨rfl, fun hdest h => ?_, fun hdest h => ?_, fun hdest h => ?_, fun hdest h => ?_, ?_⟩
  · rw [hasleep hdest h]
    refine ⟨rfl, (((setForcing_frame true u).mono _ (by decide)).trans ((respond_frame tag 12 .ack _).mono _ (by decide))).settled
      (l := [.advisor, .slot]) (m := [.advisor, .slot, .pulse]) s⟩
  · rw [hawake hdest h]
    refine ⟨rfl, (((setForcing_frame false u).mono _ (by decide)).trans ((respond_frame tag 12 .ack _).mono _ (by decide))).settled
      (l := [.advisor, .slot]) (m := [.advisor, .slot, .pulse]) s⟩
  · rw [hsleeps hdest h]
    obtain ⟨hadvice, hbudget, horder, hdrain, hother, hpower, hpause⟩ := goToSleep_sleeps (setForcing true u)
    generalize goToSleep (setForcing true u) = v at hadvice hbudget horder hdrain hother hpower hpause ⊢
    simp only [State.advice, Prod.mk.injEq] at hadvice
    obtain ⟨hplatform, hforcing, hadvising, htimer, hidle⟩ := hadvice
    exact ⟨hplatform, hforcing, hadvising, htimer, hidle, hbudget, horder, hdrain, hother, hpower, hpause⟩
  · rw [hwakes hdest h]
    obtain ⟨hplatform, hforcing, hbudget, hbank, hpower⟩ := comeAwake_wakes (setForcing false u)
    generalize comeAwake (setForcing false u) = v at hplatform hforcing hbudget hbank hpower ⊢
    exact ⟨hplatform, hforcing, hbudget, fun i hrole hrecords => (hbank i).trans (woken_of_records hrole hrecords),
      fun i hrole hrecords => (hbank i).trans (woken_of_empty hrole hrecords),
      fun i hrole => (hbank i).trans (woken_of_other hrole), hpower⟩
  · exact ((hframe.mono _ (by decide)).trans ((respond_frame tag 12 .ack _).mono _ (by decide))).settled
      (l := [.advisor, .supply, .pen, .poll, .dockLink, .events, .slot, .batch])
      (m := [.advisor, .supply, .pen, .poll, .dockLink, .events, .slot, .batch, .pulse]) s

end Sys2Proof.Machine
end

section
/-! O54: TABLE_COMMIT, what each owner does with its staging copy. -/

namespace Sys2Proof.Machine

set_option Elab.async false

/-! ## Which entries a commit adjusts (R4, R39, R75, R133, R149, R175, R178) -/

theorem rowPostureOfCode_legal (b : Byte) : (rowPostureOfCode b).legal = decide (1 ≤ b.toNat ∧ b.toNat ≤ 6) := by
  unfold rowPostureOfCode
  split
  case h_7 h1 h2 h3 h4 h5 h6 =>
    simp only [imp_false] at h1 h2 h3 h4 h5 h6
    exact (decide_eq_false (by omega)).symm
  all_goals next h => exact (decide_eq_true (by omega)).symm

theorem rowAttitudeOfCode_legal (b : Byte) : (rowAttitudeOfCode b).legal = decide (b.toNat ≤ 3) := by
  unfold rowAttitudeOfCode
  split
  case h_5 h0 h1 h2 h3 =>
    simp only [imp_false] at h0 h1 h2 h3
    exact (decide_eq_false (by omega)).symm
  all_goals next h => exact (decide_eq_true (by omega)).symm

theorem rowHallOfCode_legal (b : Byte) : (rowHallOfCode b).legal = decide (b.toNat ≤ 3) := by
  unfold rowHallOfCode
  split
  case h_5 h0 h1 h2 h3 =>
    simp only [imp_false] at h0 h1 h2 h3
    exact (decide_eq_false (by omega)).symm
  all_goals next h => exact (decide_eq_true (by omega)).symm

theorem routeEntryClamped_eq (e : RawEntry) :
    routeEntryClamped e
      = ((byteAt e 1).toNat = 0 || (byteAt e 1).toNat > 16 || (byteAt e 2).toNat > 10 || (byteAt e 3).toNat > 3) := by
  rw [Bool.eq_iff_iff]
  simp only [routeEntryClamped, clampDecimation, Bool.or_eq_true, bne_iff_ne, decide_eq_true_eq]
  omega

theorem postureRowClamped_eq (e : RawEntry) :
    postureRowClamped e
      = ((byteAt e 1).toNat = 0 || (byteAt e 1).toNat > 6 || (byteAt e 6).toNat > 3 || (byteAt e 7).toNat > 3
          || wordAt e 2 > 4095 || wordAt e 4 > 4095 || wordAt e 8 > 16384 || wordAt e 10 > 512) := by
  rw [Bool.eq_iff_iff]
  simp only [postureRowClamped, rowCodesLegal, rowPostureOfCode_legal, rowAttitudeOfCode_legal, rowHallOfCode_legal,
    Bool.or_eq_true, Bool.not_eq_true', Bool.and_eq_false_iff, decide_eq_true_eq, decide_eq_false_iff_not]
  omega

theorem paramRanges_ordered : ∀ r ∈ paramRanges, r.1 ≤ r.2.1 := by decide

theorem paramsClamped_eq (staging : List RawEntry) :
    paramsClamped staging
      = ((paramRanges.zip staging).filter (fun p => wordAt p.2 0 < p.1.1 || p.1.2.1 < wordAt p.2 0)).length := by
  refine congrArg List.length (List.filter_congr fun p hp => ?_)
  have hordered := paramRanges_ordered p.1 (List.of_mem_zip hp).1
  rw [Bool.eq_iff_iff]
  simp only [clampParam, Bool.or_eq_true, bne_iff_ne, decide_eq_true_eq]
  omega

/-! ## The Route Table (R38 to R42) -/

theorem commitRoute_of_hold {u : State} (h : u.route.hold = true) : commitRoute u = (u, .refused .busy) := if_pos h

theorem commitRoute_of_fault {u : State} {index : Nat} {why : BadTableReason} (hhold : u.route.hold = false)
    (h : routeFault u.staging.route = some (index, why)) : commitRoute u = (u, .badTable index why) := by
  unfold commitRoute
  rw [hhold, h]
  rfl

theorem commitRoute_of_idle {u : State} (hhold : u.route.hold = false) (h : routeFault u.staging.route = none)
    (hidle : u.route.walking = none) :
    commitRoute u = (applyRoute u, .committed false (countAdjusted routeEntryClamped u.staging.route)) := by
  unfold commitRoute
  rw [hhold, h, hidle]
  rfl

theorem commitRoute_of_walking {u : State} (hhold : u.route.hold = false) (h : routeFault u.staging.route = none)
    (hwalking : u.route.walking ≠ none) :
    commitRoute u
      = ({ u with route := { u.route with hold := true } }, .committed true (countAdjusted routeEntryClamped u.staging.route)) := by
  obtain ⟨w, hw⟩ := Option.ne_none_iff_exists'.1 hwalking
  unfold commitRoute
  rw [hhold, h, hw]
  rfl

/-! ## The Posture Table (R75) -/

theorem commitPosture_of_enabled {u : State} (h : ∃ e ∈ u.staging.posture, (readPostureRow e).enabled = true) :
    commitPosture u
      = (applyPostureTable (u.staging.posture.map readPostureRow) u,
          .committed false (countAdjusted postureRowClamped u.staging.posture)) := by
  obtain ⟨e, he, henabled⟩ := h
  exact if_pos (List.any_eq_true.2 ⟨_, List.mem_map_of_mem he, henabled⟩)

theorem commitPosture_of_disabled {u : State} (h : ∀ e ∈ u.staging.posture, (readPostureRow e).enabled = false) :
    commitPosture u = (u, .badTable 0 .noRow) := by
  refine if_neg fun hany => ?_
  obtain ⟨r, hr, henabled⟩ := List.any_eq_true.1 hany
  obtain ⟨e, he, rfl⟩ := List.mem_map.1 hr
  rw [h e he] at henabled
  cases henabled

/-! ## The Charge Curve (R133) -/

/-- The voltage of a breakpoint is below that of the next. -/
def ascendsAt (curve : List RawEntry) (k : Nat) : Prop := wordAt (curve.getD k []) 0 < wordAt (curve.getD (k + 1) []) 0

theorem curveFault_of_ascending (index : Nat) (before : RawEntry) (rest : List RawEntry)
    (h : ∀ k, k + 1 < (before :: rest).length → ascendsAt (before :: rest) k) : curveFault index before rest = none := by
  induction rest generalizing index before with
  | nil => rfl
  | cons e more ih =>
    have hfirst : wordAt before 0 < wordAt e 0 := h 0 (by simp)
    unfold curveFault
    rw [if_neg (by omega)]
    exact ih _ _ fun k hk => h (k + 1) (by simpa using hk)

theorem curveFault_of_first (index : Nat) (before : RawEntry) (rest : List RawEntry) (k : Nat)
    (hk : k + 1 < (before :: rest).length) (hfails : ¬ ascendsAt (before :: rest) k) (h : ∀ j, j < k → ascendsAt (before :: rest) j) :
    curveFault index before rest = some (index + k) := by
  induction rest generalizing index before k with
  | nil => simp at hk
  | cons e more ih =>
    unfold curveFault
    cases k with
    | zero => exact if_pos (Nat.not_lt.1 hfails)
    | succ k =>
      have hfirst : wordAt before 0 < wordAt e 0 := h 0 (Nat.succ_pos k)
      rw [if_neg (by omega), ih (index + 1) e k (by simpa using hk) hfails fun j hj => h (j + 1) (by omega)]
      exact congrArg some (by omega)

theorem commitCurve_of_ascending {u : State} (h : ∀ k, k + 1 < u.staging.curve.length → ascendsAt u.staging.curve k) :
    commitCurve u
      = ({ u with pen := { u.pen with curve := u.staging.curve.map readBreakpoint } },
          .committed false (countAdjusted breakpointClamped u.staging.curve)) := by
  have hnone : curveFault 1 (u.staging.curve.headD []) (u.staging.curve.drop 1) = none := by
    generalize u.staging.curve = curve at h ⊢
    cases curve with
    | nil => rfl
    | cons before rest => exact curveFault_of_ascending 1 before rest h
  unfold commitCurve
  rw [hnone]

theorem commitCurve_of_first {u : State} {k : Nat} (hk : k + 1 < u.staging.curve.length) (hfails : ¬ ascendsAt u.staging.curve k)
    (h : ∀ j, j < k → ascendsAt u.staging.curve j) : commitCurve u = (u, .badTable (k + 1) .notAscending) := by
  have hsome : curveFault 1 (u.staging.curve.headD []) (u.staging.curve.drop 1) = some (k + 1) := by
    generalize u.staging.curve = curve at hk hfails h ⊢
    cases curve with
    | nil => simp at hk
    | cons before rest => exact (curveFault_of_first 1 before rest k hk hfails h).trans (congrArg some (Nat.add_comm 1 k))
  unfold commitCurve
  rw [hsome]

/-! ## The Poll Table (R4, R5, R6, R8) -/

/-- The period of a cadence code, for a source that is FAILED or not. -/
def periodOf (code : Nat) (failed : Bool) : Nat := if code = 0 then 0 else if failed then 1024 else cadencePeriod code

theorem period_eq (s : State) (p : Polled) : s.period p = periodOf (s.poll.schedule.get p).code (s.busFailed p) := rfl

/-- The schedule of a source after its cadence is recomputed: a changed period starts it anew, with the settle mark. -/
def State.renewedSchedule (s : State) (p : Polled) : Schedule :=
  if periodOf (s.chosenCode p) (s.busFailed p) = s.period p then { s.poll.schedule.get p with code := s.chosenCode p }
  else
    { code := s.chosenCode p, next := nextPoll (periodOf (s.chosenCode p) (s.busFailed p)) s.tick, settle := true }

theorem writeSettle_get (p q : Polled) (mark : Bool) (s : State) :
    (writeSettle p mark s).poll.schedule.get q
      = if q = p then { s.poll.schedule.get p with settle := mark } else s.poll.schedule.get q := PerPolled.get_set _ _ _ _

theorem predateMark_schedule (p : Polled) (s : State) : (predateMark p s).poll.schedule = s.poll.schedule := by cases p <;> rfl

theorem withdrawIfOff_schedule (p : Polled) (s : State) : (withdrawIfOff p s).poll.schedule = s.poll.schedule := by
  unfold withdrawIfOff
  split
  · split <;> rfl
  · rfl

theorem setSettle_get (p q : Polled) (s : State) :
    (setSettle p s).poll.schedule.get q
      = if q = p then { s.poll.schedule.get p with settle := true } else s.poll.schedule.get q := by
  unfold setSettle
  split
  · next h =>
    have hmark : (s.poll.schedule.get p).settle = true := h
    split
    · next hq => rw [hq, ← hmark]
    · rfl
  · rw [writeSettle_get, predateMark_schedule]

/-- What a recomputed cadence goes by, beside the schedules. -/
structure CadenceBase (s t : State) : Prop where
  tick : t.tick = s.tick
  table : t.poll.table = s.poll.table
  health : t.poll.health = s.poll.health
  power : t.advisor.power = s.advisor.power
  pen : t.pen.state = s.pen.state

theorem CadenceBase.refl (s : State) : CadenceBase s s := ⟨rfl, rfl, rfl, rfl, rfl⟩

theorem CadenceBase.trans {s t u : State} (h : CadenceBase s t) (k : CadenceBase t u) : CadenceBase s u :=
  ⟨k.tick.trans h.tick, k.table.trans h.table, k.health.trans h.health, k.power.trans h.power, k.pen.trans h.pen⟩

theorem CadenceBase.chosenCode {s t : State} (h : CadenceBase s t) (p : Polled) : t.chosenCode p = s.chosenCode p := by
  unfold State.chosenCode
  rw [h.table, h.power, h.pen]

theorem CadenceBase.busFailed {s t : State} (h : CadenceBase s t) (p : Polled) : t.busFailed p = s.busFailed p := by
  unfold State.busFailed
  rw [h.health]

theorem CadenceBase.renewedSchedule {s t : State} (h : CadenceBase s t) {p : Polled}
    (hsame : t.poll.schedule.get p = s.poll.schedule.get p) : t.renewedSchedule p = s.renewedSchedule p := by
  unfold State.renewedSchedule
  rw [period_eq, period_eq, h.chosenCode, h.busFailed, h.tick, hsame]

theorem withdrawIfOff_base (p : Polled) (s : State) : CadenceBase s (withdrawIfOff p s) := by
  unfold withdrawIfOff
  split
  · split <;> exact ⟨rfl, rfl, rfl, rfl, rfl⟩
  · exact .refl s

theorem setSettle_base (p : Polled) (s : State) : CadenceBase s (setSettle p s) := by
  unfold setSettle
  split
  · exact .refl s
  · cases p <;> exact ⟨rfl, rfl, rfl, rfl, rfl⟩

/-- The schedule part of a recomputed cadence, before BASA's code is handed to the dock. -/
def scheduleAnew (p : Polled) (s : State) : State :=
  let s1 := writeCode p (s.chosenCode p) s
  if s1.period p = s.period p then s1 else renewNext p (setSettle p (withdrawIfOff p s1))

theorem reschedule_eq (p : Polled) (s : State) :
    reschedule p s
      = if p = .basa ∧ s.chosenCode p ≠ (s.poll.schedule.get p).code then handCadence (s.chosenCode p) (scheduleAnew p s)
        else scheduleAnew p s := rfl

theorem writeCode_get (p q : Polled) (code : Nat) (s : State) :
    (writeCode p code s).poll.schedule.get q
      = if q = p then { s.poll.schedule.get p with code := code } else s.poll.schedule.get q := PerPolled.get_set _ _ _ _

theorem writeCode_period (p : Polled) (code : Nat) (s : State) :
    (writeCode p code s).period p = periodOf code (s.busFailed p) := by
  rw [period_eq, writeCode_get, if_pos rfl]
  rfl

theorem scheduleAnew_base (p : Polled) (s : State) : CadenceBase s (scheduleAnew p s) := by
  have hcode : CadenceBase s (writeCode p (s.chosenCode p) s) := ⟨rfl, rfl, rfl, rfl, rfl⟩
  unfold scheduleAnew
  dsimp only
  split
  · exact hcode
  · have hnext : ∀ v, CadenceBase v (renewNext p v) := fun _ => ⟨rfl, rfl, rfl, rfl, rfl⟩
    exact ((hcode.trans (withdrawIfOff_base p _)).trans (setSettle_base p _)).trans (hnext _)

theorem scheduleAnew_get (p q : Polled) (s : State) :
    (scheduleAnew p s).poll.schedule.get q = if q = p then s.renewedSchedule p else s.poll.schedule.get q := by
  unfold scheduleAnew State.renewedSchedule
  dsimp only
  rw [writeCode_period]
  split
  · exact writeCode_get _ _ _ _
  · have hsettled : (setSettle p (withdrawIfOff p (writeCode p (s.chosenCode p) s))).poll.schedule.get p
        = { code := s.chosenCode p, next := (s.poll.schedule.get p).next, settle := true } := by
      rw [setSettle_get, if_pos rfl, withdrawIfOff_schedule, writeCode_get, if_pos rfl]
    have hbase := (withdrawIfOff_base p (writeCode p (s.chosenCode p) s)).trans (setSettle_base p _)
    rw [renewNext_get]
    split
    · rw [period_eq, hsettled, hbase.busFailed, hbase.tick]
      rfl
    · next hq => rw [setSettle_get, if_neg hq, withdrawIfOff_schedule, writeCode_get, if_neg hq]

theorem handCadence_poll (c : Nat) (s : State) : (handCadence c s).poll = s.poll := handCadence_frame c s .poll (by decide)

theorem queueMessage_cadence (m : OutMessage) (s : State) : (queueMessage m s).dock.cadence = s.dock.cadence := by
  unfold queueMessage
  split <;> rfl

theorem reschedule_base (p : Polled) (s : State) : CadenceBase s (reschedule p s) := by
  have hhand : ∀ c v, CadenceBase v (handCadence c v) := fun c v =>
    ⟨handCadence_frame c v .tick (by decide), congrArg PollBlock.table (handCadence_poll c v),
      congrArg PollBlock.health (handCadence_poll c v),
      congrArg AdvisorBlock.power (handCadence_frame c v .advisor (by decide) : (handCadence c v).advisor = v.advisor),
      congrArg PenBlock.state (handCadence_frame c v .pen (by decide) : (handCadence c v).pen = v.pen)⟩
  rw [reschedule_eq]
  split
  · exact (scheduleAnew_base p s).trans (hhand _ _)
  · exact scheduleAnew_base p s

theorem reschedule_get (p q : Polled) (s : State) :
    (reschedule p s).poll.schedule.get q = if q = p then s.renewedSchedule p else s.poll.schedule.get q := by
  rw [reschedule_eq]
  split
  · rw [handCadence_poll, scheduleAnew_get]
  · exact scheduleAnew_get p q s

theorem renewedSchedule_code (s : State) (p : Polled) : (s.renewedSchedule p).code = s.chosenCode p := by
  unfold State.renewedSchedule
  split <;> rfl

/-- A changed code of BASA is handed to the dock. -/
theorem reschedule_basa_cadence {s : State} (h : s.chosenCode .basa ≠ (s.poll.schedule.get .basa).code) :
    (reschedule .basa s).dock.cadence = s.chosenCode .basa := by
  rw [reschedule_eq, if_pos ⟨rfl, h⟩]
  exact queueMessage_cadence _ _

/-- Some sources' cadences are recomputed, the others' schedules are as they were. -/
structure Recomputed (done : List Polled) (s t : State) : Prop where
  base : CadenceBase s t
  get : ∀ q, t.poll.schedule.get q = if q ∈ done then s.renewedSchedule q else s.poll.schedule.get q

theorem Recomputed.refl (s : State) : Recomputed [] s s := ⟨.refl s, fun _ => rfl⟩

theorem Recomputed.next {done : List Polled} {s t : State} (h : Recomputed done s t) {p : Polled} (hp : p ∉ done) :
    Recomputed (p :: done) s (reschedule p t) := by
  refine ⟨h.base.trans (reschedule_base p t), fun q => ?_⟩
  have hstands : t.poll.schedule.get p = s.poll.schedule.get p := (h.get p).trans (if_neg hp)
  rw [reschedule_get, h.base.renewedSchedule hstands, h.get]
  by_cases hq : q = p
  · rw [if_pos hq, if_pos (hq ▸ List.mem_cons_self ..), hq]
  · simp only [hq, List.mem_cons, false_or, if_false]

/-- All cadences recomputed: every schedule anew, and BASA's changed code with the dock. -/
theorem recomputeCadences_renews (s : State) :
    CadenceBase s (recomputeCadences s) ∧ (∀ q, (recomputeCadences s).poll.schedule.get q = s.renewedSchedule q)
      ∧ (s.chosenCode .basa ≠ (s.poll.schedule.get .basa).code → (recomputeCadences s).dock.cadence = s.chosenCode .basa) := by
  have h := (((((Recomputed.refl s).next (p := .lida) (by decide)).next (p := .lidg) (by decide)).next (p := .als) (by decide)).next
    (p := .coil) (by decide)).next (p := .pcel) (by decide) |>.next (p := .ctmp) (by decide)
  unfold recomputeCadences
  generalize reschedule .ctmp _ = before at h ⊢
  have hlast := h.next (p := .basa) (by decide)
  have hcode := reschedule_basa_cadence (s := before)
  rw [h.base.chosenCode, (h.get .basa).trans (if_neg (by decide))] at hcode
  generalize reschedule .basa before = after at hlast hcode ⊢
  exact ⟨hlast.base, fun q => (hlast.get q).trans (if_pos (by cases q <;> decide)), hcode⟩

end Sys2Proof.Machine
end

section
/-! O54, continued: the Poll, Orientation and Sleep Policy Tables and the Parameter Table, and the statement. -/

namespace Sys2Proof.Machine

set_option Elab.async false

/-! ## The Poll Table's commit -/

theorem readPollTable_get (staging : List RawEntry) {k : Nat} {p : Polled} (h : allPolled[k]? = some p) :
    (readPollTable staging).get p
      = { run := min 8 (byteAt (staging.getD k []) 0).toNat, doze := min 8 (byteAt (staging.getD k []) 1).toNat } := by
  have hk : k < 7 := (List.getElem?_eq_some_iff.1 h).1
  obtain rfl | rfl | rfl | rfl | rfl | rfl | rfl : k = 0 ∨ k = 1 ∨ k = 2 ∨ k = 3 ∨ k = 4 ∨ k = 5 ∨ k = 6 := by omega
  all_goals
    cases h
    rfl

/-- A source whose period stays keeps its due tick and mark, any other starts anew. -/
theorem renewed_schedule {v t : State} {p : Polled} (hbase : CadenceBase v t)
    (hget : t.poll.schedule.get p = v.renewedSchedule p) :
    (t.period p = v.period p →
        (t.poll.schedule.get p).next = (v.poll.schedule.get p).next ∧ t.settleMark p = v.settleMark p)
      ∧ (t.period p ≠ v.period p →
          (t.poll.schedule.get p).next = nextPoll (t.period p) v.tick ∧ t.settleMark p = true) := by
  have hperiod : t.period p = periodOf (v.chosenCode p) (v.busFailed p) := by
    rw [period_eq, hget, renewedSchedule_code, hbase.busFailed]
  unfold State.settleMark
  rw [hget, hperiod]
  unfold State.renewedSchedule
  refine ⟨fun h => ?_, fun h => ?_⟩
  · rw [if_pos h]
    exact ⟨rfl, rfl⟩
  · rw [if_neg h]
    exact ⟨rfl, rfl⟩

theorem chosenCode_eq (s : State) (p : Polled) :
    s.chosenCode p
      = if s.advisor.power = .run ∨ (s.pen.state = .charging ∧ (p = .coil ∨ p = .pcel ∨ p = .ctmp))
        then (s.poll.table.get p).run else (s.poll.table.get p).doze := by
  have hruns : (s.advisor.power = .run || (s.pen.state = .charging && (p = .coil || p = .pcel || p = .ctmp))) = true
      ↔ s.advisor.power = .run ∨ (s.pen.state = .charging ∧ (p = .coil ∨ p = .pcel ∨ p = .ctmp)) := by
    simp only [Bool.or_eq_true, Bool.and_eq_true, decide_eq_true_eq, or_assoc]
  unfold State.chosenCode
  dsimp only
  rw [ite_congr (propext hruns) (fun _ => rfl) fun _ => rfl]

/-! ## The Orientation Table's commit (R83, R84, R85) -/

theorem applyOrientTable_of_allowed {table : PerPosture AllowedSet} {u : State}
    (h : table.get u.orient.posture = 0 ∨ inSet (table.get u.orient.posture) u.orient.current = true) :
    applyOrientTable table u = clearRotation { u with orient := { u.orient with table := table } } := by
  refine if_neg ?_
  rw [mustForce_iff]
  exact Classical.not_not.2 h

theorem applyOrientTable_of_disallowed {table : PerPosture AllowedSet} {u : State} (hset : table.get u.orient.posture ≠ 0)
    (hout : inSet (table.get u.orient.posture) u.orient.current = false) :
    ∃ v : State, v.orient = { u.orient with table := table, candidate := none, dwell := none } ∧ v.tick = u.tick
      ∧ NearestAllowed (table.get u.orient.posture) u.orient.heldO v.forcedTarget
      ∧ applyOrientTable table u = reportRotation (changeOrientation v.forcedTarget .forced v) := by
  let v : State := clearRotation { u with orient := { u.orient with table := table } }
  have hmust : v.mustForce = true := (mustForce_iff v).2 fun h => h.elim hset fun hin => by
    have : inSet (table.get u.orient.posture) u.orient.current = true := hin
    rw [hout] at this
    cases this
  exact ⟨v, rfl, rfl, forcedTarget_nearest (s := v) hset, if_pos hmust⟩

theorem forceOrientation_does (k : Orientation) (v : State) :
    (reportRotation (changeOrientation k .forced v)).orient = { v.orient with current := k, candidate := none, dwell := none }
      ∧ .orientation k v.orient.locked .forced ∈ (reportRotation (changeOrientation k .forced v)).host.events
      ∧ (reportRotation (changeOrientation k .forced v)).advisor.lastActivity = v.tick :=
  ⟨reportRotation_orient _, advisorTakes_kept false true none _ _ (mem_addEvent_self _ _ (by simp [Event.kind])) (by simp [Event.kind]),
    advisorTakes_lastActivity false none _⟩

theorem applyOrientTable_orient (table : PerPosture AllowedSet) (u : State) :
    (applyOrientTable table u).orient.table = table ∧ (applyOrientTable table u).orient.candidate = none
      ∧ (applyOrientTable table u).orient.dwell = none := by
  by_cases h : table.get u.orient.posture = 0 ∨ inSet (table.get u.orient.posture) u.orient.current = true
  · rw [applyOrientTable_of_allowed h]
    exact ⟨rfl, rfl, rfl⟩
  · obtain ⟨hset, hout⟩ := not_or.1 h
    obtain ⟨v, horient, -, -, happly⟩ := applyOrientTable_of_disallowed hset (Bool.eq_false_iff.2 hout)
    rw [happly, (forceOrientation_does _ v).1, horient]
    exact ⟨rfl, rfl, rfl⟩

/-! ## The Sleep Policy Table's commit (R149, R150, R152) -/

/-- Advice goes by the Advisor's state and the tick. -/
theorem ready_congr {s t : State} (hadvisor : t.advisor = s.advisor) (htick : t.tick = s.tick) (n : Nat) : t.Ready n ↔ s.Ready n := by
  unfold State.Ready State.policyRow State.policyHolds State.armedAt
  rw [hadvisor, htick]

theorem policyHolds_congr {s t : State} (hadvisor : t.advisor = s.advisor) (n : Nat) :
    t.policyHolds (t.policyRow n) = s.policyHolds (s.policyRow n) := by
  unfold State.policyRow State.policyHolds
  rw [hadvisor]

theorem sleepEvaluate_table (s : State) : (sleepEvaluate s).advisor.table = s.advisor.table := by
  unfold sleepEvaluate
  split
  · dsimp only
    split <;> rfl
  · rfl

theorem retestAdvice_table (s : State) : (retestAdvice s).advisor.table = s.advisor.table := by
  unfold retestAdvice
  split
  · rfl
  · split
    · rfl
    · exact sleepEvaluate_table _

/-- The rows under a new table: every one armed but the advising one. -/
def rowsArmed (table : List PolicyRow) (s : State) : State := armRows { s with advisor := { s.advisor with table := table } }

theorem applyPolicy_eq (table : List PolicyRow) (s : State) :
    applyPolicy table s
      = match s.advisor.platform with
        | .awake => sleepEvaluate (rowsArmed table s)
        | .advised => retestAdvice (rowsArmed table s)
        | .asleep | .waking => rowsArmed table s := rfl

theorem applyPolicy_of_awake {table : List PolicyRow} {s : State} (h : s.advisor.platform = .awake) :
    applyPolicy table s = sleepEvaluate (rowsArmed table s) := by
  rw [applyPolicy_eq, h]

theorem applyPolicy_of_advised {table : List PolicyRow} {s : State} (h : s.advisor.platform = .advised) :
    applyPolicy table s = retestAdvice (rowsArmed table s) := by
  rw [applyPolicy_eq, h]

theorem applyPolicy_of_down {table : List PolicyRow} {s : State} (h : ¬ (s.advisor.platform = .awake ∨ s.advisor.platform = .advised)) :
    applyPolicy table s = rowsArmed table s := by
  rw [applyPolicy_eq]
  split
  · next hawake => exact absurd (.inl hawake) h
  · next hadvised => exact absurd (.inr hadvised) h
  all_goals rfl

theorem applyPolicy_table (table : List PolicyRow) (s : State) : (applyPolicy table s).advisor.table = table := by
  by_cases hawake : s.advisor.platform = .awake
  · rw [applyPolicy_of_awake hawake]
    exact sleepEvaluate_table _
  · by_cases hadvised : s.advisor.platform = .advised
    · rw [applyPolicy_of_advised hadvised]
      exact retestAdvice_table _
    · rw [applyPolicy_of_down (not_or.2 ⟨hawake, hadvised⟩)]
      rfl

theorem rowsArmed_armedAt {table : List PolicyRow} {s : State} {m : Nat} (hm : m ∈ rowNumbers8) :
    (rowsArmed table s).armedAt m = decide (s.advisor.advising ≠ some m) := by
  obtain rfl | rfl | rfl | rfl | rfl | rfl | rfl | rfl := rowNumbers8_cases hm <;> rfl

/-- An advising row whose conditions fail is withdrawn, and with no other row ready the platform stays AWAKE. -/
theorem retestAdvice_withdraws {table : List PolicyRow} {s : State} {n : Nat} (hadvising : s.advisor.advising = some n)
    (hfails : (rowsArmed table s).policyHolds ((rowsArmed table s).policyRow n) = false)
    (hnone : ∀ m, ¬ (rowsArmed table s).Ready m) :
    (retestAdvice (rowsArmed table s)).advisor.platform = .awake ∧ (retestAdvice (rowsArmed table s)).advisor.advising = none
      ∧ (retestAdvice (rowsArmed table s)).host.events = addEvent s.host.events (.sleepAdvice .withdrawn n) := by
  let w : State := setArmed n true (raise (.sleepAdvice .withdrawn n) (rowsArmed table s))
  let v : State := { w with advisor := { w.advisor with platform := .awake, advising := none, adviceTimer := none } }
  have hretest : retestAdvice (rowsArmed table s) = sleepEvaluate v := by
    unfold retestAdvice
    rw [show (rowsArmed table s).advisor.advising = some n from hadvising]
    dsimp only
    rw [if_neg (by rw [hfails]; decide)]
    rfl
  have hidle : ∀ m, ¬ v.Ready m := fun m hready => by
    obtain ⟨hm, hwakes, hholds, -, hmet⟩ := hready
    have hheld : (rowsArmed table s).policyHolds ((rowsArmed table s).policyRow m) = true := hholds
    refine hnone m ⟨hm, hwakes, hheld, ?_, hmet⟩
    rw [rowsArmed_armedAt hm, hadvising]
    refine decide_eq_true fun heq => ?_
    rw [← Option.some.inj heq, hfails] at hheld
    cases hheld
  rw [hretest, sleepEvaluate_of_idle (s := v) rfl hidle]
  exact ⟨rfl, rfl, rfl⟩

theorem retestAdvice_stands {s : State} {n : Nat} (hadvising : s.advisor.advising = some n)
    (hholds : s.policyHolds (s.policyRow n) = true) : retestAdvice s = s := by
  unfold retestAdvice
  rw [hadvising]
  exact if_pos hholds

/-! ## The Parameter Table's commit (R134, R137, R138, R175) -/

/-- The re-read of a CHARGING pen with the SLEEP gate closed. -/
theorem rereadGates_pauses {s : State} (hcharging : s.pen.state = .charging) (hclosed : s.gateClosed .sleep = true) :
    ∃ g, s.leadingGate = some g ∧ s.PausesAt g (rereadGates s) := by
  obtain ⟨g, hgate⟩ := leadingGate_of_closed hclosed
  have hreread : rereadGates s = pausePen g s := by
    unfold rereadGates pauseLeading
    rw [hcharging, hclosed, Bool.or_true, hgate]
    rfl
  rw [hreread]
  exact ⟨g, hgate, pausePen_pauses g (coilGuarded_of_charging hcharging)⟩

/-- The re-read of a PAUSED pen with the leading gate already told. -/
theorem rereadGates_of_led {s : State} {g : Gate} (hpaused : s.pen.state = .paused) (hgate : s.leadingGate = some g)
    (hled : s.pen.leading = some g) : rereadGates s = s := by
  unfold rereadGates
  rw [hpaused, hgate]
  exact if_pos hled

/-- A PAUSED pen as a re-read leaves it: resumed, or waiting for the gate that leads. -/
def Rereads (s t : State) : Prop :=
  (t.leadingGate = none → t.pen.state = .charging ∧ .pen .charging .resumed s.pen.faults ∈ t.host.events)
    ∧ ∀ g, t.leadingGate = some g → t.pen.state = .paused ∧ t.pen.leading = some g

theorem rereadGates_rereads {s : State} (hpaused : s.pen.state = .paused) : Rereads s (rereadGates s) := by
  unfold Rereads
  rw [rereadGates_leadingGate]
  refine ⟨fun hopen => ?_, fun g hgate => ?_⟩
  · rw [rereadGates_resumes hpaused hopen, enterPen_pen]
    exact ⟨rfl, enterPen_raises _ _ _ s⟩
  · rw [(rereadGates_stays_paused hpaused hgate).1]
    exact ⟨hpaused, rfl⟩

/-- A renewal of the budget leaves a CHARGING pen as it is, or pauses it, with the SLEEP gate closed. -/
theorem renewBudget_charging (r : Shares) {s : State} (hcharging : s.pen.state = .charging) (hclosed : s.gateClosed .sleep = true) :
    (renewBudget r s).pen = s.pen ∨ ∃ g, (renewBudget r s).leadingGate = some g ∧ s.PausesAt g (renewBudget r s) := by
  unfold renewBudget
  split
  · exact .inl rfl
  · let u : State := { s with supply := { s.supply with budget := s.budgetInForce, requests := r } }
    by_cases hgrant : u.newGrants.pen = u.supply.grants.pen
    · exact .inl (allocate_pen_of_same hgrant)
    · obtain ⟨hpen, hevents, hleading⟩ := allocate_rereads hgrant
      have hannounced : (announceGrants u).pen = s.pen := announceGrants_pen u
      obtain ⟨g, hgate, hpauses⟩ := rereadGates_pauses (s := announceGrants u) (by rw [hannounced]; exact hcharging)
        ((announceGrants_gateClosed (by decide)).trans hclosed)
      refine .inr ⟨g, hleading.trans hgate, ?_⟩
      unfold State.PausesAt at hpauses ⊢
      rw [hannounced] at hpauses
      rw [hpen, hevents]
      exact hpauses

/-- A renewal of the budget leaves a PAUSED pen as it is, or re-reads its gates. -/
theorem renewBudget_paused (r : Shares) {s : State} (hpaused : s.pen.state = .paused) :
    (renewBudget r s).pen = s.pen ∨ Rereads s (renewBudget r s) := by
  unfold renewBudget
  split
  · exact .inl rfl
  · let u : State := { s with supply := { s.supply with budget := s.budgetInForce, requests := r } }
    by_cases hgrant : u.newGrants.pen = u.supply.grants.pen
    · exact .inl (allocate_pen_of_same hgrant)
    · obtain ⟨hopen, hleads, -⟩ := allocate_gates hgrant
      refine .inr ⟨fun hnone => ?_, fun g hgate => ?_⟩
      · obtain ⟨hstate, -, hevent⟩ := hopen hpaused hnone
        exact ⟨hstate, hevent⟩
      · rw [(hleads g hpaused hgate).1]
        exact ⟨hpaused, rfl⟩

/-- After a renewal the SLEEP gate, once closed, holds a CHARGING pen. -/
theorem renewed_pauses (r : Shares) {s : State} (hcharging : s.pen.state = .charging) (hclosed : s.gateClosed .sleep = true) :
    ∃ g, (rereadGates (renewBudget r s)).leadingGate = some g ∧ s.PausesAt g (rereadGates (renewBudget r s)) := by
  have hstill : (renewBudget r s).gateClosed .sleep = true :=
    (gateClosed_sleep_of_advice (renewBudget_advice r s) (renewBudget_frame r s .params (by decide))).trans hclosed
  obtain hpen | ⟨g, hgate, hpauses⟩ := renewBudget_charging r hcharging hclosed
  · obtain ⟨g, hgate, hpauses⟩ := rereadGates_pauses (by rw [hpen]; exact hcharging) hstill
    exact ⟨g, (rereadGates_leadingGate _).trans hgate, hpauses.of_same (congrArg PenBlock.faults hpen)⟩
  · have hled := rereadGates_of_led hpauses.1 hgate hpauses.2.1
    rw [hled]
    exact ⟨g, hgate, hpauses⟩

/-- After a renewal the gates, read again, leave a PAUSED pen as a re-read does. -/
theorem renewed_rereads (r : Shares) {s : State} (hpaused : s.pen.state = .paused) :
    Rereads s (rereadGates (renewBudget r s)) := by
  obtain hpen | hrereads := renewBudget_paused r hpaused
  · have h := rereadGates_rereads (s := renewBudget r s) (by rw [hpen]; exact hpaused)
    unfold Rereads at h ⊢
    rw [hpen] at h
    exact h
  · have hsame : rereadGates (renewBudget r s) = renewBudget r s := by
      cases hleads : (renewBudget r s).leadingGate with
      | none =>
        have hopen := List.find?_eq_none.1 hleads
        exact rereadGates_of_charging (hrereads.1 hleads).1 (Bool.eq_false_iff.2 (hopen .inhibit (by decide)))
          (Bool.eq_false_iff.2 (hopen .sleep (by decide)))
      | some g => exact rereadGates_of_led (hrereads.2 g hleads).1 hleads (hrereads.2 g hleads).2
    rw [hsame]
    exact hrereads

theorem paramRanges_index (p : Param) : p.index < paramRanges.length := by cases p <;> decide

theorem readParams_getD {staging : List RawEntry} (hlength : staging.length = 41) (p : Param) :
    ∃ low high default, paramRanges[p.index]? = some (low, high, default)
      ∧ (readParams staging).getD p.index 0 = max low (min high (wordAt (staging.getD p.index []) 0)) := by
  have hrange := paramRanges_index p
  have hindex : p.index < staging.length := by rw [hlength]; exact hrange
  obtain ⟨low, high, default, hr⟩ : ∃ low high default, paramRanges[p.index] = (low, high, default) := ⟨_, _, _, rfl⟩
  refine ⟨low, high, default, by rw [List.getElem?_eq_getElem hrange, hr], ?_⟩
  unfold readParams
  rw [List.getD_eq_getElem?_getD, List.getElem?_zipWith, List.getElem?_eq_getElem hrange, List.getElem?_eq_getElem hindex, hr,
    List.getD_eq_getElem?_getD, List.getElem?_eq_getElem hindex]
  rfl

/-- The state with new parameters, before their owners are told. -/
def withParams (params : List Nat) (s : State) : State := { s with params := params }

/-- The budget renewed under new parameters. -/
def rebudgeted (params : List Nat) (s : State) : State :=
  renewBudget { s.supply.requests with latch := (withParams params s).latchRequest } (withParams params s)

theorem applyParams_of_same {params : List Nat} {s : State} (h : (withParams params s).param .chargeInSleep = s.param .chargeInSleep) :
    applyParams params s = rebudgeted params s := by
  have hparams : (rebudgeted params s).params = params := renewBudget_frame _ (withParams params s) .params (by decide)
  refine if_pos ?_
  show (rebudgeted params s).param .chargeInSleep = _
  rw [← h]
  unfold State.param
  rw [hparams]
  rfl

theorem applyParams_of_changed {params : List Nat} {s : State} (h : (withParams params s).param .chargeInSleep ≠ s.param .chargeInSleep) :
    applyParams params s = rereadGates (rebudgeted params s) := by
  have hparams : (rebudgeted params s).params = params := renewBudget_frame _ (withParams params s) .params (by decide)
  refine if_neg ?_
  show (rebudgeted params s).param .chargeInSleep ≠ _
  unfold State.param at h ⊢
  rw [hparams]
  exact h

theorem applyParams_supply (params : List Nat) (s : State) :
    (applyParams params s).params = params ∧ (applyParams params s).supply = (rebudgeted params s).supply := by
  have hparams : (rebudgeted params s).params = params := renewBudget_frame _ (withParams params s) .params (by decide)
  by_cases h : (withParams params s).param .chargeInSleep = s.param .chargeInSleep
  · rw [applyParams_of_same h]
    exact ⟨hparams, rfl⟩
  · rw [applyParams_of_changed h]
    exact ⟨(rereadGates_frame _ .params (by decide)).trans hparams, (rereadGates_grantKept _).supply⟩

theorem applyParams_param (params : List Nat) (s : State) (p : Param) :
    (applyParams params s).param p = (withParams params s).param p := by
  unfold State.param
  rw [(applyParams_supply params s).1]
  rfl

theorem applyParams_budget (params : List Nat) (s : State) :
    (applyParams params s).supply.budget
      = if s.advisor.platform.hostUp then (applyParams params s).param .budgetTotal else (applyParams params s).param .sleepBudget := by
  rw [(applyParams_supply params s).2, applyParams_param, applyParams_param]
  exact (renewBudget_budget _ (withParams params s)).1

theorem applyParams_requests (params : List Nat) (s : State) :
    (s.latch.state = .locked → (applyParams params s).supply.requests = s.supply.requests)
      ∧ (s.latch.state ≠ .locked →
          (applyParams params s).supply.requests = { s.supply.requests with latch := (applyParams params s).param .latchDraw }) := by
  have hrequests : (rebudgeted params s).supply.requests
      = { s.supply.requests with latch := (withParams params s).latchRequest } := (renewBudget_budget _ (withParams params s)).2
  rw [(applyParams_supply params s).2, applyParams_param, hrequests]
  refine ⟨fun h => ?_, fun h => ?_⟩
  · rw [show (withParams params s).latchRequest = s.supply.requests.latch from if_pos h]
  · rw [show (withParams params s).latchRequest = (withParams params s).param .latchDraw from if_neg h]

theorem applyParams_grants {params : List Nat} {s : State} (h : s.supply.grants = divideBudget s.supply.budget s.supply.requests) :
    (applyParams params s).supply.grants
      = divideBudget (applyParams params s).supply.budget (applyParams params s).supply.requests := by
  rw [(applyParams_supply params s).2]
  exact (renewBudget_allocated _ (s := withParams params s) h).2

/-- Charge In Sleep turned off pauses a pen CHARGING while the host is down. -/
theorem applyParams_pauses {params : List Nat} {s : State} (hcharging : s.pen.state = .charging) (hdown : s.advisor.platform.hostUp = false)
    (hwas : s.param .chargeInSleep ≠ 0) (hnow : (applyParams params s).param .chargeInSleep = 0) :
    ∃ g, (applyParams params s).leadingGate = some g ∧ s.PausesAt g (applyParams params s) := by
  rw [applyParams_param] at hnow
  rw [applyParams_of_changed fun h => hwas (h.symm.trans hnow)]
  have hclosed : (withParams params s).gateClosed .sleep = true := by
    show (!s.advisor.platform.hostUp && decide ((withParams params s).param .chargeInSleep = 0)) = true
    rw [hdown, hnow]
    rfl
  exact renewed_pauses _ (s := withParams params s) hcharging hclosed

/-- Charge In Sleep turned on has a PAUSED pen's gates read again. -/
theorem applyParams_rereads {params : List Nat} {s : State} (hpaused : s.pen.state = .paused)
    (hwas : s.param .chargeInSleep = 0) (hnow : (applyParams params s).param .chargeInSleep ≠ 0) :
    Rereads s (applyParams params s) := by
  rw [applyParams_param] at hnow
  rw [applyParams_of_changed fun h => hnow (h.trans hwas)]
  exact renewed_rereads _ (s := withParams params s) hpaused

end Sys2Proof.Machine
end

section
/-! O54, the statement: each table's commit as the host sees it. -/

namespace Sys2Proof.Machine

set_option Elab.async false

theorem deliverAny_route (s : State) : (deliverAny s).route = s.route := by
  have htable : (deliverAny s).route.table = s.route.table := deliverAny_frame s .routeTable (by decide)
  have hruntime : (deliverAny s).route.runtime = s.route.runtime := deliverAny_frame s .routeRuntime (by decide)
  have hhold : (deliverAny s).route.hold = s.route.hold := deliverAny_frame s .routeHold (by decide)
  have hwalking : (deliverAny s).route.walking = s.route.walking := deliverAny_frame s .routeWalking (by decide)
  generalize (deliverAny s).route = r at htable hruntime hhold hwalking ⊢
  cases r
  subst htable hruntime hhold hwalking
  rfl

/-- What a commit of any table may write. -/
def commitBlocks : List Block :=
  [.routeTable, .routeRuntime, .routeHold, .poll, .posture, .orient, .params, .supply, .pen, .dockLink, .advisor, .events]

theorem commitTable_frame (table : TableId) (s : State) : SameBut commitBlocks s (commitTable table s).1 := by
  cases table with
  | route => exact (commitRoute_frame s).mono _ (by decide)
  | poll => exact (commitPoll_frame s).mono _ (by decide)
  | posture => exact (commitPosture_frame s).mono _ (by decide)
  | orient => exact (commitOrient_frame s).mono _ (by decide)
  | curve => exact (commitCurve_frame s).mono _ (by decide)
  | policy => exact (commitPolicy_frame s).mono _ (by decide)
  | param => exact (commitParams_frame s).mono _ (by decide)

/-- The state that TABLE_COMMIT leaves. -/
def committed (tag : Byte) (table : TableId) (s : State) : State :=
  settleAttention s (respond tag 4 (commitTable table (deliverAny s)).2 (commitTable table (deliverAny s)).1)

theorem exec_tableCommit (tag : Byte) (table : TableId) (s : State) :
    exec (.tableCommit tag table) s = .next (committed tag table s) := exec_eq _ s

/-- A commit is the answered outcome of its table, with the attention line settled. -/
theorem committed_of {table : TableId} {s v : State} {body : ResponseBody} (h : commitTable table (deliverAny s) = (v, body))
    (tag : Byte) : committed tag table s = settleAttention s (respond tag 4 body v) := by
  unfold committed
  rw [h]

theorem committed_frame (tag : Byte) (table : TableId) (s : State) :
    SameBut (.slot :: .pulse :: commitBlocks) (deliverAny s) (committed tag table s) :=
  ((commitTable_frame table (deliverAny s)).seq (respond_frame tag 4 _ _) (m := .slot :: commitBlocks) (by decide)
    (by decide)).settled s

theorem committed_staging (tag : Byte) (table : TableId) (s : State) : (committed tag table s).staging = s.staging :=
  (committed_frame tag table s .staging (by decide)).trans (deliverAny_staging s)

/-- A refused commit only answers. -/
theorem committed_of_refused {table : TableId} {s : State} {body : ResponseBody}
    (h : commitTable table (deliverAny s) = (deliverAny s, body)) (tag : Byte) :
    (committed tag table s).host.slot = some { tag := tag, kind := 4, body := body }
      ∧ SameBut [.slot, .pulse] (deliverAny s) (committed tag table s) := by
  rw [committed_of h]
  exact ⟨rfl, respond_only tag 4 body s _⟩

/-! ## Each table -/

section
variable (tag : Byte) (s : State)

theorem committed_route_applied (hhold : s.route.hold = false) (hfault : routeFault s.staging.route = none)
    (hidle : s.route.walking = none) :
    (committed tag .route s).route.table = s.staging.route.map readRouteEntry
      ∧ (committed tag .route s).route.runtime = List.replicate 48 { counter := 0, test := .unknown }
      ∧ (committed tag .route s).route.hold = false
      ∧ (committed tag .route s).host.slot
          = some { tag := tag, kind := 4, body := .committed false (countAdjusted routeEntryClamped s.staging.route) } := by
  rw [committed_of (table := .route) (commitRoute_of_idle (by rw [deliverAny_route]; exact hhold) (by rw [deliverAny_staging]; exact hfault)
    (by rw [deliverAny_route]; exact hidle)), deliverAny_staging]
  refine ⟨?_, rfl, ?_, rfl⟩
  · show (deliverAny s).staging.route.map readRouteEntry = _
    rw [deliverAny_staging]
  · show (deliverAny s).route.hold = false
    rw [deliverAny_route]
    exact hhold

theorem committed_route_held (hhold : s.route.hold = false) (hfault : routeFault s.staging.route = none)
    (hwalking : s.route.walking ≠ none) :
    (committed tag .route s).route = { s.route with hold := true }
      ∧ (committed tag .route s).host.slot
          = some { tag := tag, kind := 4, body := .committed true (countAdjusted routeEntryClamped s.staging.route) } := by
  rw [committed_of (table := .route) (commitRoute_of_walking (by rw [deliverAny_route]; exact hhold) (by rw [deliverAny_staging]; exact hfault)
    (by rw [deliverAny_route]; exact hwalking)), deliverAny_staging, deliverAny_route]
  exact ⟨rfl, rfl⟩

theorem committed_poll :
    (committed tag .poll s).host.slot
        = some { tag := tag, kind := 4, body := .committed false (countAdjusted cadenceClamped s.staging.poll) }
      ∧ (committed tag .poll s).poll.table = readPollTable s.staging.poll
      ∧ (∀ p, ((committed tag .poll s).poll.schedule.get p).code
          = if s.advisor.power = .run ∨ (s.pen.state = .charging ∧ (p = .coil ∨ p = .pcel ∨ p = .ctmp))
            then ((committed tag .poll s).poll.table.get p).run else ((committed tag .poll s).poll.table.get p).doze)
      ∧ (∀ p, (committed tag .poll s).period p = s.period p →
          ((committed tag .poll s).poll.schedule.get p).next = (s.poll.schedule.get p).next
            ∧ (committed tag .poll s).settleMark p = s.settleMark p)
      ∧ (∀ p, (committed tag .poll s).period p ≠ s.period p →
          ((committed tag .poll s).poll.schedule.get p).next = nextPoll ((committed tag .poll s).period p) s.tick
            ∧ (committed tag .poll s).settleMark p = true)
      ∧ (((committed tag .poll s).poll.schedule.get .basa).code ≠ (s.poll.schedule.get .basa).code →
          (committed tag .poll s).dock.cadence = ((committed tag .poll s).poll.schedule.get .basa).code) := by
  let v : State :=
    { deliverAny s with poll := { (deliverAny s).poll with table := readPollTable (deliverAny s).staging.poll } }
  have hpoll : v.poll = { s.poll with table := readPollTable s.staging.poll } := by
    show { (deliverAny s).poll with table := readPollTable (deliverAny s).staging.poll } = _
    rw [deliverAny_poll, deliverAny_staging]
  have hadvisor : v.advisor = s.advisor := deliverAny_advisor s
  have hpen : v.pen = s.pen := deliverAny_pen s
  have htick : v.tick = s.tick := deliverAny_tick s
  have hschedule : v.poll.schedule = s.poll.schedule := by rw [hpoll]
  have hperiod : ∀ p, v.period p = s.period p := fun p => period_congr (by rw [hschedule]) (by rw [hpoll])
  obtain ⟨hbase, hget, hcadence⟩ := recomputeCadences_renews v
  rw [committed_of (show commitTable .poll (deliverAny s) = (recomputeCadences v, _) from rfl), deliverAny_staging]
  generalize recomputeCadences v = w at hbase hget hcadence ⊢
  clear_value v
  have hcode : ∀ p, (w.poll.schedule.get p).code = v.chosenCode p := fun p => by rw [hget, renewedSchedule_code]
  refine ⟨rfl, ?_, fun p => ?_, fun p hp => ?_, fun p hp => ?_, fun hcodes => ?_⟩
  · exact hbase.table.trans (congrArg PollBlock.table hpoll)
  · refine (hcode p).trans ?_
    rw [chosenCode_eq, hadvisor, hpen, ← hbase.table]
    rfl
  · have hkeeps := (renewed_schedule hbase (hget p)).1 (Eq.trans hp (hperiod p).symm)
    unfold State.settleMark at hkeeps ⊢
    rw [hschedule] at hkeeps
    exact hkeeps
  · have hrenews := (renewed_schedule hbase (hget p)).2 fun h => hp (Eq.trans h (hperiod p))
    rw [htick] at hrenews
    exact hrenews
  · have hnew := hcode .basa
    refine (hcadence ?_).trans hnew.symm
    rw [← hnew, hschedule]
    exact hcodes

theorem committed_posture (h : ∃ e ∈ s.staging.posture, (readPostureRow e).enabled = true) :
    (committed tag .posture s).host.slot
        = some { tag := tag, kind := 4, body := .committed false (countAdjusted postureRowClamped s.staging.posture) }
      ∧ (committed tag .posture s).posture
          = { s.posture with table := s.staging.posture.map readPostureRow, candidate := none, dwell := none } := by
  rw [committed_of (table := .posture) (commitPosture_of_enabled (by rw [deliverAny_staging]; exact h)), deliverAny_staging]
  refine ⟨rfl, ?_⟩
  show { (deliverAny s).posture with table := s.staging.posture.map readPostureRow, candidate := none, dwell := none } = _
  rw [deliverAny_posture]

theorem committed_curve (h : ∀ k, k + 1 < s.staging.curve.length → ascendsAt s.staging.curve k) :
    (committed tag .curve s).host.slot
        = some { tag := tag, kind := 4, body := .committed false (countAdjusted breakpointClamped s.staging.curve) }
      ∧ (committed tag .curve s).pen = { s.pen with curve := s.staging.curve.map readBreakpoint } := by
  rw [committed_of (table := .curve) (commitCurve_of_ascending (by rw [deliverAny_staging]; exact h)), deliverAny_staging]
  refine ⟨rfl, ?_⟩
  show { (deliverAny s).pen with curve := s.staging.curve.map readBreakpoint } = _
  rw [deliverAny_pen]

theorem committed_orient :
    (committed tag .orient s).host.slot = some { tag := tag, kind := 4, body := .committed false 0 }
      ∧ (committed tag .orient s).orient.table = readOrientTable s.staging.orient
      ∧ (committed tag .orient s).orient.candidate = none ∧ (committed tag .orient s).orient.dwell = none ∧
      let set := (readOrientTable s.staging.orient).get s.orient.posture
      (set = 0 ∨ inSet set s.orient.current = true →
          (committed tag .orient s).orient.current = s.orient.current ∧ (committed tag .orient s).advisor = s.advisor)
        ∧ (set ≠ 0 → inSet set s.orient.current = false →
            NearestAllowed set s.orient.heldO (committed tag .orient s).orient.current
              ∧ .orientation (committed tag .orient s).orient.current s.orient.locked .forced ∈ (committed tag .orient s).host.events
              ∧ (committed tag .orient s).advisor.lastActivity = s.tick) := by
  have horient := deliverAny_orient s
  have hadvisor := deliverAny_advisor s
  have htick := deliverAny_tick s
  rw [committed_of (show commitTable .orient (deliverAny s)
    = (applyOrientTable (readOrientTable (deliverAny s).staging.orient) (deliverAny s), _) from rfl), deliverAny_staging]
  generalize deliverAny s = u at horient hadvisor htick ⊢
  generalize readOrientTable s.staging.orient = table
  obtain ⟨htable, hcandidate, hdwell⟩ := applyOrientTable_orient table u
  refine ⟨rfl, htable, hcandidate, hdwell, fun hallowed => ?_, fun hset hout => ?_⟩
  · rw [← horient] at hallowed
    rw [applyOrientTable_of_allowed hallowed]
    exact ⟨(congrArg OrientBlock.current horient : u.orient.current = s.orient.current), hadvisor⟩
  · rw [← horient] at hset hout
    obtain ⟨v, hv, hvtick, hnearest, happly⟩ := applyOrientTable_of_disallowed hset hout
    rw [happly]
    obtain ⟨hforced, hevent, hactivity⟩ := forceOrientation_does v.forcedTarget v
    generalize reportRotation (changeOrientation v.forcedTarget .forced v) = w at hforced hevent hactivity ⊢
    have hcurrent : w.orient.current = v.forcedTarget := by rw [hforced]
    have hlocked : v.orient.locked = s.orient.locked := by rw [hv, ← horient]
    rw [← hcurrent, horient] at hnearest
    rw [← hcurrent, hlocked] at hevent
    exact ⟨hnearest, hevent, hactivity.trans (hvtick.trans htick)⟩

theorem committed_policy :
    (committed tag .policy s).host.slot
        = some { tag := tag, kind := 4, body := .committed false (countAdjusted policyRowClamped s.staging.policy) }
      ∧ (committed tag .policy s).advisor.table = s.staging.policy.map readPolicyRow ∧
      let armed : State := rowsArmed (s.staging.policy.map readPolicyRow) s
      (¬ (s.advisor.platform = .awake ∨ s.advisor.platform = .advised) → (committed tag .policy s).advisor = armed.advisor)
        ∧ (∀ n, s.advisor.platform = .awake → armed.Ready n → (∀ m, m < n → ¬ armed.Ready m) →
            (committed tag .policy s).advisor.platform = .advised ∧ (committed tag .policy s).advisor.advising = some n
              ∧ (committed tag .policy s).host.events = addEvent s.host.events (.sleepAdvice .advise n))
        ∧ (s.advisor.platform = .awake → (∀ m, ¬ armed.Ready m) →
            (committed tag .policy s).advisor.platform = .awake ∧ (committed tag .policy s).host.events = s.host.events)
        ∧ (∀ n, s.advisor.platform = .advised → s.advisor.advising = some n →
            (armed.policyHolds (armed.policyRow n) = true → (committed tag .policy s).advisor = armed.advisor)
              ∧ (armed.policyHolds (armed.policyRow n) = false → (∀ m, ¬ armed.Ready m) →
                  (committed tag .policy s).advisor.platform = .awake ∧ (committed tag .policy s).advisor.advising = none
                    ∧ (committed tag .policy s).host.events = addEvent s.host.events (.sleepAdvice .withdrawn n))) := by
  have hadvisor := deliverAny_advisor s
  have htick := deliverAny_tick s
  have hevents := deliverAny_events s
  rw [committed_of (show commitTable .policy (deliverAny s)
    = (applyPolicy ((deliverAny s).staging.policy.map readPolicyRow) (deliverAny s), _) from rfl), deliverAny_staging]
  generalize deliverAny s = u at hadvisor htick hevents ⊢
  generalize s.staging.policy.map readPolicyRow = table
  have harmed : (rowsArmed table u).advisor = (rowsArmed table s).advisor := by
    unfold rowsArmed armRows
    dsimp only
    rw [hadvisor]
  have hready : ∀ m, (rowsArmed table u).Ready m ↔ (rowsArmed table s).Ready m := ready_congr harmed htick
  have hholds := policyHolds_congr harmed
  dsimp only
  rw [← hadvisor, ← hevents, ← harmed]
  simp only [← hready, ← hholds]
  refine ⟨rfl, applyPolicy_table table u, fun hdown => ?_, fun n hawake hn hfirst => ?_, fun hawake hnone => ?_,
    fun n hadvised hadvising => ⟨fun hstands => ?_, fun hfails hnone => ?_⟩⟩
  · rw [applyPolicy_of_down hdown]
    rfl
  · rw [applyPolicy_of_awake hawake, sleepEvaluate_of_ready (s := rowsArmed table u) hawake hn hfirst]
    exact ⟨rfl, rfl, rfl⟩
  · rw [applyPolicy_of_awake hawake, sleepEvaluate_of_idle (s := rowsArmed table u) hawake hnone]
    exact ⟨hawake, rfl⟩
  · rw [applyPolicy_of_advised hadvised, retestAdvice_stands (s := rowsArmed table u) hadvising hstands]
    rfl
  · rw [applyPolicy_of_advised hadvised]
    exact retestAdvice_withdraws hadvising hfails hnone

theorem committed_param (hlength : s.staging.param.length = 41) :
    (committed tag .param s).host.slot
        = some { tag := tag, kind := 4, body := .committed false (paramsClamped s.staging.param) }
      ∧ (∀ p : Param, ∃ low high default, paramRanges[p.index]? = some (low, high, default)
          ∧ (committed tag .param s).param p = max low (min high (wordAt (s.staging.param.getD p.index []) 0)))
      ∧ ((s.advisor.platform = .awake ∨ s.advisor.platform = .advised) →
          (committed tag .param s).supply.budget = (committed tag .param s).param .budgetTotal)
      ∧ (¬ (s.advisor.platform = .awake ∨ s.advisor.platform = .advised) →
          (committed tag .param s).supply.budget = (committed tag .param s).param .sleepBudget)
      ∧ (s.latch.state = .locked → (committed tag .param s).supply.requests = s.supply.requests)
      ∧ (s.latch.state ≠ .locked →
          (committed tag .param s).supply.requests
            = { s.supply.requests with latch := (committed tag .param s).param .latchDraw })
      ∧ (s.Allocated →
          (committed tag .param s).supply.grants
            = divideBudget (committed tag .param s).supply.budget (committed tag .param s).supply.requests)
      ∧ (s.pen.state = .charging → ¬ (s.advisor.platform = .awake ∨ s.advisor.platform = .advised) →
          s.param .chargeInSleep ≠ 0 → (committed tag .param s).param .chargeInSleep = 0 →
            ∃ g, (committed tag .param s).leadingGate = some g ∧ s.PausesAt g (committed tag .param s))
      ∧ (s.pen.state = .paused → s.param .chargeInSleep = 0 → (committed tag .param s).param .chargeInSleep ≠ 0 →
          Rereads s (committed tag .param s)) := by
  have hadvisor := deliverAny_advisor s
  have hsupply := deliverAny_supply s
  have hpen := deliverAny_pen s
  have hlatch := deliverAny_latch s
  have hparam := deliverAny_param s .chargeInSleep
  rw [committed_of (show commitTable .param (deliverAny s)
    = (applyParams (readParams (deliverAny s).staging.param) (deliverAny s), _) from rfl), deliverAny_staging]
  generalize deliverAny s = u at hadvisor hsupply hpen hlatch hparam ⊢
  have hvalues := readParams_getD hlength
  generalize readParams s.staging.param = params at hvalues ⊢
  have hnew := applyParams_supply params u
  have hbudget := applyParams_budget params u
  have hrequests := applyParams_requests params u
  have hgrants := applyParams_grants (params := params) (s := u)
  have hpauses := applyParams_pauses (params := params) (s := u)
  have hrereads := applyParams_rereads (params := params) (s := u)
  generalize applyParams params u = w at hnew hbudget hrequests hgrants hpauses hrereads ⊢
  rw [hadvisor] at hbudget hpauses
  rw [hlatch, hsupply] at hrequests
  rw [hsupply] at hgrants
  rw [hpen, hparam] at hpauses hrereads
  refine ⟨rfl, fun p => ?_, fun hup => ?_, fun hdown => ?_, hrequests.1, hrequests.2, fun h => hgrants h.2,
    fun hcharging hdown hwas hnow => ?_, fun hpaused hwas hnow => ?_⟩
  · obtain ⟨low, high, default, hrange, hvalue⟩ := hvalues p
    exact ⟨low, high, default, hrange, (congrArg (fun list : List Nat => list.getD p.index 0) hnew.1).trans hvalue⟩
  · exact hbudget.trans (if_pos ((hostUp_iff _).2 hup))
  · exact hbudget.trans (if_neg fun hup => hdown ((hostUp_iff _).1 hup))
  · obtain ⟨g, hgate, hpause⟩ := hpauses hcharging (Bool.eq_false_iff.2 fun hup => hdown ((hostUp_iff _).1 hup)) hwas hnow
    exact ⟨g, hgate, hpause.of_same (congrArg PenBlock.faults hpen)⟩
  · obtain ⟨hopen, hleads⟩ := hrereads hpaused hwas hnow
    rw [hpen] at hopen
    exact ⟨hopen, hleads⟩

end

/-- Settles O54: each table's commit by its own lemma, a refusal as an answer alone, and one frame for all. -/
theorem tableCommitsApplyTheStagingCopy : Obligations.TableCommitsApplyTheStagingCopy := by
  intro tag table s
  refine ⟨_, exec_tableCommit tag table s, committed_staging tag table s, ?_⟩
  refine ⟨?_, ?_, ?_, ?_, ?_, ?_, ?_, ?_, ?_, ?_, ?_, ?_, fun b hb => committed_frame tag table s b fun h => hb ?_⟩
  · rintro rfl hhold
    exact committed_of_refused (table := .route) (commitRoute_of_hold (by rw [deliverAny_route]; exact hhold)) tag
  · rintro index why rfl hhold hfault
    exact committed_of_refused (table := .route) (commitRoute_of_fault (by rw [deliverAny_route]; exact hhold) (by rw [deliverAny_staging]; exact hfault)) tag
  · rintro rfl hhold hfault hidle
    obtain ⟨htable, hruntime, hheld, hslot⟩ := committed_route_applied tag s hhold hfault hidle
    rw [countAdjusted, funext routeEntryClamped_eq] at hslot
    exact ⟨htable, hruntime, hheld, hslot⟩
  · rintro rfl hhold hfault hwalking
    obtain ⟨hroute, hslot⟩ := committed_route_held tag s hhold hfault hwalking
    rw [countAdjusted, funext routeEntryClamped_eq] at hslot
    exact ⟨hroute, hslot⟩
  · rintro rfl
    obtain ⟨hslot, htable, hrest⟩ := committed_poll tag s
    exact ⟨hslot, fun k p hp => (congrArg (fun t : PerPolled Cadence => t.get p) htable).trans (readPollTable_get _ hp), hrest⟩
  · rintro rfl henabled
    obtain ⟨hslot, hposture⟩ := committed_posture tag s henabled
    rw [countAdjusted, funext postureRowClamped_eq] at hslot
    exact ⟨hslot, hposture⟩
  · rintro rfl hdisabled
    exact committed_of_refused (table := .posture) (commitPosture_of_disabled (by rw [deliverAny_staging]; exact hdisabled)) tag
  · rintro rfl
    exact committed_orient tag s
  · rintro rfl hascending
    exact committed_curve tag s hascending
  · rintro k rfl hk hfails hbefore
    refine committed_of_refused (table := .curve) (commitCurve_of_first (u := deliverAny s) (k := k) ?_ ?_ ?_) tag <;> rw [deliverAny_staging]
    · exact hk
    · exact Nat.not_lt.2 hfails
    · exact hbefore
  · rintro rfl
    exact committed_policy tag s
  · rintro rfl hlength
    obtain ⟨hslot, hparams, hup, hdown, hlocked, hunlocked, hgrants, hpauses, hrereads⟩ := committed_param tag s hlength
    rw [paramsClamped_eq] at hslot
    exact ⟨hslot, hparams, hup, hdown, hlocked, hunlocked, hgrants, hpauses, fun hpaused _ hwas hnow => hrereads hpaused hwas hnow⟩
  · exact (by decide : ∀ b ∈ Block.slot :: Block.pulse :: commitBlocks, b ∈ [Block.routeTable, .routeRuntime, .routeHold, .poll,
      .posture, .orient, .params, .supply, .pen, .dockLink, .advisor, .events, .slot, .pulse]) b h

end Sys2Proof.Machine
end
